-- ==== Sys2Proof/Word.lean ====
section
/-! DEFINITION. The word types of the machine: registers are 64 bits (R50), instruction words 32 bits (R200),
memory cells bytes. -/

namespace Sys2Proof

/-- A register of the spec: every register is 64 bits wide (R50). -/
abbrev Word := BitVec 64

/-- An instruction word (R200). -/
abbrev InstrWord := BitVec 32

/-- A byte of memory. -/
abbrev Byte := BitVec 8

end Sys2Proof
end

