-- ==== Sys2Proof/Syntax.lean ====
section
/-! DEFINITION. The instructions: one constructor per row of spec/opcode_table.json, in its order. The operand `t`
is the number of the general register `Xt` (R20); an index stands in the constructor's name (R206). -/

namespace Sys2Proof

/-- The `MRS` and `MSR` accessors of the spec (R8). The name is the row's mnemonic. -/
inductive Instr where
  | mrsPmccfiltrEl0 (t : Nat)
  | msrPmccfiltrEl0 (t : Nat)
  | mrsPmccntrEl0 (t : Nat)
  | msrPmccntrEl0 (t : Nat)
  | mrsPmccntsvrEl1 (t : Nat)
  | mrsPmceid0El0 (t : Nat)
  | mrsPmceid1El0 (t : Nat)
  | mrsPmcntenclrEl0 (t : Nat)
  | msrPmcntenclrEl0 (t : Nat)
  | mrsPmcntensetEl0 (t : Nat)
  | msrPmcntensetEl0 (t : Nat)
  | mrsPmcrEl0 (t : Nat)
  | msrPmcrEl0 (t : Nat)
  | mrsPmecrEl1 (t : Nat)
  | msrPmecrEl1 (t : Nat)
  | mrsPmevcntr0El0 (t : Nat)
  | mrsPmevcntr1El0 (t : Nat)
  | mrsPmevcntr2El0 (t : Nat)
  | mrsPmevcntr3El0 (t : Nat)
  | mrsPmevcntr4El0 (t : Nat)
  | mrsPmevcntr5El0 (t : Nat)
  | mrsPmevcntr6El0 (t : Nat)
  | mrsPmevcntr7El0 (t : Nat)
  | mrsPmevcntr8El0 (t : Nat)
  | mrsPmevcntr9El0 (t : Nat)
  | mrsPmevcntr10El0 (t : Nat)
  | mrsPmevcntr11El0 (t : Nat)
  | mrsPmevcntr12El0 (t : Nat)
  | mrsPmevcntr13El0 (t : Nat)
  | mrsPmevcntr14El0 (t : Nat)
  | mrsPmevcntr15El0 (t : Nat)
  | mrsPmevcntr16El0 (t : Nat)
  | mrsPmevcntr17El0 (t : Nat)
  | mrsPmevcntr18El0 (t : Nat)
  | mrsPmevcntr19El0 (t : Nat)
  | mrsPmevcntr20El0 (t : Nat)
  | mrsPmevcntr21El0 (t : Nat)
  | mrsPmevcntr22El0 (t : Nat)
  | mrsPmevcntr23El0 (t : Nat)
  | mrsPmevcntr24El0 (t : Nat)
  | mrsPmevcntr25El0 (t : Nat)
  | mrsPmevcntr26El0 (t : Nat)
  | mrsPmevcntr27El0 (t : Nat)
  | mrsPmevcntr28El0 (t : Nat)
  | mrsPmevcntr29El0 (t : Nat)
  | mrsPmevcntr30El0 (t : Nat)
  | msrPmevcntr0El0 (t : Nat)
  | msrPmevcntr1El0 (t : Nat)
  | msrPmevcntr2El0 (t : Nat)
  | msrPmevcntr3El0 (t : Nat)
  | msrPmevcntr4El0 (t : Nat)
  | msrPmevcntr5El0 (t : Nat)
  | msrPmevcntr6El0 (t : Nat)
  | msrPmevcntr7El0 (t : Nat)
  | msrPmevcntr8El0 (t : Nat)
  | msrPmevcntr9El0 (t : Nat)
  | msrPmevcntr10El0 (t : Nat)
  | msrPmevcntr11El0 (t : Nat)
  | msrPmevcntr12El0 (t : Nat)
  | msrPmevcntr13El0 (t : Nat)
  | msrPmevcntr14El0 (t : Nat)
  | msrPmevcntr15El0 (t : Nat)
  | msrPmevcntr16El0 (t : Nat)
  | msrPmevcntr17El0 (t : Nat)
  | msrPmevcntr18El0 (t : Nat)
  | msrPmevcntr19El0 (t : Nat)
  | msrPmevcntr20El0 (t : Nat)
  | msrPmevcntr21El0 (t : Nat)
  | msrPmevcntr22El0 (t : Nat)
  | msrPmevcntr23El0 (t : Nat)
  | msrPmevcntr24El0 (t : Nat)
  | msrPmevcntr25El0 (t : Nat)
  | msrPmevcntr26El0 (t : Nat)
  | msrPmevcntr27El0 (t : Nat)
  | msrPmevcntr28El0 (t : Nat)
  | msrPmevcntr29El0 (t : Nat)
  | msrPmevcntr30El0 (t : Nat)
  | mrsPmevcntsvr0El1 (t : Nat)
  | mrsPmevcntsvr1El1 (t : Nat)
  | mrsPmevcntsvr2El1 (t : Nat)
  | mrsPmevcntsvr3El1 (t : Nat)
  | mrsPmevcntsvr4El1 (t : Nat)
  | mrsPmevcntsvr5El1 (t : Nat)
  | mrsPmevcntsvr6El1 (t : Nat)
  | mrsPmevcntsvr7El1 (t : Nat)
  | mrsPmevcntsvr8El1 (t : Nat)
  | mrsPmevcntsvr9El1 (t : Nat)
  | mrsPmevcntsvr10El1 (t : Nat)
  | mrsPmevcntsvr11El1 (t : Nat)
  | mrsPmevcntsvr12El1 (t : Nat)
  | mrsPmevcntsvr13El1 (t : Nat)
  | mrsPmevcntsvr14El1 (t : Nat)
  | mrsPmevcntsvr15El1 (t : Nat)
  | mrsPmevcntsvr16El1 (t : Nat)
  | mrsPmevcntsvr17El1 (t : Nat)
  | mrsPmevcntsvr18El1 (t : Nat)
  | mrsPmevcntsvr19El1 (t : Nat)
  | mrsPmevcntsvr20El1 (t : Nat)
  | mrsPmevcntsvr21El1 (t : Nat)
  | mrsPmevcntsvr22El1 (t : Nat)
  | mrsPmevcntsvr23El1 (t : Nat)
  | mrsPmevcntsvr24El1 (t : Nat)
  | mrsPmevcntsvr25El1 (t : Nat)
  | mrsPmevcntsvr26El1 (t : Nat)
  | mrsPmevcntsvr27El1 (t : Nat)
  | mrsPmevcntsvr28El1 (t : Nat)
  | mrsPmevcntsvr29El1 (t : Nat)
  | mrsPmevcntsvr30El1 (t : Nat)
  | mrsPmevtyper0El0 (t : Nat)
  | mrsPmevtyper1El0 (t : Nat)
  | mrsPmevtyper2El0 (t : Nat)
  | mrsPmevtyper3El0 (t : Nat)
  | mrsPmevtyper4El0 (t : Nat)
  | mrsPmevtyper5El0 (t : Nat)
  | mrsPmevtyper6El0 (t : Nat)
  | mrsPmevtyper7El0 (t : Nat)
  | mrsPmevtyper8El0 (t : Nat)
  | mrsPmevtyper9El0 (t : Nat)
  | mrsPmevtyper10El0 (t : Nat)
  | mrsPmevtyper11El0 (t : Nat)
  | mrsPmevtyper12El0 (t : Nat)
  | mrsPmevtyper13El0 (t : Nat)
  | mrsPmevtyper14El0 (t : Nat)
  | mrsPmevtyper15El0 (t : Nat)
  | mrsPmevtyper16El0 (t : Nat)
  | mrsPmevtyper17El0 (t : Nat)
  | mrsPmevtyper18El0 (t : Nat)
  | mrsPmevtyper19El0 (t : Nat)
  | mrsPmevtyper20El0 (t : Nat)
  | mrsPmevtyper21El0 (t : Nat)
  | mrsPmevtyper22El0 (t : Nat)
  | mrsPmevtyper23El0 (t : Nat)
  | mrsPmevtyper24El0 (t : Nat)
  | mrsPmevtyper25El0 (t : Nat)
  | mrsPmevtyper26El0 (t : Nat)
  | mrsPmevtyper27El0 (t : Nat)
  | mrsPmevtyper28El0 (t : Nat)
  | mrsPmevtyper29El0 (t : Nat)
  | mrsPmevtyper30El0 (t : Nat)
  | msrPmevtyper0El0 (t : Nat)
  | msrPmevtyper1El0 (t : Nat)
  | msrPmevtyper2El0 (t : Nat)
  | msrPmevtyper3El0 (t : Nat)
  | msrPmevtyper4El0 (t : Nat)
  | msrPmevtyper5El0 (t : Nat)
  | msrPmevtyper6El0 (t : Nat)
  | msrPmevtyper7El0 (t : Nat)
  | msrPmevtyper8El0 (t : Nat)
  | msrPmevtyper9El0 (t : Nat)
  | msrPmevtyper10El0 (t : Nat)
  | msrPmevtyper11El0 (t : Nat)
  | msrPmevtyper12El0 (t : Nat)
  | msrPmevtyper13El0 (t : Nat)
  | msrPmevtyper14El0 (t : Nat)
  | msrPmevtyper15El0 (t : Nat)
  | msrPmevtyper16El0 (t : Nat)
  | msrPmevtyper17El0 (t : Nat)
  | msrPmevtyper18El0 (t : Nat)
  | msrPmevtyper19El0 (t : Nat)
  | msrPmevtyper20El0 (t : Nat)
  | msrPmevtyper21El0 (t : Nat)
  | msrPmevtyper22El0 (t : Nat)
  | msrPmevtyper23El0 (t : Nat)
  | msrPmevtyper24El0 (t : Nat)
  | msrPmevtyper25El0 (t : Nat)
  | msrPmevtyper26El0 (t : Nat)
  | msrPmevtyper27El0 (t : Nat)
  | msrPmevtyper28El0 (t : Nat)
  | msrPmevtyper29El0 (t : Nat)
  | msrPmevtyper30El0 (t : Nat)
  | mrsPmiarEl1 (t : Nat)
  | msrPmiarEl1 (t : Nat)
  | mrsPmicfiltrEl0 (t : Nat)
  | msrPmicfiltrEl0 (t : Nat)
  | mrsPmicntrEl0 (t : Nat)
  | msrPmicntrEl0 (t : Nat)
  | mrsPmicntsvrEl1 (t : Nat)
  | mrsPmintenclrEl1 (t : Nat)
  | msrPmintenclrEl1 (t : Nat)
  | mrsPmintensetEl1 (t : Nat)
  | msrPmintensetEl1 (t : Nat)
  | mrsPmmirEl1 (t : Nat)
  | mrsPmovsclrEl0 (t : Nat)
  | msrPmovsclrEl0 (t : Nat)
  | mrsPmovssetEl0 (t : Nat)
  | msrPmovssetEl0 (t : Nat)
  | mrsPmselrEl0 (t : Nat)
  | msrPmselrEl0 (t : Nat)
  | mrsPmsscrEl1 (t : Nat)
  | msrPmsscrEl1 (t : Nat)
  | msrPmswincEl0 (t : Nat)
  | mrsPmuacrEl1 (t : Nat)
  | msrPmuacrEl1 (t : Nat)
  | mrsPmuserenrEl0 (t : Nat)
  | msrPmuserenrEl0 (t : Nat)
  | mrsPmxevcntrEl0 (t : Nat)
  | msrPmxevcntrEl0 (t : Nat)
  | mrsPmxevtyperEl0 (t : Nat)
  | msrPmxevtyperEl0 (t : Nat)
  | msrPmzrEl0 (t : Nat)
  | mrsSpmaccessrEl1 (t : Nat)
  | msrSpmaccessrEl1 (t : Nat)
  | mrsSpmaccessrEl12 (t : Nat)
  | msrSpmaccessrEl12 (t : Nat)
  | mrsSpmaccessrEl2 (t : Nat)
  | msrSpmaccessrEl2 (t : Nat)
  | mrsSpmaccessrEl3 (t : Nat)
  | msrSpmaccessrEl3 (t : Nat)
  | mrsSpmcfgrEl1 (t : Nat)
  | mrsSpmcgcr0El1 (t : Nat)
  | mrsSpmcgcr1El1 (t : Nat)
  | mrsSpmcntenclrEl0 (t : Nat)
  | msrSpmcntenclrEl0 (t : Nat)
  | mrsSpmcntensetEl0 (t : Nat)
  | msrSpmcntensetEl0 (t : Nat)
  | mrsSpmcrEl0 (t : Nat)
  | msrSpmcrEl0 (t : Nat)
  | mrsSpmdevaffEl1 (t : Nat)
  | mrsSpmdevarchEl1 (t : Nat)
  | mrsSpmevcntr0El0 (t : Nat)
  | mrsSpmevcntr1El0 (t : Nat)
  | mrsSpmevcntr2El0 (t : Nat)
  | mrsSpmevcntr3El0 (t : Nat)
  | mrsSpmevcntr4El0 (t : Nat)
  | mrsSpmevcntr5El0 (t : Nat)
  | mrsSpmevcntr6El0 (t : Nat)
  | mrsSpmevcntr7El0 (t : Nat)
  | mrsSpmevcntr8El0 (t : Nat)
  | mrsSpmevcntr9El0 (t : Nat)
  | mrsSpmevcntr10El0 (t : Nat)
  | mrsSpmevcntr11El0 (t : Nat)
  | mrsSpmevcntr12El0 (t : Nat)
  | mrsSpmevcntr13El0 (t : Nat)
  | mrsSpmevcntr14El0 (t : Nat)
  | mrsSpmevcntr15El0 (t : Nat)
  | msrSpmevcntr0El0 (t : Nat)
  | msrSpmevcntr1El0 (t : Nat)
  | msrSpmevcntr2El0 (t : Nat)
  | msrSpmevcntr3El0 (t : Nat)
  | msrSpmevcntr4El0 (t : Nat)
  | msrSpmevcntr5El0 (t : Nat)
  | msrSpmevcntr6El0 (t : Nat)
  | msrSpmevcntr7El0 (t : Nat)
  | msrSpmevcntr8El0 (t : Nat)
  | msrSpmevcntr9El0 (t : Nat)
  | msrSpmevcntr10El0 (t : Nat)
  | msrSpmevcntr11El0 (t : Nat)
  | msrSpmevcntr12El0 (t : Nat)
  | msrSpmevcntr13El0 (t : Nat)
  | msrSpmevcntr14El0 (t : Nat)
  | msrSpmevcntr15El0 (t : Nat)
  | mrsSpmevfilt2r0El0 (t : Nat)
  | mrsSpmevfilt2r1El0 (t : Nat)
  | mrsSpmevfilt2r2El0 (t : Nat)
  | mrsSpmevfilt2r3El0 (t : Nat)
  | mrsSpmevfilt2r4El0 (t : Nat)
  | mrsSpmevfilt2r5El0 (t : Nat)
  | mrsSpmevfilt2r6El0 (t : Nat)
  | mrsSpmevfilt2r7El0 (t : Nat)
  | mrsSpmevfilt2r8El0 (t : Nat)
  | mrsSpmevfilt2r9El0 (t : Nat)
  | mrsSpmevfilt2r10El0 (t : Nat)
  | mrsSpmevfilt2r11El0 (t : Nat)
  | mrsSpmevfilt2r12El0 (t : Nat)
  | mrsSpmevfilt2r13El0 (t : Nat)
  | mrsSpmevfilt2r14El0 (t : Nat)
  | mrsSpmevfilt2r15El0 (t : Nat)
  | msrSpmevfilt2r0El0 (t : Nat)
  | msrSpmevfilt2r1El0 (t : Nat)
  | msrSpmevfilt2r2El0 (t : Nat)
  | msrSpmevfilt2r3El0 (t : Nat)
  | msrSpmevfilt2r4El0 (t : Nat)
  | msrSpmevfilt2r5El0 (t : Nat)
  | msrSpmevfilt2r6El0 (t : Nat)
  | msrSpmevfilt2r7El0 (t : Nat)
  | msrSpmevfilt2r8El0 (t : Nat)
  | msrSpmevfilt2r9El0 (t : Nat)
  | msrSpmevfilt2r10El0 (t : Nat)
  | msrSpmevfilt2r11El0 (t : Nat)
  | msrSpmevfilt2r12El0 (t : Nat)
  | msrSpmevfilt2r13El0 (t : Nat)
  | msrSpmevfilt2r14El0 (t : Nat)
  | msrSpmevfilt2r15El0 (t : Nat)
  | mrsSpmevfiltr0El0 (t : Nat)
  | mrsSpmevfiltr1El0 (t : Nat)
  | mrsSpmevfiltr2El0 (t : Nat)
  | mrsSpmevfiltr3El0 (t : Nat)
  | mrsSpmevfiltr4El0 (t : Nat)
  | mrsSpmevfiltr5El0 (t : Nat)
  | mrsSpmevfiltr6El0 (t : Nat)
  | mrsSpmevfiltr7El0 (t : Nat)
  | mrsSpmevfiltr8El0 (t : Nat)
  | mrsSpmevfiltr9El0 (t : Nat)
  | mrsSpmevfiltr10El0 (t : Nat)
  | mrsSpmevfiltr11El0 (t : Nat)
  | mrsSpmevfiltr12El0 (t : Nat)
  | mrsSpmevfiltr13El0 (t : Nat)
  | mrsSpmevfiltr14El0 (t : Nat)
  | mrsSpmevfiltr15El0 (t : Nat)
  | msrSpmevfiltr0El0 (t : Nat)
  | msrSpmevfiltr1El0 (t : Nat)
  | msrSpmevfiltr2El0 (t : Nat)
  | msrSpmevfiltr3El0 (t : Nat)
  | msrSpmevfiltr4El0 (t : Nat)
  | msrSpmevfiltr5El0 (t : Nat)
  | msrSpmevfiltr6El0 (t : Nat)
  | msrSpmevfiltr7El0 (t : Nat)
  | msrSpmevfiltr8El0 (t : Nat)
  | msrSpmevfiltr9El0 (t : Nat)
  | msrSpmevfiltr10El0 (t : Nat)
  | msrSpmevfiltr11El0 (t : Nat)
  | msrSpmevfiltr12El0 (t : Nat)
  | msrSpmevfiltr13El0 (t : Nat)
  | msrSpmevfiltr14El0 (t : Nat)
  | msrSpmevfiltr15El0 (t : Nat)
  | mrsSpmevtyper0El0 (t : Nat)
  | mrsSpmevtyper1El0 (t : Nat)
  | mrsSpmevtyper2El0 (t : Nat)
  | mrsSpmevtyper3El0 (t : Nat)
  | mrsSpmevtyper4El0 (t : Nat)
  | mrsSpmevtyper5El0 (t : Nat)
  | mrsSpmevtyper6El0 (t : Nat)
  | mrsSpmevtyper7El0 (t : Nat)
  | mrsSpmevtyper8El0 (t : Nat)
  | mrsSpmevtyper9El0 (t : Nat)
  | mrsSpmevtyper10El0 (t : Nat)
  | mrsSpmevtyper11El0 (t : Nat)
  | mrsSpmevtyper12El0 (t : Nat)
  | mrsSpmevtyper13El0 (t : Nat)
  | mrsSpmevtyper14El0 (t : Nat)
  | mrsSpmevtyper15El0 (t : Nat)
  | msrSpmevtyper0El0 (t : Nat)
  | msrSpmevtyper1El0 (t : Nat)
  | msrSpmevtyper2El0 (t : Nat)
  | msrSpmevtyper3El0 (t : Nat)
  | msrSpmevtyper4El0 (t : Nat)
  | msrSpmevtyper5El0 (t : Nat)
  | msrSpmevtyper6El0 (t : Nat)
  | msrSpmevtyper7El0 (t : Nat)
  | msrSpmevtyper8El0 (t : Nat)
  | msrSpmevtyper9El0 (t : Nat)
  | msrSpmevtyper10El0 (t : Nat)
  | msrSpmevtyper11El0 (t : Nat)
  | msrSpmevtyper12El0 (t : Nat)
  | msrSpmevtyper13El0 (t : Nat)
  | msrSpmevtyper14El0 (t : Nat)
  | msrSpmevtyper15El0 (t : Nat)
  | mrsSpmiidrEl1 (t : Nat)
  | mrsSpmintenclrEl1 (t : Nat)
  | msrSpmintenclrEl1 (t : Nat)
  | mrsSpmintensetEl1 (t : Nat)
  | msrSpmintensetEl1 (t : Nat)
  | mrsSpmovsclrEl0 (t : Nat)
  | msrSpmovsclrEl0 (t : Nat)
  | mrsSpmovssetEl0 (t : Nat)
  | msrSpmovssetEl0 (t : Nat)
  | mrsSpmrootcrEl3 (t : Nat)
  | msrSpmrootcrEl3 (t : Nat)
  | mrsSpmscrEl1 (t : Nat)
  | msrSpmscrEl1 (t : Nat)
  | mrsSpmselrEl0 (t : Nat)
  | msrSpmselrEl0 (t : Nat)
  | msrSpmzrEl0 (t : Nat)
  | mrsMdcrEl2 (t : Nat)
  | msrMdcrEl2 (t : Nat)
  | mrsMdcrEl3 (t : Nat)
  | msrMdcrEl3 (t : Nat)
  deriving DecidableEq, Repr

/-- The operand `t` of an instruction (R202). -/
def Instr.rt : Instr → Nat
  | .mrsPmccfiltrEl0 t => t
  | .msrPmccfiltrEl0 t => t
  | .mrsPmccntrEl0 t => t
  | .msrPmccntrEl0 t => t
  | .mrsPmccntsvrEl1 t => t
  | .mrsPmceid0El0 t => t
  | .mrsPmceid1El0 t => t
  | .mrsPmcntenclrEl0 t => t
  | .msrPmcntenclrEl0 t => t
  | .mrsPmcntensetEl0 t => t
  | .msrPmcntensetEl0 t => t
  | .mrsPmcrEl0 t => t
  | .msrPmcrEl0 t => t
  | .mrsPmecrEl1 t => t
  | .msrPmecrEl1 t => t
  | .mrsPmevcntr0El0 t => t
  | .mrsPmevcntr1El0 t => t
  | .mrsPmevcntr2El0 t => t
  | .mrsPmevcntr3El0 t => t
  | .mrsPmevcntr4El0 t => t
  | .mrsPmevcntr5El0 t => t
  | .mrsPmevcntr6El0 t => t
  | .mrsPmevcntr7El0 t => t
  | .mrsPmevcntr8El0 t => t
  | .mrsPmevcntr9El0 t => t
  | .mrsPmevcntr10El0 t => t
  | .mrsPmevcntr11El0 t => t
  | .mrsPmevcntr12El0 t => t
  | .mrsPmevcntr13El0 t => t
  | .mrsPmevcntr14El0 t => t
  | .mrsPmevcntr15El0 t => t
  | .mrsPmevcntr16El0 t => t
  | .mrsPmevcntr17El0 t => t
  | .mrsPmevcntr18El0 t => t
  | .mrsPmevcntr19El0 t => t
  | .mrsPmevcntr20El0 t => t
  | .mrsPmevcntr21El0 t => t
  | .mrsPmevcntr22El0 t => t
  | .mrsPmevcntr23El0 t => t
  | .mrsPmevcntr24El0 t => t
  | .mrsPmevcntr25El0 t => t
  | .mrsPmevcntr26El0 t => t
  | .mrsPmevcntr27El0 t => t
  | .mrsPmevcntr28El0 t => t
  | .mrsPmevcntr29El0 t => t
  | .mrsPmevcntr30El0 t => t
  | .msrPmevcntr0El0 t => t
  | .msrPmevcntr1El0 t => t
  | .msrPmevcntr2El0 t => t
  | .msrPmevcntr3El0 t => t
  | .msrPmevcntr4El0 t => t
  | .msrPmevcntr5El0 t => t
  | .msrPmevcntr6El0 t => t
  | .msrPmevcntr7El0 t => t
  | .msrPmevcntr8El0 t => t
  | .msrPmevcntr9El0 t => t
  | .msrPmevcntr10El0 t => t
  | .msrPmevcntr11El0 t => t
  | .msrPmevcntr12El0 t => t
  | .msrPmevcntr13El0 t => t
  | .msrPmevcntr14El0 t => t
  | .msrPmevcntr15El0 t => t
  | .msrPmevcntr16El0 t => t
  | .msrPmevcntr17El0 t => t
  | .msrPmevcntr18El0 t => t
  | .msrPmevcntr19El0 t => t
  | .msrPmevcntr20El0 t => t
  | .msrPmevcntr21El0 t => t
  | .msrPmevcntr22El0 t => t
  | .msrPmevcntr23El0 t => t
  | .msrPmevcntr24El0 t => t
  | .msrPmevcntr25El0 t => t
  | .msrPmevcntr26El0 t => t
  | .msrPmevcntr27El0 t => t
  | .msrPmevcntr28El0 t => t
  | .msrPmevcntr29El0 t => t
  | .msrPmevcntr30El0 t => t
  | .mrsPmevcntsvr0El1 t => t
  | .mrsPmevcntsvr1El1 t => t
  | .mrsPmevcntsvr2El1 t => t
  | .mrsPmevcntsvr3El1 t => t
  | .mrsPmevcntsvr4El1 t => t
  | .mrsPmevcntsvr5El1 t => t
  | .mrsPmevcntsvr6El1 t => t
  | .mrsPmevcntsvr7El1 t => t
  | .mrsPmevcntsvr8El1 t => t
  | .mrsPmevcntsvr9El1 t => t
  | .mrsPmevcntsvr10El1 t => t
  | .mrsPmevcntsvr11El1 t => t
  | .mrsPmevcntsvr12El1 t => t
  | .mrsPmevcntsvr13El1 t => t
  | .mrsPmevcntsvr14El1 t => t
  | .mrsPmevcntsvr15El1 t => t
  | .mrsPmevcntsvr16El1 t => t
  | .mrsPmevcntsvr17El1 t => t
  | .mrsPmevcntsvr18El1 t => t
  | .mrsPmevcntsvr19El1 t => t
  | .mrsPmevcntsvr20El1 t => t
  | .mrsPmevcntsvr21El1 t => t
  | .mrsPmevcntsvr22El1 t => t
  | .mrsPmevcntsvr23El1 t => t
  | .mrsPmevcntsvr24El1 t => t
  | .mrsPmevcntsvr25El1 t => t
  | .mrsPmevcntsvr26El1 t => t
  | .mrsPmevcntsvr27El1 t => t
  | .mrsPmevcntsvr28El1 t => t
  | .mrsPmevcntsvr29El1 t => t
  | .mrsPmevcntsvr30El1 t => t
  | .mrsPmevtyper0El0 t => t
  | .mrsPmevtyper1El0 t => t
  | .mrsPmevtyper2El0 t => t
  | .mrsPmevtyper3El0 t => t
  | .mrsPmevtyper4El0 t => t
  | .mrsPmevtyper5El0 t => t
  | .mrsPmevtyper6El0 t => t
  | .mrsPmevtyper7El0 t => t
  | .mrsPmevtyper8El0 t => t
  | .mrsPmevtyper9El0 t => t
  | .mrsPmevtyper10El0 t => t
  | .mrsPmevtyper11El0 t => t
  | .mrsPmevtyper12El0 t => t
  | .mrsPmevtyper13El0 t => t
  | .mrsPmevtyper14El0 t => t
  | .mrsPmevtyper15El0 t => t
  | .mrsPmevtyper16El0 t => t
  | .mrsPmevtyper17El0 t => t
  | .mrsPmevtyper18El0 t => t
  | .mrsPmevtyper19El0 t => t
  | .mrsPmevtyper20El0 t => t
  | .mrsPmevtyper21El0 t => t
  | .mrsPmevtyper22El0 t => t
  | .mrsPmevtyper23El0 t => t
  | .mrsPmevtyper24El0 t => t
  | .mrsPmevtyper25El0 t => t
  | .mrsPmevtyper26El0 t => t
  | .mrsPmevtyper27El0 t => t
  | .mrsPmevtyper28El0 t => t
  | .mrsPmevtyper29El0 t => t
  | .mrsPmevtyper30El0 t => t
  | .msrPmevtyper0El0 t => t
  | .msrPmevtyper1El0 t => t
  | .msrPmevtyper2El0 t => t
  | .msrPmevtyper3El0 t => t
  | .msrPmevtyper4El0 t => t
  | .msrPmevtyper5El0 t => t
  | .msrPmevtyper6El0 t => t
  | .msrPmevtyper7El0 t => t
  | .msrPmevtyper8El0 t => t
  | .msrPmevtyper9El0 t => t
  | .msrPmevtyper10El0 t => t
  | .msrPmevtyper11El0 t => t
  | .msrPmevtyper12El0 t => t
  | .msrPmevtyper13El0 t => t
  | .msrPmevtyper14El0 t => t
  | .msrPmevtyper15El0 t => t
  | .msrPmevtyper16El0 t => t
  | .msrPmevtyper17El0 t => t
  | .msrPmevtyper18El0 t => t
  | .msrPmevtyper19El0 t => t
  | .msrPmevtyper20El0 t => t
  | .msrPmevtyper21El0 t => t
  | .msrPmevtyper22El0 t => t
  | .msrPmevtyper23El0 t => t
  | .msrPmevtyper24El0 t => t
  | .msrPmevtyper25El0 t => t
  | .msrPmevtyper26El0 t => t
  | .msrPmevtyper27El0 t => t
  | .msrPmevtyper28El0 t => t
  | .msrPmevtyper29El0 t => t
  | .msrPmevtyper30El0 t => t
  | .mrsPmiarEl1 t => t
  | .msrPmiarEl1 t => t
  | .mrsPmicfiltrEl0 t => t
  | .msrPmicfiltrEl0 t => t
  | .mrsPmicntrEl0 t => t
  | .msrPmicntrEl0 t => t
  | .mrsPmicntsvrEl1 t => t
  | .mrsPmintenclrEl1 t => t
  | .msrPmintenclrEl1 t => t
  | .mrsPmintensetEl1 t => t
  | .msrPmintensetEl1 t => t
  | .mrsPmmirEl1 t => t
  | .mrsPmovsclrEl0 t => t
  | .msrPmovsclrEl0 t => t
  | .mrsPmovssetEl0 t => t
  | .msrPmovssetEl0 t => t
  | .mrsPmselrEl0 t => t
  | .msrPmselrEl0 t => t
  | .mrsPmsscrEl1 t => t
  | .msrPmsscrEl1 t => t
  | .msrPmswincEl0 t => t
  | .mrsPmuacrEl1 t => t
  | .msrPmuacrEl1 t => t
  | .mrsPmuserenrEl0 t => t
  | .msrPmuserenrEl0 t => t
  | .mrsPmxevcntrEl0 t => t
  | .msrPmxevcntrEl0 t => t
  | .mrsPmxevtyperEl0 t => t
  | .msrPmxevtyperEl0 t => t
  | .msrPmzrEl0 t => t
  | .mrsSpmaccessrEl1 t => t
  | .msrSpmaccessrEl1 t => t
  | .mrsSpmaccessrEl12 t => t
  | .msrSpmaccessrEl12 t => t
  | .mrsSpmaccessrEl2 t => t
  | .msrSpmaccessrEl2 t => t
  | .mrsSpmaccessrEl3 t => t
  | .msrSpmaccessrEl3 t => t
  | .mrsSpmcfgrEl1 t => t
  | .mrsSpmcgcr0El1 t => t
  | .mrsSpmcgcr1El1 t => t
  | .mrsSpmcntenclrEl0 t => t
  | .msrSpmcntenclrEl0 t => t
  | .mrsSpmcntensetEl0 t => t
  | .msrSpmcntensetEl0 t => t
  | .mrsSpmcrEl0 t => t
  | .msrSpmcrEl0 t => t
  | .mrsSpmdevaffEl1 t => t
  | .mrsSpmdevarchEl1 t => t
  | .mrsSpmevcntr0El0 t => t
  | .mrsSpmevcntr1El0 t => t
  | .mrsSpmevcntr2El0 t => t
  | .mrsSpmevcntr3El0 t => t
  | .mrsSpmevcntr4El0 t => t
  | .mrsSpmevcntr5El0 t => t
  | .mrsSpmevcntr6El0 t => t
  | .mrsSpmevcntr7El0 t => t
  | .mrsSpmevcntr8El0 t => t
  | .mrsSpmevcntr9El0 t => t
  | .mrsSpmevcntr10El0 t => t
  | .mrsSpmevcntr11El0 t => t
  | .mrsSpmevcntr12El0 t => t
  | .mrsSpmevcntr13El0 t => t
  | .mrsSpmevcntr14El0 t => t
  | .mrsSpmevcntr15El0 t => t
  | .msrSpmevcntr0El0 t => t
  | .msrSpmevcntr1El0 t => t
  | .msrSpmevcntr2El0 t => t
  | .msrSpmevcntr3El0 t => t
  | .msrSpmevcntr4El0 t => t
  | .msrSpmevcntr5El0 t => t
  | .msrSpmevcntr6El0 t => t
  | .msrSpmevcntr7El0 t => t
  | .msrSpmevcntr8El0 t => t
  | .msrSpmevcntr9El0 t => t
  | .msrSpmevcntr10El0 t => t
  | .msrSpmevcntr11El0 t => t
  | .msrSpmevcntr12El0 t => t
  | .msrSpmevcntr13El0 t => t
  | .msrSpmevcntr14El0 t => t
  | .msrSpmevcntr15El0 t => t
  | .mrsSpmevfilt2r0El0 t => t
  | .mrsSpmevfilt2r1El0 t => t
  | .mrsSpmevfilt2r2El0 t => t
  | .mrsSpmevfilt2r3El0 t => t
  | .mrsSpmevfilt2r4El0 t => t
  | .mrsSpmevfilt2r5El0 t => t
  | .mrsSpmevfilt2r6El0 t => t
  | .mrsSpmevfilt2r7El0 t => t
  | .mrsSpmevfilt2r8El0 t => t
  | .mrsSpmevfilt2r9El0 t => t
  | .mrsSpmevfilt2r10El0 t => t
  | .mrsSpmevfilt2r11El0 t => t
  | .mrsSpmevfilt2r12El0 t => t
  | .mrsSpmevfilt2r13El0 t => t
  | .mrsSpmevfilt2r14El0 t => t
  | .mrsSpmevfilt2r15El0 t => t
  | .msrSpmevfilt2r0El0 t => t
  | .msrSpmevfilt2r1El0 t => t
  | .msrSpmevfilt2r2El0 t => t
  | .msrSpmevfilt2r3El0 t => t
  | .msrSpmevfilt2r4El0 t => t
  | .msrSpmevfilt2r5El0 t => t
  | .msrSpmevfilt2r6El0 t => t
  | .msrSpmevfilt2r7El0 t => t
  | .msrSpmevfilt2r8El0 t => t
  | .msrSpmevfilt2r9El0 t => t
  | .msrSpmevfilt2r10El0 t => t
  | .msrSpmevfilt2r11El0 t => t
  | .msrSpmevfilt2r12El0 t => t
  | .msrSpmevfilt2r13El0 t => t
  | .msrSpmevfilt2r14El0 t => t
  | .msrSpmevfilt2r15El0 t => t
  | .mrsSpmevfiltr0El0 t => t
  | .mrsSpmevfiltr1El0 t => t
  | .mrsSpmevfiltr2El0 t => t
  | .mrsSpmevfiltr3El0 t => t
  | .mrsSpmevfiltr4El0 t => t
  | .mrsSpmevfiltr5El0 t => t
  | .mrsSpmevfiltr6El0 t => t
  | .mrsSpmevfiltr7El0 t => t
  | .mrsSpmevfiltr8El0 t => t
  | .mrsSpmevfiltr9El0 t => t
  | .mrsSpmevfiltr10El0 t => t
  | .mrsSpmevfiltr11El0 t => t
  | .mrsSpmevfiltr12El0 t => t
  | .mrsSpmevfiltr13El0 t => t
  | .mrsSpmevfiltr14El0 t => t
  | .mrsSpmevfiltr15El0 t => t
  | .msrSpmevfiltr0El0 t => t
  | .msrSpmevfiltr1El0 t => t
  | .msrSpmevfiltr2El0 t => t
  | .msrSpmevfiltr3El0 t => t
  | .msrSpmevfiltr4El0 t => t
  | .msrSpmevfiltr5El0 t => t
  | .msrSpmevfiltr6El0 t => t
  | .msrSpmevfiltr7El0 t => t
  | .msrSpmevfiltr8El0 t => t
  | .msrSpmevfiltr9El0 t => t
  | .msrSpmevfiltr10El0 t => t
  | .msrSpmevfiltr11El0 t => t
  | .msrSpmevfiltr12El0 t => t
  | .msrSpmevfiltr13El0 t => t
  | .msrSpmevfiltr14El0 t => t
  | .msrSpmevfiltr15El0 t => t
  | .mrsSpmevtyper0El0 t => t
  | .mrsSpmevtyper1El0 t => t
  | .mrsSpmevtyper2El0 t => t
  | .mrsSpmevtyper3El0 t => t
  | .mrsSpmevtyper4El0 t => t
  | .mrsSpmevtyper5El0 t => t
  | .mrsSpmevtyper6El0 t => t
  | .mrsSpmevtyper7El0 t => t
  | .mrsSpmevtyper8El0 t => t
  | .mrsSpmevtyper9El0 t => t
  | .mrsSpmevtyper10El0 t => t
  | .mrsSpmevtyper11El0 t => t
  | .mrsSpmevtyper12El0 t => t
  | .mrsSpmevtyper13El0 t => t
  | .mrsSpmevtyper14El0 t => t
  | .mrsSpmevtyper15El0 t => t
  | .msrSpmevtyper0El0 t => t
  | .msrSpmevtyper1El0 t => t
  | .msrSpmevtyper2El0 t => t
  | .msrSpmevtyper3El0 t => t
  | .msrSpmevtyper4El0 t => t
  | .msrSpmevtyper5El0 t => t
  | .msrSpmevtyper6El0 t => t
  | .msrSpmevtyper7El0 t => t
  | .msrSpmevtyper8El0 t => t
  | .msrSpmevtyper9El0 t => t
  | .msrSpmevtyper10El0 t => t
  | .msrSpmevtyper11El0 t => t
  | .msrSpmevtyper12El0 t => t
  | .msrSpmevtyper13El0 t => t
  | .msrSpmevtyper14El0 t => t
  | .msrSpmevtyper15El0 t => t
  | .mrsSpmiidrEl1 t => t
  | .mrsSpmintenclrEl1 t => t
  | .msrSpmintenclrEl1 t => t
  | .mrsSpmintensetEl1 t => t
  | .msrSpmintensetEl1 t => t
  | .mrsSpmovsclrEl0 t => t
  | .msrSpmovsclrEl0 t => t
  | .mrsSpmovssetEl0 t => t
  | .msrSpmovssetEl0 t => t
  | .mrsSpmrootcrEl3 t => t
  | .msrSpmrootcrEl3 t => t
  | .mrsSpmscrEl1 t => t
  | .msrSpmscrEl1 t => t
  | .mrsSpmselrEl0 t => t
  | .msrSpmselrEl0 t => t
  | .msrSpmzrEl0 t => t
  | .mrsMdcrEl2 t => t
  | .msrMdcrEl2 t => t
  | .mrsMdcrEl3 t => t
  | .msrMdcrEl3 t => t

end Sys2Proof
end

