-- ==== Sys2Proof/WellFormed.lean ====
section
/-! DEFINITION. Well-formed instructions: the register number fits the field Rt (R20). The index of an array register
is fixed by the constructor, so every instruction's index is in range (R206). -/

namespace Sys2Proof

/-- `t` names X0 to X30 or, as 31, the zero register (R20). -/
def registerNumberOk (t : Nat) : Bool := decide (t ≤ 31)

/-- An instruction is well formed when its one operand is. -/
def WellFormed (i : Instr) : Bool := registerNumberOk i.rt

end Sys2Proof
end

