-- ==== Sys2Proof/Decode.lean ====
section
/-! DEFINITION. The decoder, total on 32-bit words (R204), and the encoder, both from the encoding tables of
30_encoding.md (R201, R202, R210 to R216). The file stands in a noncomputable section because Lean's runtime cannot
build a value of an inductive with more than 244 constructors that carry data; Lean's kernel evaluates all of it. -/

namespace Sys2Proof

noncomputable section

/-- The word without its Rt field, from the six fields of an encoding table (the formula of R201). -/
def sysKey (l op0 op1 crn crm op2 : Nat) : BitVec 27 :=
  BitVec.ofNat 27 (0x6A88000 + (l <<< 16) + ((op0 % 2) <<< 14) + (op1 <<< 11) + (crn <<< 7) + (crm <<< 3) + op2)

/-- What a word is to this spec (R204, R205). -/
inductive Decoded where
  /-- A row of the encoding tables. -/
  | instr (i : Instr)
  /-- One of the 14 register names in the direction that the tables mark "unallocated" (R205(a), D24). -/
  | unallocated
  /-- A word outside the instruction set of the spec: refused (R205). -/
  | outside
  deriving DecidableEq, Repr

/-- R210. Group op0 = 0b11, op1 = 0b011, CRn = 0b1001. -/
def fixedRowsR210 : List (BitVec 27 × (Nat → Instr)) :=
  [ (sysKey 1 3 3 9 13 0, .mrsPmccntrEl0),
    (sysKey 0 3 3 9 13 0, .msrPmccntrEl0),
    (sysKey 1 3 3 9 12 6, .mrsPmceid0El0),
    (sysKey 1 3 3 9 12 7, .mrsPmceid1El0),
    (sysKey 1 3 3 9 12 2, .mrsPmcntenclrEl0),
    (sysKey 0 3 3 9 12 2, .msrPmcntenclrEl0),
    (sysKey 1 3 3 9 12 1, .mrsPmcntensetEl0),
    (sysKey 0 3 3 9 12 1, .msrPmcntensetEl0),
    (sysKey 1 3 3 9 12 0, .mrsPmcrEl0),
    (sysKey 0 3 3 9 12 0, .msrPmcrEl0),
    (sysKey 1 3 3 9 6 0, .mrsPmicfiltrEl0),
    (sysKey 0 3 3 9 6 0, .msrPmicfiltrEl0),
    (sysKey 1 3 3 9 4 0, .mrsPmicntrEl0),
    (sysKey 0 3 3 9 4 0, .msrPmicntrEl0),
    (sysKey 1 3 3 9 12 3, .mrsPmovsclrEl0),
    (sysKey 0 3 3 9 12 3, .msrPmovsclrEl0),
    (sysKey 1 3 3 9 14 3, .mrsPmovssetEl0),
    (sysKey 0 3 3 9 14 3, .msrPmovssetEl0),
    (sysKey 1 3 3 9 12 5, .mrsPmselrEl0),
    (sysKey 0 3 3 9 12 5, .msrPmselrEl0),
    (sysKey 0 3 3 9 12 4, .msrPmswincEl0),
    (sysKey 1 3 3 9 14 0, .mrsPmuserenrEl0),
    (sysKey 0 3 3 9 14 0, .msrPmuserenrEl0),
    (sysKey 1 3 3 9 13 2, .mrsPmxevcntrEl0),
    (sysKey 0 3 3 9 13 2, .msrPmxevcntrEl0),
    (sysKey 1 3 3 9 13 1, .mrsPmxevtyperEl0),
    (sysKey 0 3 3 9 13 1, .msrPmxevtyperEl0),
    (sysKey 0 3 3 9 13 4, .msrPmzrEl0) ]

/-- R211. Group op0 = 0b11, op1 = 0b000, CRn = 0b1001. -/
def fixedRowsR211 : List (BitVec 27 × (Nat → Instr)) :=
  [ (sysKey 1 3 0 9 14 5, .mrsPmecrEl1),
    (sysKey 0 3 0 9 14 5, .msrPmecrEl1),
    (sysKey 1 3 0 9 14 7, .mrsPmiarEl1),
    (sysKey 0 3 0 9 14 7, .msrPmiarEl1),
    (sysKey 1 3 0 9 14 2, .mrsPmintenclrEl1),
    (sysKey 0 3 0 9 14 2, .msrPmintenclrEl1),
    (sysKey 1 3 0 9 14 1, .mrsPmintensetEl1),
    (sysKey 0 3 0 9 14 1, .msrPmintensetEl1),
    (sysKey 1 3 0 9 14 6, .mrsPmmirEl1),
    (sysKey 1 3 0 9 13 3, .mrsPmsscrEl1),
    (sysKey 0 3 0 9 13 3, .msrPmsscrEl1),
    (sysKey 1 3 0 9 14 4, .mrsPmuacrEl1),
    (sysKey 0 3 0 9 14 4, .msrPmuacrEl1) ]

/-- R212. PMCCFILTR_EL0, in the last cell of its group. -/
def fixedRowsR212 : List (BitVec 27 × (Nat → Instr)) :=
  [ (sysKey 1 3 3 14 15 7, .mrsPmccfiltrEl0),
    (sysKey 0 3 3 14 15 7, .msrPmccfiltrEl0) ]

/-- R213. The snapshot registers without an index. -/
def fixedRowsR213 : List (BitVec 27 × (Nat → Instr)) :=
  [ (sysKey 1 2 0 14 11 7, .mrsPmccntsvrEl1),
    (sysKey 1 2 0 14 12 0, .mrsPmicntsvrEl1) ]

/-- R214. Group op0 = 0b10, op1 = 0b011, CRn = 0b1001. -/
def fixedRowsR214 : List (BitVec 27 × (Nat → Instr)) :=
  [ (sysKey 1 2 3 9 12 2, .mrsSpmcntenclrEl0),
    (sysKey 0 2 3 9 12 2, .msrSpmcntenclrEl0),
    (sysKey 1 2 3 9 12 1, .mrsSpmcntensetEl0),
    (sysKey 0 2 3 9 12 1, .msrSpmcntensetEl0),
    (sysKey 1 2 3 9 12 0, .mrsSpmcrEl0),
    (sysKey 0 2 3 9 12 0, .msrSpmcrEl0),
    (sysKey 1 2 3 9 12 3, .mrsSpmovsclrEl0),
    (sysKey 0 2 3 9 12 3, .msrSpmovsclrEl0),
    (sysKey 1 2 3 9 14 3, .mrsSpmovssetEl0),
    (sysKey 0 2 3 9 14 3, .msrSpmovssetEl0),
    (sysKey 1 2 3 9 12 5, .mrsSpmselrEl0),
    (sysKey 0 2 3 9 12 5, .msrSpmselrEl0),
    (sysKey 0 2 3 9 12 4, .msrSpmzrEl0) ]

/-- R215. Groups op0 = 0b10, CRn = 0b1001. -/
def fixedRowsR215 : List (BitVec 27 × (Nat → Instr)) :=
  [ (sysKey 1 2 0 9 13 3, .mrsSpmaccessrEl1),
    (sysKey 0 2 0 9 13 3, .msrSpmaccessrEl1),
    (sysKey 1 2 5 9 13 3, .mrsSpmaccessrEl12),
    (sysKey 0 2 5 9 13 3, .msrSpmaccessrEl12),
    (sysKey 1 2 4 9 13 3, .mrsSpmaccessrEl2),
    (sysKey 0 2 4 9 13 3, .msrSpmaccessrEl2),
    (sysKey 1 2 6 9 13 3, .mrsSpmaccessrEl3),
    (sysKey 0 2 6 9 13 3, .msrSpmaccessrEl3),
    (sysKey 1 2 0 9 13 7, .mrsSpmcfgrEl1),
    (sysKey 1 2 0 9 13 6, .mrsSpmdevaffEl1),
    (sysKey 1 2 0 9 13 5, .mrsSpmdevarchEl1),
    (sysKey 1 2 0 9 13 4, .mrsSpmiidrEl1),
    (sysKey 1 2 0 9 14 2, .mrsSpmintenclrEl1),
    (sysKey 0 2 0 9 14 2, .msrSpmintenclrEl1),
    (sysKey 1 2 0 9 14 1, .mrsSpmintensetEl1),
    (sysKey 0 2 0 9 14 1, .msrSpmintensetEl1),
    (sysKey 1 2 6 9 14 7, .mrsSpmrootcrEl3),
    (sysKey 0 2 6 9 14 7, .msrSpmrootcrEl3),
    (sysKey 1 2 7 9 14 7, .mrsSpmscrEl1),
    (sysKey 0 2 7 9 14 7, .msrSpmscrEl1) ]

/-- R216. MDCR_EL2 and MDCR_EL3. -/
def fixedRowsR216 : List (BitVec 27 × (Nat → Instr)) :=
  [ (sysKey 1 3 4 1 1 1, .mrsMdcrEl2),
    (sysKey 0 3 4 1 1 1, .msrMdcrEl2),
    (sysKey 1 3 6 1 3 1, .mrsMdcrEl3),
    (sysKey 0 3 6 1 3 1, .msrMdcrEl3) ]

/-- The rows without an index, R210 to R216. -/
def fixedRows : List (BitVec 27 × (Nat → Instr)) :=
  fixedRowsR210 ++ (fixedRowsR211 ++ (fixedRowsR212 ++ (fixedRowsR213 ++ (fixedRowsR214 ++ (fixedRowsR215 ++
    fixedRowsR216)))))

/-- The first row with the key. -/
def lookupKey : List (BitVec 27 × (Nat → Instr)) → BitVec 27 → Option (Nat → Instr)
  | [], _ => none
  | (k, f) :: rest, key => if k = key then some f else lookupKey rest key

/-- `MRS PMEVCNTR<m>`, m = 0 to 30 (R206). -/
def mrsPmevcntrRows : List (Nat → Instr) :=
  [ .mrsPmevcntr0El0, .mrsPmevcntr1El0, .mrsPmevcntr2El0, .mrsPmevcntr3El0,
    .mrsPmevcntr4El0, .mrsPmevcntr5El0, .mrsPmevcntr6El0, .mrsPmevcntr7El0,
    .mrsPmevcntr8El0, .mrsPmevcntr9El0, .mrsPmevcntr10El0, .mrsPmevcntr11El0,
    .mrsPmevcntr12El0, .mrsPmevcntr13El0, .mrsPmevcntr14El0, .mrsPmevcntr15El0,
    .mrsPmevcntr16El0, .mrsPmevcntr17El0, .mrsPmevcntr18El0, .mrsPmevcntr19El0,
    .mrsPmevcntr20El0, .mrsPmevcntr21El0, .mrsPmevcntr22El0, .mrsPmevcntr23El0,
    .mrsPmevcntr24El0, .mrsPmevcntr25El0, .mrsPmevcntr26El0, .mrsPmevcntr27El0,
    .mrsPmevcntr28El0, .mrsPmevcntr29El0, .mrsPmevcntr30El0 ]

/-- `MSR PMEVCNTR<m>`, m = 0 to 30 (R206). -/
def msrPmevcntrRows : List (Nat → Instr) :=
  [ .msrPmevcntr0El0, .msrPmevcntr1El0, .msrPmevcntr2El0, .msrPmevcntr3El0,
    .msrPmevcntr4El0, .msrPmevcntr5El0, .msrPmevcntr6El0, .msrPmevcntr7El0,
    .msrPmevcntr8El0, .msrPmevcntr9El0, .msrPmevcntr10El0, .msrPmevcntr11El0,
    .msrPmevcntr12El0, .msrPmevcntr13El0, .msrPmevcntr14El0, .msrPmevcntr15El0,
    .msrPmevcntr16El0, .msrPmevcntr17El0, .msrPmevcntr18El0, .msrPmevcntr19El0,
    .msrPmevcntr20El0, .msrPmevcntr21El0, .msrPmevcntr22El0, .msrPmevcntr23El0,
    .msrPmevcntr24El0, .msrPmevcntr25El0, .msrPmevcntr26El0, .msrPmevcntr27El0,
    .msrPmevcntr28El0, .msrPmevcntr29El0, .msrPmevcntr30El0 ]

/-- `MRS PMEVCNTSVR<m>`, m = 0 to 30 (R206). -/
def mrsPmevcntsvrRows : List (Nat → Instr) :=
  [ .mrsPmevcntsvr0El1, .mrsPmevcntsvr1El1, .mrsPmevcntsvr2El1, .mrsPmevcntsvr3El1,
    .mrsPmevcntsvr4El1, .mrsPmevcntsvr5El1, .mrsPmevcntsvr6El1, .mrsPmevcntsvr7El1,
    .mrsPmevcntsvr8El1, .mrsPmevcntsvr9El1, .mrsPmevcntsvr10El1, .mrsPmevcntsvr11El1,
    .mrsPmevcntsvr12El1, .mrsPmevcntsvr13El1, .mrsPmevcntsvr14El1, .mrsPmevcntsvr15El1,
    .mrsPmevcntsvr16El1, .mrsPmevcntsvr17El1, .mrsPmevcntsvr18El1, .mrsPmevcntsvr19El1,
    .mrsPmevcntsvr20El1, .mrsPmevcntsvr21El1, .mrsPmevcntsvr22El1, .mrsPmevcntsvr23El1,
    .mrsPmevcntsvr24El1, .mrsPmevcntsvr25El1, .mrsPmevcntsvr26El1, .mrsPmevcntsvr27El1,
    .mrsPmevcntsvr28El1, .mrsPmevcntsvr29El1, .mrsPmevcntsvr30El1 ]

/-- `MRS PMEVTYPER<m>`, m = 0 to 30 (R206). -/
def mrsPmevtyperRows : List (Nat → Instr) :=
  [ .mrsPmevtyper0El0, .mrsPmevtyper1El0, .mrsPmevtyper2El0, .mrsPmevtyper3El0,
    .mrsPmevtyper4El0, .mrsPmevtyper5El0, .mrsPmevtyper6El0, .mrsPmevtyper7El0,
    .mrsPmevtyper8El0, .mrsPmevtyper9El0, .mrsPmevtyper10El0, .mrsPmevtyper11El0,
    .mrsPmevtyper12El0, .mrsPmevtyper13El0, .mrsPmevtyper14El0, .mrsPmevtyper15El0,
    .mrsPmevtyper16El0, .mrsPmevtyper17El0, .mrsPmevtyper18El0, .mrsPmevtyper19El0,
    .mrsPmevtyper20El0, .mrsPmevtyper21El0, .mrsPmevtyper22El0, .mrsPmevtyper23El0,
    .mrsPmevtyper24El0, .mrsPmevtyper25El0, .mrsPmevtyper26El0, .mrsPmevtyper27El0,
    .mrsPmevtyper28El0, .mrsPmevtyper29El0, .mrsPmevtyper30El0 ]

/-- `MSR PMEVTYPER<m>`, m = 0 to 30 (R206). -/
def msrPmevtyperRows : List (Nat → Instr) :=
  [ .msrPmevtyper0El0, .msrPmevtyper1El0, .msrPmevtyper2El0, .msrPmevtyper3El0,
    .msrPmevtyper4El0, .msrPmevtyper5El0, .msrPmevtyper6El0, .msrPmevtyper7El0,
    .msrPmevtyper8El0, .msrPmevtyper9El0, .msrPmevtyper10El0, .msrPmevtyper11El0,
    .msrPmevtyper12El0, .msrPmevtyper13El0, .msrPmevtyper14El0, .msrPmevtyper15El0,
    .msrPmevtyper16El0, .msrPmevtyper17El0, .msrPmevtyper18El0, .msrPmevtyper19El0,
    .msrPmevtyper20El0, .msrPmevtyper21El0, .msrPmevtyper22El0, .msrPmevtyper23El0,
    .msrPmevtyper24El0, .msrPmevtyper25El0, .msrPmevtyper26El0, .msrPmevtyper27El0,
    .msrPmevtyper28El0, .msrPmevtyper29El0, .msrPmevtyper30El0 ]

/-- `MRS SPMCGCR<m>`, m = 0 to 1 (R206). -/
def mrsSpmcgcrRows : List (Nat → Instr) :=
  [ .mrsSpmcgcr0El1, .mrsSpmcgcr1El1 ]

/-- `MRS SPMEVCNTR<m>`, m = 0 to 15 (R206). -/
def mrsSpmevcntrRows : List (Nat → Instr) :=
  [ .mrsSpmevcntr0El0, .mrsSpmevcntr1El0, .mrsSpmevcntr2El0, .mrsSpmevcntr3El0,
    .mrsSpmevcntr4El0, .mrsSpmevcntr5El0, .mrsSpmevcntr6El0, .mrsSpmevcntr7El0,
    .mrsSpmevcntr8El0, .mrsSpmevcntr9El0, .mrsSpmevcntr10El0, .mrsSpmevcntr11El0,
    .mrsSpmevcntr12El0, .mrsSpmevcntr13El0, .mrsSpmevcntr14El0, .mrsSpmevcntr15El0 ]

/-- `MSR SPMEVCNTR<m>`, m = 0 to 15 (R206). -/
def msrSpmevcntrRows : List (Nat → Instr) :=
  [ .msrSpmevcntr0El0, .msrSpmevcntr1El0, .msrSpmevcntr2El0, .msrSpmevcntr3El0,
    .msrSpmevcntr4El0, .msrSpmevcntr5El0, .msrSpmevcntr6El0, .msrSpmevcntr7El0,
    .msrSpmevcntr8El0, .msrSpmevcntr9El0, .msrSpmevcntr10El0, .msrSpmevcntr11El0,
    .msrSpmevcntr12El0, .msrSpmevcntr13El0, .msrSpmevcntr14El0, .msrSpmevcntr15El0 ]

/-- `MRS SPMEVFILT2R<m>`, m = 0 to 15 (R206). -/
def mrsSpmevfilt2rRows : List (Nat → Instr) :=
  [ .mrsSpmevfilt2r0El0, .mrsSpmevfilt2r1El0, .mrsSpmevfilt2r2El0, .mrsSpmevfilt2r3El0,
    .mrsSpmevfilt2r4El0, .mrsSpmevfilt2r5El0, .mrsSpmevfilt2r6El0, .mrsSpmevfilt2r7El0,
    .mrsSpmevfilt2r8El0, .mrsSpmevfilt2r9El0, .mrsSpmevfilt2r10El0, .mrsSpmevfilt2r11El0,
    .mrsSpmevfilt2r12El0, .mrsSpmevfilt2r13El0, .mrsSpmevfilt2r14El0, .mrsSpmevfilt2r15El0 ]

/-- `MSR SPMEVFILT2R<m>`, m = 0 to 15 (R206). -/
def msrSpmevfilt2rRows : List (Nat → Instr) :=
  [ .msrSpmevfilt2r0El0, .msrSpmevfilt2r1El0, .msrSpmevfilt2r2El0, .msrSpmevfilt2r3El0,
    .msrSpmevfilt2r4El0, .msrSpmevfilt2r5El0, .msrSpmevfilt2r6El0, .msrSpmevfilt2r7El0,
    .msrSpmevfilt2r8El0, .msrSpmevfilt2r9El0, .msrSpmevfilt2r10El0, .msrSpmevfilt2r11El0,
    .msrSpmevfilt2r12El0, .msrSpmevfilt2r13El0, .msrSpmevfilt2r14El0, .msrSpmevfilt2r15El0 ]

/-- `MRS SPMEVFILTR<m>`, m = 0 to 15 (R206). -/
def mrsSpmevfiltrRows : List (Nat → Instr) :=
  [ .mrsSpmevfiltr0El0, .mrsSpmevfiltr1El0, .mrsSpmevfiltr2El0, .mrsSpmevfiltr3El0,
    .mrsSpmevfiltr4El0, .mrsSpmevfiltr5El0, .mrsSpmevfiltr6El0, .mrsSpmevfiltr7El0,
    .mrsSpmevfiltr8El0, .mrsSpmevfiltr9El0, .mrsSpmevfiltr10El0, .mrsSpmevfiltr11El0,
    .mrsSpmevfiltr12El0, .mrsSpmevfiltr13El0, .mrsSpmevfiltr14El0, .mrsSpmevfiltr15El0 ]

/-- `MSR SPMEVFILTR<m>`, m = 0 to 15 (R206). -/
def msrSpmevfiltrRows : List (Nat → Instr) :=
  [ .msrSpmevfiltr0El0, .msrSpmevfiltr1El0, .msrSpmevfiltr2El0, .msrSpmevfiltr3El0,
    .msrSpmevfiltr4El0, .msrSpmevfiltr5El0, .msrSpmevfiltr6El0, .msrSpmevfiltr7El0,
    .msrSpmevfiltr8El0, .msrSpmevfiltr9El0, .msrSpmevfiltr10El0, .msrSpmevfiltr11El0,
    .msrSpmevfiltr12El0, .msrSpmevfiltr13El0, .msrSpmevfiltr14El0, .msrSpmevfiltr15El0 ]

/-- `MRS SPMEVTYPER<m>`, m = 0 to 15 (R206). -/
def mrsSpmevtyperRows : List (Nat → Instr) :=
  [ .mrsSpmevtyper0El0, .mrsSpmevtyper1El0, .mrsSpmevtyper2El0, .mrsSpmevtyper3El0,
    .mrsSpmevtyper4El0, .mrsSpmevtyper5El0, .mrsSpmevtyper6El0, .mrsSpmevtyper7El0,
    .mrsSpmevtyper8El0, .mrsSpmevtyper9El0, .mrsSpmevtyper10El0, .mrsSpmevtyper11El0,
    .mrsSpmevtyper12El0, .mrsSpmevtyper13El0, .mrsSpmevtyper14El0, .mrsSpmevtyper15El0 ]

/-- `MSR SPMEVTYPER<m>`, m = 0 to 15 (R206). -/
def msrSpmevtyperRows : List (Nat → Instr) :=
  [ .msrSpmevtyper0El0, .msrSpmevtyper1El0, .msrSpmevtyper2El0, .msrSpmevtyper3El0,
    .msrSpmevtyper4El0, .msrSpmevtyper5El0, .msrSpmevtyper6El0, .msrSpmevtyper7El0,
    .msrSpmevtyper8El0, .msrSpmevtyper9El0, .msrSpmevtyper10El0, .msrSpmevtyper11El0,
    .msrSpmevtyper12El0, .msrSpmevtyper13El0, .msrSpmevtyper14El0, .msrSpmevtyper15El0 ]

/-- The rows with an index (R202, R212 to R215): the group and the fixed bits of CRm and op2 name the array, and the
index is assembled from CRm and op2. An index past the end of an array is no row (R206). -/
def lookupIndexed (l op0 op1 crn crm op2 : Nat) : Option (Nat → Instr) :=
  let m5 := (crm % 4) * 8 + op2
  let m4 := (crm % 2) * 8 + op2
  if op0 = 3 ∧ op1 = 3 ∧ crn = 14 then
    if crm / 4 = 2 then (if l = 1 then mrsPmevcntrRows else msrPmevcntrRows)[m5]?
    else if crm / 4 = 3 then (if l = 1 then mrsPmevtyperRows else msrPmevtyperRows)[m5]?
    else none
  else if op0 = 2 ∧ op1 = 0 ∧ crn = 14 then
    if crm / 4 = 2 ∧ l = 1 then mrsPmevcntsvrRows[m5]? else none
  else if op0 = 2 ∧ op1 = 3 ∧ crn = 14 then
    if crm / 2 = 0 then (if l = 1 then mrsSpmevcntrRows else msrSpmevcntrRows)[m4]?
    else if crm / 2 = 1 then (if l = 1 then mrsSpmevtyperRows else msrSpmevtyperRows)[m4]?
    else if crm / 2 = 2 then (if l = 1 then mrsSpmevfiltrRows else msrSpmevfiltrRows)[m4]?
    else if crm / 2 = 3 then (if l = 1 then mrsSpmevfilt2rRows else msrSpmevfilt2rRows)[m4]?
    else none
  else if op0 = 2 ∧ op1 = 0 ∧ crn = 9 then
    if crm = 13 ∧ l = 1 then mrsSpmcgcrRows[op2]? else none
  else none

/-- The 14 register names in the missing direction (R205(a)): `MSR` of a read-only register, for the arrays at every
legal index, and `MRS` of a write-only register. -/
def isUnallocated (l op0 op1 crn crm op2 : Nat) : Bool :=
  if l = 0 then
    decide ((op0, op1, crn, crm, op2) ∈
      [ (3, 3, 9, 12, 6), (3, 3, 9, 12, 7), (3, 0, 9, 14, 6), (2, 0, 14, 11, 7), (2, 0, 14, 12, 0),
        (2, 0, 9, 13, 7), (2, 0, 9, 13, 0), (2, 0, 9, 13, 1), (2, 0, 9, 13, 6), (2, 0, 9, 13, 5),
        (2, 0, 9, 13, 4) ])
      || decide (op0 = 2 ∧ op1 = 0 ∧ crn = 14 ∧ crm / 4 = 2 ∧ (crm % 4) * 8 + op2 ≤ 30)
  else
    decide ((op0, op1, crn, crm, op2) ∈ [ (3, 3, 9, 12, 4), (3, 3, 9, 13, 4), (2, 3, 9, 12, 4) ])

/-- The row that the key names: first among the rows without an index, then among the rows with one (R204). -/
def lookupRow (key : BitVec 27) : Option (Nat → Instr) :=
  match lookupKey fixedRows key with
  | some f => some f
  | none =>
    let k := key.toNat
    lookupIndexed (k / 65536 % 2) (2 + k / 16384 % 2) (k / 2048 % 8) (k / 128 % 16) (k / 8 % 16) (k % 8)

/-- The decoding procedure (R204). -/
def decode (w : InstrWord) : Decoded :=
  if w &&& 0xFFD00000#32 ≠ 0xD5100000#32 then .outside
  else
    match lookupRow (w.extractLsb' 5 27) with
    | some f => .instr (f (w.extractLsb' 0 5).toNat)
    | none =>
      let k := w.toNat
      if isUnallocated (k / 2097152 % 2) (2 + k / 524288 % 2) (k / 65536 % 8) (k / 4096 % 16) (k / 256 % 16)
          (k / 32 % 8)
      then .unallocated else .outside

/-- The instruction that `decode` reads from the first `nbits` bits of `w`, the bits above them zero. -/
def decodeTableWord (nbits w : Nat) : Option Instr :=
  match decode (BitVec.ofNat 32 (w % 2 ^ nbits)) with
  | .instr i => some i
  | _ => none

/-- The six fields of an instruction's encoding table (R210 to R216), assembled by R201. -/
def Instr.key : Instr → BitVec 27
  | .mrsPmccfiltrEl0 _ => sysKey 1 3 3 14 15 7
  | .msrPmccfiltrEl0 _ => sysKey 0 3 3 14 15 7
  | .mrsPmccntrEl0 _ => sysKey 1 3 3 9 13 0
  | .msrPmccntrEl0 _ => sysKey 0 3 3 9 13 0
  | .mrsPmccntsvrEl1 _ => sysKey 1 2 0 14 11 7
  | .mrsPmceid0El0 _ => sysKey 1 3 3 9 12 6
  | .mrsPmceid1El0 _ => sysKey 1 3 3 9 12 7
  | .mrsPmcntenclrEl0 _ => sysKey 1 3 3 9 12 2
  | .msrPmcntenclrEl0 _ => sysKey 0 3 3 9 12 2
  | .mrsPmcntensetEl0 _ => sysKey 1 3 3 9 12 1
  | .msrPmcntensetEl0 _ => sysKey 0 3 3 9 12 1
  | .mrsPmcrEl0 _ => sysKey 1 3 3 9 12 0
  | .msrPmcrEl0 _ => sysKey 0 3 3 9 12 0
  | .mrsPmecrEl1 _ => sysKey 1 3 0 9 14 5
  | .msrPmecrEl1 _ => sysKey 0 3 0 9 14 5
  | .mrsPmevcntr0El0 _ => sysKey 1 3 3 14 8 0
  | .mrsPmevcntr1El0 _ => sysKey 1 3 3 14 8 1
  | .mrsPmevcntr2El0 _ => sysKey 1 3 3 14 8 2
  | .mrsPmevcntr3El0 _ => sysKey 1 3 3 14 8 3
  | .mrsPmevcntr4El0 _ => sysKey 1 3 3 14 8 4
  | .mrsPmevcntr5El0 _ => sysKey 1 3 3 14 8 5
  | .mrsPmevcntr6El0 _ => sysKey 1 3 3 14 8 6
  | .mrsPmevcntr7El0 _ => sysKey 1 3 3 14 8 7
  | .mrsPmevcntr8El0 _ => sysKey 1 3 3 14 9 0
  | .mrsPmevcntr9El0 _ => sysKey 1 3 3 14 9 1
  | .mrsPmevcntr10El0 _ => sysKey 1 3 3 14 9 2
  | .mrsPmevcntr11El0 _ => sysKey 1 3 3 14 9 3
  | .mrsPmevcntr12El0 _ => sysKey 1 3 3 14 9 4
  | .mrsPmevcntr13El0 _ => sysKey 1 3 3 14 9 5
  | .mrsPmevcntr14El0 _ => sysKey 1 3 3 14 9 6
  | .mrsPmevcntr15El0 _ => sysKey 1 3 3 14 9 7
  | .mrsPmevcntr16El0 _ => sysKey 1 3 3 14 10 0
  | .mrsPmevcntr17El0 _ => sysKey 1 3 3 14 10 1
  | .mrsPmevcntr18El0 _ => sysKey 1 3 3 14 10 2
  | .mrsPmevcntr19El0 _ => sysKey 1 3 3 14 10 3
  | .mrsPmevcntr20El0 _ => sysKey 1 3 3 14 10 4
  | .mrsPmevcntr21El0 _ => sysKey 1 3 3 14 10 5
  | .mrsPmevcntr22El0 _ => sysKey 1 3 3 14 10 6
  | .mrsPmevcntr23El0 _ => sysKey 1 3 3 14 10 7
  | .mrsPmevcntr24El0 _ => sysKey 1 3 3 14 11 0
  | .mrsPmevcntr25El0 _ => sysKey 1 3 3 14 11 1
  | .mrsPmevcntr26El0 _ => sysKey 1 3 3 14 11 2
  | .mrsPmevcntr27El0 _ => sysKey 1 3 3 14 11 3
  | .mrsPmevcntr28El0 _ => sysKey 1 3 3 14 11 4
  | .mrsPmevcntr29El0 _ => sysKey 1 3 3 14 11 5
  | .mrsPmevcntr30El0 _ => sysKey 1 3 3 14 11 6
  | .msrPmevcntr0El0 _ => sysKey 0 3 3 14 8 0
  | .msrPmevcntr1El0 _ => sysKey 0 3 3 14 8 1
  | .msrPmevcntr2El0 _ => sysKey 0 3 3 14 8 2
  | .msrPmevcntr3El0 _ => sysKey 0 3 3 14 8 3
  | .msrPmevcntr4El0 _ => sysKey 0 3 3 14 8 4
  | .msrPmevcntr5El0 _ => sysKey 0 3 3 14 8 5
  | .msrPmevcntr6El0 _ => sysKey 0 3 3 14 8 6
  | .msrPmevcntr7El0 _ => sysKey 0 3 3 14 8 7
  | .msrPmevcntr8El0 _ => sysKey 0 3 3 14 9 0
  | .msrPmevcntr9El0 _ => sysKey 0 3 3 14 9 1
  | .msrPmevcntr10El0 _ => sysKey 0 3 3 14 9 2
  | .msrPmevcntr11El0 _ => sysKey 0 3 3 14 9 3
  | .msrPmevcntr12El0 _ => sysKey 0 3 3 14 9 4
  | .msrPmevcntr13El0 _ => sysKey 0 3 3 14 9 5
  | .msrPmevcntr14El0 _ => sysKey 0 3 3 14 9 6
  | .msrPmevcntr15El0 _ => sysKey 0 3 3 14 9 7
  | .msrPmevcntr16El0 _ => sysKey 0 3 3 14 10 0
  | .msrPmevcntr17El0 _ => sysKey 0 3 3 14 10 1
  | .msrPmevcntr18El0 _ => sysKey 0 3 3 14 10 2
  | .msrPmevcntr19El0 _ => sysKey 0 3 3 14 10 3
  | .msrPmevcntr20El0 _ => sysKey 0 3 3 14 10 4
  | .msrPmevcntr21El0 _ => sysKey 0 3 3 14 10 5
  | .msrPmevcntr22El0 _ => sysKey 0 3 3 14 10 6
  | .msrPmevcntr23El0 _ => sysKey 0 3 3 14 10 7
  | .msrPmevcntr24El0 _ => sysKey 0 3 3 14 11 0
  | .msrPmevcntr25El0 _ => sysKey 0 3 3 14 11 1
  | .msrPmevcntr26El0 _ => sysKey 0 3 3 14 11 2
  | .msrPmevcntr27El0 _ => sysKey 0 3 3 14 11 3
  | .msrPmevcntr28El0 _ => sysKey 0 3 3 14 11 4
  | .msrPmevcntr29El0 _ => sysKey 0 3 3 14 11 5
  | .msrPmevcntr30El0 _ => sysKey 0 3 3 14 11 6
  | .mrsPmevcntsvr0El1 _ => sysKey 1 2 0 14 8 0
  | .mrsPmevcntsvr1El1 _ => sysKey 1 2 0 14 8 1
  | .mrsPmevcntsvr2El1 _ => sysKey 1 2 0 14 8 2
  | .mrsPmevcntsvr3El1 _ => sysKey 1 2 0 14 8 3
  | .mrsPmevcntsvr4El1 _ => sysKey 1 2 0 14 8 4
  | .mrsPmevcntsvr5El1 _ => sysKey 1 2 0 14 8 5
  | .mrsPmevcntsvr6El1 _ => sysKey 1 2 0 14 8 6
  | .mrsPmevcntsvr7El1 _ => sysKey 1 2 0 14 8 7
  | .mrsPmevcntsvr8El1 _ => sysKey 1 2 0 14 9 0
  | .mrsPmevcntsvr9El1 _ => sysKey 1 2 0 14 9 1
  | .mrsPmevcntsvr10El1 _ => sysKey 1 2 0 14 9 2
  | .mrsPmevcntsvr11El1 _ => sysKey 1 2 0 14 9 3
  | .mrsPmevcntsvr12El1 _ => sysKey 1 2 0 14 9 4
  | .mrsPmevcntsvr13El1 _ => sysKey 1 2 0 14 9 5
  | .mrsPmevcntsvr14El1 _ => sysKey 1 2 0 14 9 6
  | .mrsPmevcntsvr15El1 _ => sysKey 1 2 0 14 9 7
  | .mrsPmevcntsvr16El1 _ => sysKey 1 2 0 14 10 0
  | .mrsPmevcntsvr17El1 _ => sysKey 1 2 0 14 10 1
  | .mrsPmevcntsvr18El1 _ => sysKey 1 2 0 14 10 2
  | .mrsPmevcntsvr19El1 _ => sysKey 1 2 0 14 10 3
  | .mrsPmevcntsvr20El1 _ => sysKey 1 2 0 14 10 4
  | .mrsPmevcntsvr21El1 _ => sysKey 1 2 0 14 10 5
  | .mrsPmevcntsvr22El1 _ => sysKey 1 2 0 14 10 6
  | .mrsPmevcntsvr23El1 _ => sysKey 1 2 0 14 10 7
  | .mrsPmevcntsvr24El1 _ => sysKey 1 2 0 14 11 0
  | .mrsPmevcntsvr25El1 _ => sysKey 1 2 0 14 11 1
  | .mrsPmevcntsvr26El1 _ => sysKey 1 2 0 14 11 2
  | .mrsPmevcntsvr27El1 _ => sysKey 1 2 0 14 11 3
  | .mrsPmevcntsvr28El1 _ => sysKey 1 2 0 14 11 4
  | .mrsPmevcntsvr29El1 _ => sysKey 1 2 0 14 11 5
  | .mrsPmevcntsvr30El1 _ => sysKey 1 2 0 14 11 6
  | .mrsPmevtyper0El0 _ => sysKey 1 3 3 14 12 0
  | .mrsPmevtyper1El0 _ => sysKey 1 3 3 14 12 1
  | .mrsPmevtyper2El0 _ => sysKey 1 3 3 14 12 2
  | .mrsPmevtyper3El0 _ => sysKey 1 3 3 14 12 3
  | .mrsPmevtyper4El0 _ => sysKey 1 3 3 14 12 4
  | .mrsPmevtyper5El0 _ => sysKey 1 3 3 14 12 5
  | .mrsPmevtyper6El0 _ => sysKey 1 3 3 14 12 6
  | .mrsPmevtyper7El0 _ => sysKey 1 3 3 14 12 7
  | .mrsPmevtyper8El0 _ => sysKey 1 3 3 14 13 0
  | .mrsPmevtyper9El0 _ => sysKey 1 3 3 14 13 1
  | .mrsPmevtyper10El0 _ => sysKey 1 3 3 14 13 2
  | .mrsPmevtyper11El0 _ => sysKey 1 3 3 14 13 3
  | .mrsPmevtyper12El0 _ => sysKey 1 3 3 14 13 4
  | .mrsPmevtyper13El0 _ => sysKey 1 3 3 14 13 5
  | .mrsPmevtyper14El0 _ => sysKey 1 3 3 14 13 6
  | .mrsPmevtyper15El0 _ => sysKey 1 3 3 14 13 7
  | .mrsPmevtyper16El0 _ => sysKey 1 3 3 14 14 0
  | .mrsPmevtyper17El0 _ => sysKey 1 3 3 14 14 1
  | .mrsPmevtyper18El0 _ => sysKey 1 3 3 14 14 2
  | .mrsPmevtyper19El0 _ => sysKey 1 3 3 14 14 3
  | .mrsPmevtyper20El0 _ => sysKey 1 3 3 14 14 4
  | .mrsPmevtyper21El0 _ => sysKey 1 3 3 14 14 5
  | .mrsPmevtyper22El0 _ => sysKey 1 3 3 14 14 6
  | .mrsPmevtyper23El0 _ => sysKey 1 3 3 14 14 7
  | .mrsPmevtyper24El0 _ => sysKey 1 3 3 14 15 0
  | .mrsPmevtyper25El0 _ => sysKey 1 3 3 14 15 1
  | .mrsPmevtyper26El0 _ => sysKey 1 3 3 14 15 2
  | .mrsPmevtyper27El0 _ => sysKey 1 3 3 14 15 3
  | .mrsPmevtyper28El0 _ => sysKey 1 3 3 14 15 4
  | .mrsPmevtyper29El0 _ => sysKey 1 3 3 14 15 5
  | .mrsPmevtyper30El0 _ => sysKey 1 3 3 14 15 6
  | .msrPmevtyper0El0 _ => sysKey 0 3 3 14 12 0
  | .msrPmevtyper1El0 _ => sysKey 0 3 3 14 12 1
  | .msrPmevtyper2El0 _ => sysKey 0 3 3 14 12 2
  | .msrPmevtyper3El0 _ => sysKey 0 3 3 14 12 3
  | .msrPmevtyper4El0 _ => sysKey 0 3 3 14 12 4
  | .msrPmevtyper5El0 _ => sysKey 0 3 3 14 12 5
  | .msrPmevtyper6El0 _ => sysKey 0 3 3 14 12 6
  | .msrPmevtyper7El0 _ => sysKey 0 3 3 14 12 7
  | .msrPmevtyper8El0 _ => sysKey 0 3 3 14 13 0
  | .msrPmevtyper9El0 _ => sysKey 0 3 3 14 13 1
  | .msrPmevtyper10El0 _ => sysKey 0 3 3 14 13 2
  | .msrPmevtyper11El0 _ => sysKey 0 3 3 14 13 3
  | .msrPmevtyper12El0 _ => sysKey 0 3 3 14 13 4
  | .msrPmevtyper13El0 _ => sysKey 0 3 3 14 13 5
  | .msrPmevtyper14El0 _ => sysKey 0 3 3 14 13 6
  | .msrPmevtyper15El0 _ => sysKey 0 3 3 14 13 7
  | .msrPmevtyper16El0 _ => sysKey 0 3 3 14 14 0
  | .msrPmevtyper17El0 _ => sysKey 0 3 3 14 14 1
  | .msrPmevtyper18El0 _ => sysKey 0 3 3 14 14 2
  | .msrPmevtyper19El0 _ => sysKey 0 3 3 14 14 3
  | .msrPmevtyper20El0 _ => sysKey 0 3 3 14 14 4
  | .msrPmevtyper21El0 _ => sysKey 0 3 3 14 14 5
  | .msrPmevtyper22El0 _ => sysKey 0 3 3 14 14 6
  | .msrPmevtyper23El0 _ => sysKey 0 3 3 14 14 7
  | .msrPmevtyper24El0 _ => sysKey 0 3 3 14 15 0
  | .msrPmevtyper25El0 _ => sysKey 0 3 3 14 15 1
  | .msrPmevtyper26El0 _ => sysKey 0 3 3 14 15 2
  | .msrPmevtyper27El0 _ => sysKey 0 3 3 14 15 3
  | .msrPmevtyper28El0 _ => sysKey 0 3 3 14 15 4
  | .msrPmevtyper29El0 _ => sysKey 0 3 3 14 15 5
  | .msrPmevtyper30El0 _ => sysKey 0 3 3 14 15 6
  | .mrsPmiarEl1 _ => sysKey 1 3 0 9 14 7
  | .msrPmiarEl1 _ => sysKey 0 3 0 9 14 7
  | .mrsPmicfiltrEl0 _ => sysKey 1 3 3 9 6 0
  | .msrPmicfiltrEl0 _ => sysKey 0 3 3 9 6 0
  | .mrsPmicntrEl0 _ => sysKey 1 3 3 9 4 0
  | .msrPmicntrEl0 _ => sysKey 0 3 3 9 4 0
  | .mrsPmicntsvrEl1 _ => sysKey 1 2 0 14 12 0
  | .mrsPmintenclrEl1 _ => sysKey 1 3 0 9 14 2
  | .msrPmintenclrEl1 _ => sysKey 0 3 0 9 14 2
  | .mrsPmintensetEl1 _ => sysKey 1 3 0 9 14 1
  | .msrPmintensetEl1 _ => sysKey 0 3 0 9 14 1
  | .mrsPmmirEl1 _ => sysKey 1 3 0 9 14 6
  | .mrsPmovsclrEl0 _ => sysKey 1 3 3 9 12 3
  | .msrPmovsclrEl0 _ => sysKey 0 3 3 9 12 3
  | .mrsPmovssetEl0 _ => sysKey 1 3 3 9 14 3
  | .msrPmovssetEl0 _ => sysKey 0 3 3 9 14 3
  | .mrsPmselrEl0 _ => sysKey 1 3 3 9 12 5
  | .msrPmselrEl0 _ => sysKey 0 3 3 9 12 5
  | .mrsPmsscrEl1 _ => sysKey 1 3 0 9 13 3
  | .msrPmsscrEl1 _ => sysKey 0 3 0 9 13 3
  | .msrPmswincEl0 _ => sysKey 0 3 3 9 12 4
  | .mrsPmuacrEl1 _ => sysKey 1 3 0 9 14 4
  | .msrPmuacrEl1 _ => sysKey 0 3 0 9 14 4
  | .mrsPmuserenrEl0 _ => sysKey 1 3 3 9 14 0
  | .msrPmuserenrEl0 _ => sysKey 0 3 3 9 14 0
  | .mrsPmxevcntrEl0 _ => sysKey 1 3 3 9 13 2
  | .msrPmxevcntrEl0 _ => sysKey 0 3 3 9 13 2
  | .mrsPmxevtyperEl0 _ => sysKey 1 3 3 9 13 1
  | .msrPmxevtyperEl0 _ => sysKey 0 3 3 9 13 1
  | .msrPmzrEl0 _ => sysKey 0 3 3 9 13 4
  | .mrsSpmaccessrEl1 _ => sysKey 1 2 0 9 13 3
  | .msrSpmaccessrEl1 _ => sysKey 0 2 0 9 13 3
  | .mrsSpmaccessrEl12 _ => sysKey 1 2 5 9 13 3
  | .msrSpmaccessrEl12 _ => sysKey 0 2 5 9 13 3
  | .mrsSpmaccessrEl2 _ => sysKey 1 2 4 9 13 3
  | .msrSpmaccessrEl2 _ => sysKey 0 2 4 9 13 3
  | .mrsSpmaccessrEl3 _ => sysKey 1 2 6 9 13 3
  | .msrSpmaccessrEl3 _ => sysKey 0 2 6 9 13 3
  | .mrsSpmcfgrEl1 _ => sysKey 1 2 0 9 13 7
  | .mrsSpmcgcr0El1 _ => sysKey 1 2 0 9 13 0
  | .mrsSpmcgcr1El1 _ => sysKey 1 2 0 9 13 1
  | .mrsSpmcntenclrEl0 _ => sysKey 1 2 3 9 12 2
  | .msrSpmcntenclrEl0 _ => sysKey 0 2 3 9 12 2
  | .mrsSpmcntensetEl0 _ => sysKey 1 2 3 9 12 1
  | .msrSpmcntensetEl0 _ => sysKey 0 2 3 9 12 1
  | .mrsSpmcrEl0 _ => sysKey 1 2 3 9 12 0
  | .msrSpmcrEl0 _ => sysKey 0 2 3 9 12 0
  | .mrsSpmdevaffEl1 _ => sysKey 1 2 0 9 13 6
  | .mrsSpmdevarchEl1 _ => sysKey 1 2 0 9 13 5
  | .mrsSpmevcntr0El0 _ => sysKey 1 2 3 14 0 0
  | .mrsSpmevcntr1El0 _ => sysKey 1 2 3 14 0 1
  | .mrsSpmevcntr2El0 _ => sysKey 1 2 3 14 0 2
  | .mrsSpmevcntr3El0 _ => sysKey 1 2 3 14 0 3
  | .mrsSpmevcntr4El0 _ => sysKey 1 2 3 14 0 4
  | .mrsSpmevcntr5El0 _ => sysKey 1 2 3 14 0 5
  | .mrsSpmevcntr6El0 _ => sysKey 1 2 3 14 0 6
  | .mrsSpmevcntr7El0 _ => sysKey 1 2 3 14 0 7
  | .mrsSpmevcntr8El0 _ => sysKey 1 2 3 14 1 0
  | .mrsSpmevcntr9El0 _ => sysKey 1 2 3 14 1 1
  | .mrsSpmevcntr10El0 _ => sysKey 1 2 3 14 1 2
  | .mrsSpmevcntr11El0 _ => sysKey 1 2 3 14 1 3
  | .mrsSpmevcntr12El0 _ => sysKey 1 2 3 14 1 4
  | .mrsSpmevcntr13El0 _ => sysKey 1 2 3 14 1 5
  | .mrsSpmevcntr14El0 _ => sysKey 1 2 3 14 1 6
  | .mrsSpmevcntr15El0 _ => sysKey 1 2 3 14 1 7
  | .msrSpmevcntr0El0 _ => sysKey 0 2 3 14 0 0
  | .msrSpmevcntr1El0 _ => sysKey 0 2 3 14 0 1
  | .msrSpmevcntr2El0 _ => sysKey 0 2 3 14 0 2
  | .msrSpmevcntr3El0 _ => sysKey 0 2 3 14 0 3
  | .msrSpmevcntr4El0 _ => sysKey 0 2 3 14 0 4
  | .msrSpmevcntr5El0 _ => sysKey 0 2 3 14 0 5
  | .msrSpmevcntr6El0 _ => sysKey 0 2 3 14 0 6
  | .msrSpmevcntr7El0 _ => sysKey 0 2 3 14 0 7
  | .msrSpmevcntr8El0 _ => sysKey 0 2 3 14 1 0
  | .msrSpmevcntr9El0 _ => sysKey 0 2 3 14 1 1
  | .msrSpmevcntr10El0 _ => sysKey 0 2 3 14 1 2
  | .msrSpmevcntr11El0 _ => sysKey 0 2 3 14 1 3
  | .msrSpmevcntr12El0 _ => sysKey 0 2 3 14 1 4
  | .msrSpmevcntr13El0 _ => sysKey 0 2 3 14 1 5
  | .msrSpmevcntr14El0 _ => sysKey 0 2 3 14 1 6
  | .msrSpmevcntr15El0 _ => sysKey 0 2 3 14 1 7
  | .mrsSpmevfilt2r0El0 _ => sysKey 1 2 3 14 6 0
  | .mrsSpmevfilt2r1El0 _ => sysKey 1 2 3 14 6 1
  | .mrsSpmevfilt2r2El0 _ => sysKey 1 2 3 14 6 2
  | .mrsSpmevfilt2r3El0 _ => sysKey 1 2 3 14 6 3
  | .mrsSpmevfilt2r4El0 _ => sysKey 1 2 3 14 6 4
  | .mrsSpmevfilt2r5El0 _ => sysKey 1 2 3 14 6 5
  | .mrsSpmevfilt2r6El0 _ => sysKey 1 2 3 14 6 6
  | .mrsSpmevfilt2r7El0 _ => sysKey 1 2 3 14 6 7
  | .mrsSpmevfilt2r8El0 _ => sysKey 1 2 3 14 7 0
  | .mrsSpmevfilt2r9El0 _ => sysKey 1 2 3 14 7 1
  | .mrsSpmevfilt2r10El0 _ => sysKey 1 2 3 14 7 2
  | .mrsSpmevfilt2r11El0 _ => sysKey 1 2 3 14 7 3
  | .mrsSpmevfilt2r12El0 _ => sysKey 1 2 3 14 7 4
  | .mrsSpmevfilt2r13El0 _ => sysKey 1 2 3 14 7 5
  | .mrsSpmevfilt2r14El0 _ => sysKey 1 2 3 14 7 6
  | .mrsSpmevfilt2r15El0 _ => sysKey 1 2 3 14 7 7
  | .msrSpmevfilt2r0El0 _ => sysKey 0 2 3 14 6 0
  | .msrSpmevfilt2r1El0 _ => sysKey 0 2 3 14 6 1
  | .msrSpmevfilt2r2El0 _ => sysKey 0 2 3 14 6 2
  | .msrSpmevfilt2r3El0 _ => sysKey 0 2 3 14 6 3
  | .msrSpmevfilt2r4El0 _ => sysKey 0 2 3 14 6 4
  | .msrSpmevfilt2r5El0 _ => sysKey 0 2 3 14 6 5
  | .msrSpmevfilt2r6El0 _ => sysKey 0 2 3 14 6 6
  | .msrSpmevfilt2r7El0 _ => sysKey 0 2 3 14 6 7
  | .msrSpmevfilt2r8El0 _ => sysKey 0 2 3 14 7 0
  | .msrSpmevfilt2r9El0 _ => sysKey 0 2 3 14 7 1
  | .msrSpmevfilt2r10El0 _ => sysKey 0 2 3 14 7 2
  | .msrSpmevfilt2r11El0 _ => sysKey 0 2 3 14 7 3
  | .msrSpmevfilt2r12El0 _ => sysKey 0 2 3 14 7 4
  | .msrSpmevfilt2r13El0 _ => sysKey 0 2 3 14 7 5
  | .msrSpmevfilt2r14El0 _ => sysKey 0 2 3 14 7 6
  | .msrSpmevfilt2r15El0 _ => sysKey 0 2 3 14 7 7
  | .mrsSpmevfiltr0El0 _ => sysKey 1 2 3 14 4 0
  | .mrsSpmevfiltr1El0 _ => sysKey 1 2 3 14 4 1
  | .mrsSpmevfiltr2El0 _ => sysKey 1 2 3 14 4 2
  | .mrsSpmevfiltr3El0 _ => sysKey 1 2 3 14 4 3
  | .mrsSpmevfiltr4El0 _ => sysKey 1 2 3 14 4 4
  | .mrsSpmevfiltr5El0 _ => sysKey 1 2 3 14 4 5
  | .mrsSpmevfiltr6El0 _ => sysKey 1 2 3 14 4 6
  | .mrsSpmevfiltr7El0 _ => sysKey 1 2 3 14 4 7
  | .mrsSpmevfiltr8El0 _ => sysKey 1 2 3 14 5 0
  | .mrsSpmevfiltr9El0 _ => sysKey 1 2 3 14 5 1
  | .mrsSpmevfiltr10El0 _ => sysKey 1 2 3 14 5 2
  | .mrsSpmevfiltr11El0 _ => sysKey 1 2 3 14 5 3
  | .mrsSpmevfiltr12El0 _ => sysKey 1 2 3 14 5 4
  | .mrsSpmevfiltr13El0 _ => sysKey 1 2 3 14 5 5
  | .mrsSpmevfiltr14El0 _ => sysKey 1 2 3 14 5 6
  | .mrsSpmevfiltr15El0 _ => sysKey 1 2 3 14 5 7
  | .msrSpmevfiltr0El0 _ => sysKey 0 2 3 14 4 0
  | .msrSpmevfiltr1El0 _ => sysKey 0 2 3 14 4 1
  | .msrSpmevfiltr2El0 _ => sysKey 0 2 3 14 4 2
  | .msrSpmevfiltr3El0 _ => sysKey 0 2 3 14 4 3
  | .msrSpmevfiltr4El0 _ => sysKey 0 2 3 14 4 4
  | .msrSpmevfiltr5El0 _ => sysKey 0 2 3 14 4 5
  | .msrSpmevfiltr6El0 _ => sysKey 0 2 3 14 4 6
  | .msrSpmevfiltr7El0 _ => sysKey 0 2 3 14 4 7
  | .msrSpmevfiltr8El0 _ => sysKey 0 2 3 14 5 0
  | .msrSpmevfiltr9El0 _ => sysKey 0 2 3 14 5 1
  | .msrSpmevfiltr10El0 _ => sysKey 0 2 3 14 5 2
  | .msrSpmevfiltr11El0 _ => sysKey 0 2 3 14 5 3
  | .msrSpmevfiltr12El0 _ => sysKey 0 2 3 14 5 4
  | .msrSpmevfiltr13El0 _ => sysKey 0 2 3 14 5 5
  | .msrSpmevfiltr14El0 _ => sysKey 0 2 3 14 5 6
  | .msrSpmevfiltr15El0 _ => sysKey 0 2 3 14 5 7
  | .mrsSpmevtyper0El0 _ => sysKey 1 2 3 14 2 0
  | .mrsSpmevtyper1El0 _ => sysKey 1 2 3 14 2 1
  | .mrsSpmevtyper2El0 _ => sysKey 1 2 3 14 2 2
  | .mrsSpmevtyper3El0 _ => sysKey 1 2 3 14 2 3
  | .mrsSpmevtyper4El0 _ => sysKey 1 2 3 14 2 4
  | .mrsSpmevtyper5El0 _ => sysKey 1 2 3 14 2 5
  | .mrsSpmevtyper6El0 _ => sysKey 1 2 3 14 2 6
  | .mrsSpmevtyper7El0 _ => sysKey 1 2 3 14 2 7
  | .mrsSpmevtyper8El0 _ => sysKey 1 2 3 14 3 0
  | .mrsSpmevtyper9El0 _ => sysKey 1 2 3 14 3 1
  | .mrsSpmevtyper10El0 _ => sysKey 1 2 3 14 3 2
  | .mrsSpmevtyper11El0 _ => sysKey 1 2 3 14 3 3
  | .mrsSpmevtyper12El0 _ => sysKey 1 2 3 14 3 4
  | .mrsSpmevtyper13El0 _ => sysKey 1 2 3 14 3 5
  | .mrsSpmevtyper14El0 _ => sysKey 1 2 3 14 3 6
  | .mrsSpmevtyper15El0 _ => sysKey 1 2 3 14 3 7
  | .msrSpmevtyper0El0 _ => sysKey 0 2 3 14 2 0
  | .msrSpmevtyper1El0 _ => sysKey 0 2 3 14 2 1
  | .msrSpmevtyper2El0 _ => sysKey 0 2 3 14 2 2
  | .msrSpmevtyper3El0 _ => sysKey 0 2 3 14 2 3
  | .msrSpmevtyper4El0 _ => sysKey 0 2 3 14 2 4
  | .msrSpmevtyper5El0 _ => sysKey 0 2 3 14 2 5
  | .msrSpmevtyper6El0 _ => sysKey 0 2 3 14 2 6
  | .msrSpmevtyper7El0 _ => sysKey 0 2 3 14 2 7
  | .msrSpmevtyper8El0 _ => sysKey 0 2 3 14 3 0
  | .msrSpmevtyper9El0 _ => sysKey 0 2 3 14 3 1
  | .msrSpmevtyper10El0 _ => sysKey 0 2 3 14 3 2
  | .msrSpmevtyper11El0 _ => sysKey 0 2 3 14 3 3
  | .msrSpmevtyper12El0 _ => sysKey 0 2 3 14 3 4
  | .msrSpmevtyper13El0 _ => sysKey 0 2 3 14 3 5
  | .msrSpmevtyper14El0 _ => sysKey 0 2 3 14 3 6
  | .msrSpmevtyper15El0 _ => sysKey 0 2 3 14 3 7
  | .mrsSpmiidrEl1 _ => sysKey 1 2 0 9 13 4
  | .mrsSpmintenclrEl1 _ => sysKey 1 2 0 9 14 2
  | .msrSpmintenclrEl1 _ => sysKey 0 2 0 9 14 2
  | .mrsSpmintensetEl1 _ => sysKey 1 2 0 9 14 1
  | .msrSpmintensetEl1 _ => sysKey 0 2 0 9 14 1
  | .mrsSpmovsclrEl0 _ => sysKey 1 2 3 9 12 3
  | .msrSpmovsclrEl0 _ => sysKey 0 2 3 9 12 3
  | .mrsSpmovssetEl0 _ => sysKey 1 2 3 9 14 3
  | .msrSpmovssetEl0 _ => sysKey 0 2 3 9 14 3
  | .mrsSpmrootcrEl3 _ => sysKey 1 2 6 9 14 7
  | .msrSpmrootcrEl3 _ => sysKey 0 2 6 9 14 7
  | .mrsSpmscrEl1 _ => sysKey 1 2 7 9 14 7
  | .msrSpmscrEl1 _ => sysKey 0 2 7 9 14 7
  | .mrsSpmselrEl0 _ => sysKey 1 2 3 9 12 5
  | .msrSpmselrEl0 _ => sysKey 0 2 3 9 12 5
  | .msrSpmzrEl0 _ => sysKey 0 2 3 9 12 4
  | .mrsMdcrEl2 _ => sysKey 1 3 4 1 1 1
  | .msrMdcrEl2 _ => sysKey 0 3 4 1 1 1
  | .mrsMdcrEl3 _ => sysKey 1 3 6 1 3 1
  | .msrMdcrEl3 _ => sysKey 0 3 6 1 3 1

/-- The word of an instruction (R201): its key, then Rt. -/
def encode (i : Instr) : InstrWord := i.key ++ BitVec.ofNat 5 i.rt

end

end Sys2Proof
end

