-- ==== Sys2Proof/Config.lean ====
section
/-! DEFINITION. What an implementation fixes (00_scope.md R7, 93_implementation_defined.md P1 to P9), as plain
data, and the one free value: the architecturally UNKNOWN value (R15), which has no body. -/

namespace Sys2Proof

/-- The feature flags tested by the listings and by the field conditions (R7(a), R1651, R1673, R700).
The prefix FEAT_ is dropped. -/
inductive Feature where
  | AA64 | AA32 | AA32EL1
  | PMUv3 | PMUv3p1 | PMUv3p4 | PMUv3p5 | PMUv3p7 | PMUv3p8 | PMUv3p9
  | PMUv3_TH | PMUv3_TH2 | PMUv3_EDGE | PMUv3_ICNTR | PMUv3_SS | PMUv3_SME
  | PMUv3_EXT | PMUv3_EXT32 | PMUv3_EXT64 | PMUv3_EXTPMN
  | EBEP | SEBEP | SPMU | SPMU2 | FGT | FGT2 | FGWTE3 | RME | SEL2 | VHE
  | MTPMU | HPMN0 | SPEv1p2 | SPE_DPFZS | LVA | LVA3
  | Debugv8p2 | Debugv8p4 | Debugv8p9 | STEP2 | ETE | ETMv4
  | TRBE | TRF | SPE | SPE_nVM | TRBE_EXC | SPE_EXC | TRBE_EXT | ITE | SPE_FDS | TRBE_MPAM
  | BRBE | BRBEv1p1 | SPE_FnE | TRC_EXT | DoubleLock
  deriving DecidableEq, Repr

/-- The two readings of the EL and Security state filter bits, `PMU_FILTER_READING` (R314, D12). -/
inductive FilterReading where
  /-- Reading A: a cycle is not counted when any applicable line holds. -/
  | disjunction
  /-- Reading B: in its own Security state the state-specific line replaces the general one. -/
  | replacement
  deriving DecidableEq, Repr

/-- The two readings of when the phase of the divide-by-64 of PMCR_EL0.D advances (10_state.md R54(a)). -/
inductive DividerReading where
  /-- On every tick (U5). -/
  | everyTick
  /-- On the ticks on which PMCCNTR_EL0 counts (R120: "each 64th counted cycle", R125). -/
  | countedTick
  deriving DecidableEq, Repr

/-- `PMIAR_WRITE_NONCANONICAL` (D13, U13), an enumeration: what bits [63:P] and [1:0] of PMIAR_EL1 hold after a write
that is not a sign extension or has nonzero bits [1:0]. Bits [P-1:2] are as written under each of them (R653). -/
inductive PmiarNoncanonical where
  /-- An unspecified value, drawn at each write: the default of D13. -/
  | unspecified
  /-- A fixed function of the written value, `Config.pmiarFunction`. -/
  | byValue
  /-- Bits [63:P] are copies of bit [P-1] and bits [1:0] are zero, the form that R652 gives the register. -/
  | signExtended
  /-- As written. -/
  | asWritten
  deriving DecidableEq, Repr

/-- What the implementation does with an event number that it does not support, outside the ranges that
R604 protects, without FEAT_PMUv3p8 (U6): the number, and the event counted in its place, if any. -/
structure UnsupportedEvent where
  programmed : Nat
  counted : Option Nat
  deriving DecidableEq, Repr

/-- The allocated value that each reserved field value acts as (R1512, U3). A reserved value is stored and its
effect is that of the value named here. -/
structure ReservedChoice where
  /-- PMECR_EL1.SSE == 0b01: one of 0b00, 0b10, 0b11. -/
  pmecrSse : BitVec 2
  /-- PMCCFILTR_EL0.VS == 0b11: one of 0b00, 0b01, 0b10. -/
  vsCycle : BitVec 2
  /-- PMEVTYPER<n>_EL0.VS == 0b11: one of 0b00, 0b01, 0b10. -/
  vsEvent : BitVec 2
  /-- PMICFILTR_EL0.VS == 0b11: one of 0b00, 0b01, 0b10. -/
  vsInstr : BitVec 2
  /-- PMEVTYPER<n>_EL0.TLC == 0b11: one of 0b00, 0b01, 0b10. -/
  tlc : BitVec 2
  /-- PMEVTYPER<n>_EL0.TC == 0b000 with TE == 1: an allocated row of R585. -/
  tcEdge0 : BitVec 3
  /-- PMEVTYPER<n>_EL0.TC == 0b100 with TE == 1: an allocated row of R585. -/
  tcEdge4 : BitVec 3
  /-- PMEVTYPER<n>_EL0.TC == 0b001, 0b011, 0b101, 0b111 with TE == 0 and TLC == 0b10: TC[2:1] of an allocated row of
  R584. -/
  tcLink1 : BitVec 2
  tcLink3 : BitVec 2
  tcLink5 : BitVec 2
  tcLink7 : BitVec 2
  deriving DecidableEq, Repr

/-- The parameters of one System PMU (P6), as supplied; `Config.spmuConfig` holds them to their constraints. Lists
give one entry per counter; a counter beyond the list takes the default that D21 and R1201 give (the size that
SPMCFGR_EL1.SIZE announces, all-ones masks, reset value zero). -/
structure SpmuConfig where
  cfgr : Word
  cgcr0 : Word
  cgcr1 : Word
  devaff : Word
  devarch : Word
  iidr : Word
  counterBits : List Nat
  ovfMask : Word
  hasIrq : Bool
  hasNao : Bool
  scrHasNao : Bool
  hasScr : Bool
  hasRootcr : Bool
  typerMask : List Word
  filtrMask : List Word
  filt2rMask : List Word
  typerReset : List Word
  filtrReset : List Word
  filt2rReset : List Word
  scrImpdefMask : BitVec 32
  rootcrImpdefMask : BitVec 32
  scrImpdefReset : BitVec 32
  rootcrImpdefReset : BitVec 32
  deriving DecidableEq, Repr

/-- An implementation (R7): no transition of the machine changes it. -/
structure Config where
  features : List Feature
  haveEL2 : Bool
  haveEL3 : Bool
  /-- Secure EL1 is implemented: `HaveELUsingSecurityState(EL1, TRUE)` (R17). -/
  haveSecureEL1 : Bool
  /-- `NUM_PMU_COUNTERS`, 0 to 31 (R7(c)). -/
  numPmuCounters : Nat
  imp : BitVec 8
  idcode : BitVec 8
  pmceid0 : Word
  pmceid1 : Word
  /-- `PMMIR_VALUE` (P4): THWIDTH, BUS_WIDTH, BUS_SLOTS and SLOTS are taken from it within their ranges, SME and EDGE
  from the features (R768). -/
  pmmir : Word
  /-- A PMU event export bus exists (P5). -/
  exportBus : Bool
  /-- The IMPLEMENTATION DEFINED multi-threaded PMU extension exists (R582 MT, P9). -/
  impdefMultiThread : Bool
  /-- The IMPLEMENTATION DEFINED choice of R114: another PE of the same affinity disables FEAT_MTPMU and this PE
  behaves as if MTPME were 0. -/
  mtpmuDisabledElsewhere : Bool
  /-- The event numbers the PE supports outside the ranges of PMCEID<n>_EL0, which say it for their own (R404). -/
  supportedEvents : List Nat
  unsupportedEvents : List UnsupportedEvent
  /-- `UInt(ID_AA64DFR1_EL1.SYSPMUID)`: P<m> of the SPMACCESSR registers is RES0 for m above it (R1012). -/
  sysPmuId : Nat
  /-- Entry `s` is the System PMU numbered `s`, if implemented, for `s` up to SYSPMUID (R7(f), R141). -/
  spmu : List (Option SpmuConfig)
  filterReading : FilterReading
  dividerReading : DividerReading
  pmiarNoncanonical : PmiarNoncanonical
  /-- MDCR_EL2.EBWE is implemented: IMPLEMENTATION DEFINED with 16 or fewer breakpoints and watchpoints (R1652). -/
  ebweImplemented : Bool
  reserved : ReservedChoice
  /-- `SYSPMUSEL_RESERVED_MAP(v)` (D19): entry `v - 0x20`; where the list has none, `UInt(v<4:0>)`. -/
  sysPmuSelMap : List Nat
  /-- `NVMEM_BASE` (P7), 8-byte aligned. -/
  nvmemBase : Word
  /-- `NVMEM_BIG_ENDIAN` (P7). -/
  nvmemBigEndian : Bool
  deriving DecidableEq, Repr

namespace Config

/-- The architecturally UNKNOWN value (R15), DESIGN CHOICE of form only: the k-th draw of a run. It has no body, so
nothing can be proved about a drawn value but that it is one. A field takes as many low bits as it is wide. -/
opaque freeWord : Nat → BitVec 64

/-- The function of `PmiarNoncanonical.byValue` (D13): without a body, so that nothing is known of it. -/
opaque pmiarFunction : BitVec 64 → BitVec 64

/-- `IsFeatureImplemented(FEAT_x)` (R17). -/
def has (c : Config) (f : Feature) : Bool := c.features.contains f

end Config
end Sys2Proof
end

