-- ==== Sys2Proof/Machine/State.lean ====
section
/-! DEFINITION. The state of the machine (10_state.md R50 to R55, R70 to R72, R130 to R134, R140 to R145), as
plain data, the reasons a step can stop, and the state after reset (R1601 to R1607). -/

namespace Sys2Proof.Machine

/-- The Exception levels (R18). -/
inductive EL where
  | el0 | el1 | el2 | el3
  deriving DecidableEq, Repr

/-- The Security states (R18). -/
inductive SecState where
  | nonSecure | secure | realm | root
  deriving DecidableEq, Repr

/-- The fine-grained trap bits of HDFGRTR_EL2 and HDFGWTR_EL2 (R140): 1 traps. -/
inductive FgtBit where
  | PMCCFILTR_EL0 | PMCCNTR_EL0 | PMCNTEN | PMCEIDn_EL0 | PMEVCNTRn_EL0 | PMEVTYPERn_EL0 | PMINTEN
  | PMMIR_EL1 | PMOVS | PMSELR_EL0 | PMSWINC_EL0 | PMUSERENR_EL0 | PMCR_EL0
  deriving DecidableEq, Repr

/-- The fine-grained trap bits of HDFGRTR2_EL2 and HDFGWTR2_EL2 (R140): 0 traps. -/
inductive Fgt2Bit where
  | nPMECR_EL1 | nPMIAR_EL1 | nPMICFILTR_EL0 | nPMICNTR_EL0 | nPMSSCR_EL1 | nPMSSDATA | nPMUACR_EL1
  | nPMZR_EL0 | nSPMACCESSR_EL1 | nSPMCNTEN | nSPMCR_EL0 | nSPMDEVAFF_EL1 | nSPMEVCNTRn_EL0
  | nSPMEVTYPERn_EL0 | nSPMID | nSPMINTEN | nSPMOVS | nSPMSCR_EL1 | nSPMSELR_EL0
  deriving DecidableEq, Repr

/-- The inputs of the rest of the PE (R140 to R145, R134): constant during one instruction, changed between
instructions by the environment only. A list of trap bits holds the bits that are 1. -/
structure Inputs where
  /-- PSTATE.EL (R142). -/
  el : EL
  /-- The current Security state (R142). -/
  ss : SecState
  /-- Streaming SVE mode (R142). -/
  streaming : Bool
  /-- `EL2Enabled()` (R143). -/
  el2Enabled : Bool
  /-- `ELIsInHost(EL0)` (R143). -/
  inHostEL0 : Bool
  /-- `ELIsInHost(EL2)` (R143). -/
  inHostEL2 : Bool
  /-- HCR_EL2.TGE (R140). -/
  tge : Bool
  /-- HCR_EL2.E2H, read by the F0 access lists (R423). -/
  e2h : Bool
  /-- `EffectiveHCR_EL2_NVx()` (R143). -/
  nvx : BitVec 3
  /-- SCR_EL3.FGTEn (R140). -/
  fgtEn : Bool
  /-- SCR_EL3.FGTEn2 (R140). -/
  fgtEn2 : Bool
  hdfgrtr : List FgtBit
  hdfgwtr : List FgtBit
  hdfgrtr2 : List Fgt2Bit
  hdfgwtr2 : List Fgt2Bit
  /-- FGWTE3_EL3.MDCR_EL3 (R140). -/
  fgwte3Mdcr : Bool
  /-- FGWTE3_EL3.SPMROOTCR_EL3 (R140). -/
  fgwte3Spmrootcr : Bool
  /-- MDSCR_EL1.EnSPM (R140). -/
  mdscrEnSPM : Bool
  /-- `EL3SDDUndef()` (R144). -/
  sddUndef : Bool
  /-- `EL3SDDUndefPriority()` (R144). -/
  sddUndefPriority : Bool
  /-- The PE is in Debug state (R1548). -/
  halted : Bool
  /-- `spe_freeze` (R145). -/
  speFreeze : Bool
  /-- `ExternalSecureNoninvasiveDebugEnabled()` (R145). -/
  nsd : Bool
  /-- `ExternalSecureInvasiveDebugEnabled()` (R145): read by no rule that this spec models. -/
  invasiveDebug : Bool
  /-- `EPMN`, the Effective value of PMCCR.EPMN (R110). -/
  epmn : Nat
  /-- `spmu_na(s)` (R134): bit `s`. -/
  spmuNa : BitVec 32
  deriving DecidableEq, Repr

/-- The register names whose accesses can be CONSTRAINED UNPREDICTABLE (R1510). -/
inductive CuName where
  | pmevcntr | pmevtyper | pmxevcntr | pmxevtyper
  deriving DecidableEq, Repr

/-- The direction of an accessor: `MRS` reads, `MSR` writes. -/
inductive Direction where
  | read | write
  deriving DecidableEq, Repr

/-- The two places of a listing that reach `ConstrainUnpredictableProcedure` (R1510): before the Exception level
is examined, and inside the EL0 and EL1 arms. -/
inductive CuPlace where
  | unimplemented | reservedForEL2
  deriving DecidableEq, Repr

/-- The range of `CU_EVENT_COUNTER_CHOICE` (R1510). -/
inductive CuChoice where
  | undefined | razWi | nop | otherCounter | asSel31 | trapEL2
  deriving DecidableEq, Repr

/-- One entry of `CU_EVENT_COUNTER_CHOICE` as a function of (name, direction, place, Exception level) (D26). -/
structure CuEntry where
  name : CuName
  dir : Direction
  place : CuPlace
  el : EL
  choice : CuChoice
  deriving DecidableEq, Repr

/-- The implementation's CONSTRAINED UNPREDICTABLE choices in force (R1509 to R1511). They need not stay the same
from one instruction to the next, so they are the model's own state, changed by the environment. A site without an
entry takes CU_UNDEFINED, the simplest sound choice of R1510. -/
structure Choices where
  cu : List CuEntry
  /-- `CU_HPMN_RESERVED_CHOICE` (R1511), 0 to `NUM_PMU_COUNTERS`. -/
  hpmnReserved : Nat
  deriving DecidableEq, Repr

/-- The System registers, as the listings name the target of an access. The `SPM*` names carry the System PMU `s`,
and the counter arrays the counter `n`, that the listing computes. -/
inductive Reg where
  | pmccfiltr | pmccntr | pmccntsvr | pmceid0 | pmceid1 | pmcntenclr | pmcntenset | pmcr | pmecr
  | pmevcntr (n : Nat) | pmevcntsvr (n : Nat) | pmevtyper (n : Nat)
  | pmiar | pmicfiltr | pmicntr | pmicntsvr | pmintenclr | pmintenset | pmmir | pmovsclr | pmovsset
  | pmselr | pmsscr | pmswinc | pmuacr | pmuserenr | pmzr
  | spmaccessr1 | spmaccessr2 | spmaccessr3 | spmselr
  | spmcfgr (s : Nat) | spmcgcr (s n : Nat) | spmdevaff (s : Nat) | spmdevarch (s : Nat) | spmiidr (s : Nat)
  | spmcntenclr (s : Nat) | spmcntenset (s : Nat) | spmcr (s : Nat)
  | spmevcntr (s n : Nat) | spmevtyper (s n : Nat) | spmevfiltr (s n : Nat) | spmevfilt2r (s n : Nat)
  | spmintenclr (s : Nat) | spmintenset (s : Nat) | spmovsclr (s : Nat) | spmovsset (s : Nat)
  | spmrootcr (s : Nat) | spmscr (s : Nat) | spmzr (s : Nat)
  | mdcrEl2 | mdcrEl3
  deriving DecidableEq, Repr

/-- The kinds of reset (R1600). -/
inductive ResetKind where
  | cold | warm | systemPMU (s : Nat)
  deriving DecidableEq, Repr

/-- The transitions of the agents other than the executing PE (R6 agents 2 to 7). -/
inductive EnvEvent where
  /-- One tick of the PMU counting hardware (R125): its context, the occurrences of each event number on this PE (an
  event not listed occurs 0 times), what the other PEs of the same affinity add to a counter whose Effective MT is 1
  (R114), and the instructions executed in it. -/
  | tick (el : EL) (ss : SecState) (streaming : Bool) (occ others : List (Nat × Nat)) (insts : Nat)
  /-- The System PMU step `spmu_step(s, n, d)` (R135) for an event of this source, none when it is attributable to no
  source (R1437). -/
  | spmuStep (s n d : Nat) (source : Option SecState)
  /-- A reset (R1600). -/
  | reset (kind : ResetKind)
  /-- The rest of the PE changes the inputs (R142, R140). -/
  | setInputs (inp : Inputs)
  /-- The implementation changes a CONSTRAINED UNPREDICTABLE choice (R1509). -/
  | setChoices (c : Choices)
  /-- Another agent writes a byte of the `NVMem` cell (R160). -/
  | nvmemWrite (addr : Nat) (b : Byte)
  /-- Hardware writes PMIAR_EL1 on a PMU Profiling exception (R650, R6 agent 6). -/
  | pmiarWrite (v : Word)
  /-- Another instruction of the PE writes a general register (R6 agent 6). -/
  | setX (t : Nat) (v : Word)
  /-- The rest of the PE resumes after an exception or a branch: the instructions that execute next. -/
  | redirect (pc : Word) (program : List InstrWord)
  /-- Another PE writes a register of a System PMU it shares with this one (R1547, D20), at its own level. -/
  | sharedSpmuWrite (r : Reg) (el : EL) (v : Word)
  deriving DecidableEq, Repr

/-- Who moves next: the model's own schedule of the interleaving that R125 leaves to the environment. -/
inductive Move where
  | pe
  | env (e : EnvEvent)
  deriving DecidableEq, Repr

/-- The abstract exception outcomes (R1501, R1502): the only two a listing raises. -/
inductive Exception where
  | undefined
  | systemAccessTrap (target : EL) (ec : BitVec 6)
  deriving DecidableEq, Repr

/-- The PMU registers of the PE (R53), the shared bitmaps (R70 to R72) and the hidden state of R54. -/
structure Pmu where
  pmccfiltr : Word
  pmccntr : Word
  pmccntsvr : Word
  pmcnten : Word
  pmcr : Word
  pmecr : Word
  pmevcntr : Vector Word 31
  pmevcntsvr : Vector Word 31
  pmevtyper : Vector Word 31
  pmiar : Word
  pmicfiltr : Word
  pmicntr : Word
  pmicntsvr : Word
  pminten : Word
  pmovs : Word
  pmselr : Word
  pmsscr : Word
  pmuacr : Word
  pmuserenr : Word
  /-- The phase of the divide-by-64 of PMCR_EL0.D, 0 to 63 (R54(a)). -/
  divPhase : BitVec 6
  /-- The comparison result of the previous processor cycle, per event counter (R54(b)). -/
  edgePrev : Vector Bool 31
  deriving DecidableEq, Repr

/-- The state of one System PMU (R130 to R133). -/
structure SpmUnit where
  spmcnten : Word
  spmcr : Word
  spmevcntr : Vector Word 64
  spmevtyper : Vector Word 64
  spmevfiltr : Vector Word 64
  spmevfilt2r : Vector Word 64
  spminten : Word
  spmovs : Word
  spmrootcr : Word
  spmscr : Word
  deriving DecidableEq, Repr

/-- The System PMU state: the four registers that exist once per PE, and the units (R130). -/
structure Spm where
  spmaccessr1 : Word
  spmaccessr2 : Word
  spmaccessr3 : Word
  spmselr : Word
  units : Vector SpmUnit 32
  deriving DecidableEq, Repr

/-- The machine. -/
structure State where
  /-- The implementation: a parameter (R7), changed by no transition. -/
  cfg : Config
  inp : Inputs
  /-- The model's own: the CONSTRAINED UNPREDICTABLE choices in force. -/
  choices : Choices
  /-- X0 to X30 (R51). -/
  x : Vector Word 31
  /-- The program counter (R19, R51). -/
  pc : Word
  /-- The instruction words still to be executed (R151: programs are given as sequences of words). -/
  program : List InstrWord
  /-- The model's own: who moves next; when it is empty the PE executes. -/
  schedule : List Move
  /-- The outcome of the last instruction, while it is an exception that the rest of the PE has not taken up
  (R1501, R1502). -/
  pending : Option Exception
  pmu : Pmu
  spm : Spm
  mdcrEl2 : Word
  mdcrEl3 : Word
  /-- The memory: the `NVMem` cell of R160, in canonical form. -/
  mem : List Host.Cell
  /-- The model's own: how many UNKNOWN values have been drawn (R15). -/
  freeCtr : Nat
  deriving DecidableEq, Repr

/-- The faults of the machine. -/
inductive Fault where
  /-- An agent accesses a byte address at which this hardware has no memory (R151: its one memory location is the
  `NVMem` cell). Raised by the environment's memory write only; no instruction computes an address (R154). Safe:
  the machine stops. -/
  | noSuchAddress (addr : Nat)
  deriving DecidableEq, Repr

/-- The refusals of the machine. -/
inductive Refusal where
  /-- An instruction that this model gives no meaning yet. Raised by the dispatcher only. Safe: the machine stops. -/
  | notModelled (mnemonic : String)
  /-- The word is no instruction of this spec (R205, D24). Raised by the step. Safe: the machine stops. -/
  | outsideInstructionSet (w : InstrWord)
  /-- The PE is to execute and no instruction word is left (R151: there is no instruction memory). Raised by the
  step. Safe: the machine stops. -/
  | noInstruction
  /-- The PE is to execute while an exception is outstanding, and what it does then is in no source (R1503).
  Raised by the step. Safe: the machine stops. -/
  | exceptionOutstanding (e : Exception)
  /-- The environment attempts a transition that the spec does not allow it (R110, R135, R142 to R145, R1604).
  Raised by the step. Safe: the machine stops. -/
  | environmentNotAllowed (e : EnvEvent)
  deriving DecidableEq, Repr

/-- The implementation that `State.reset` is a state of: every feature, 31 event counters, two System PMUs.
DESIGN CHOICE (unsafe): the sources fix no implementation (R7). -/
def resetConfig : Config where
  features := [.AA64, .AA32, .AA32EL1, .PMUv3, .PMUv3p1, .PMUv3p4, .PMUv3p5, .PMUv3p7, .PMUv3p8, .PMUv3p9,
    .PMUv3_TH, .PMUv3_TH2, .PMUv3_EDGE, .PMUv3_ICNTR, .PMUv3_SS, .PMUv3_SME, .PMUv3_EXT, .PMUv3_EXT32,
    .PMUv3_EXT64, .PMUv3_EXTPMN, .EBEP, .SEBEP, .SPMU, .SPMU2, .FGT, .FGT2, .FGWTE3, .RME, .SEL2, .VHE, .MTPMU,
    .HPMN0, .SPEv1p2, .SPE_DPFZS, .LVA, .LVA3, .Debugv8p2, .Debugv8p4, .Debugv8p9, .STEP2, .ETE, .ETMv4, .TRBE,
    .TRF, .SPE, .SPE_nVM, .TRBE_EXC, .SPE_EXC, .TRBE_EXT, .ITE, .SPE_FDS, .TRBE_MPAM, .BRBE, .BRBEv1p1, .SPE_FnE,
    .TRC_EXT, .DoubleLock]
  haveEL2 := true
  haveEL3 := true
  haveSecureEL1 := true
  numPmuCounters := 31
  imp := 0
  idcode := 0
  pmceid0 := 0x20101
  pmceid1 := 0
  pmmir := 0x12C00000
  exportBus := true
  impdefMultiThread := false
  mtpmuDisabledElsewhere := false
  supportedEvents := []
  unsupportedEvents := []
  sysPmuId := 1
  spmu :=
    [ some { cfgr := 0x01EB3F3F, cgcr0 := 0, cgcr1 := 0, devaff := 0, devarch := 0, iidr := 0, counterBits := [],
             ovfMask := 0xFFFFFFFFFFFFFFFF, hasIrq := true, hasNao := true, scrHasNao := true, hasScr := true,
             hasRootcr := true, typerMask := [], filtrMask := [], filt2rMask := [], typerReset := [],
             filtrReset := [], filt2rReset := [], scrImpdefMask := 0, rootcrImpdefMask := 0, scrImpdefReset := 0,
             rootcrImpdefReset := 0 },
      some { cfgr := 0x00081F03, cgcr0 := 0, cgcr1 := 0, devaff := 0, devarch := 0, iidr := 0,
             counterBits := [32, 32, 32, 32], ovfMask := 0xF, hasIrq := true, hasNao := false, scrHasNao := false,
             hasScr := true, hasRootcr := true, typerMask := [], filtrMask := [], filt2rMask := [],
             typerReset := [], filtrReset := [], filt2rReset := [], scrImpdefMask := 0, rootcrImpdefMask := 0,
             scrImpdefReset := 0, rootcrImpdefReset := 0 } ]
  filterReading := .replacement
  dividerReading := .everyTick
  pmiarNoncanonical := .unspecified
  ebweImplemented := true
  reserved := { pmecrSse := 0, vsCycle := 0, vsEvent := 0, vsInstr := 0, tlc := 0, tcEdge0 := 1, tcEdge4 := 5,
                tcLink1 := 0, tcLink3 := 1, tcLink5 := 2, tcLink7 := 3 }
  sysPmuSelMap := []
  nvmemBase := 0
  nvmemBigEndian := false

/-- The inputs at reset: EL3, the highest implemented Exception level (R1610 G17, PRESUMED), in Root state (R18),
every other input zero. DESIGN CHOICE (unsafe): R1610 states none. -/
def resetInputs : Inputs where
  el := .el3
  ss := .root
  streaming := false
  el2Enabled := true
  inHostEL0 := false
  inHostEL2 := false
  tge := false
  e2h := false
  nvx := 0
  fgtEn := false
  fgtEn2 := false
  hdfgrtr := []
  hdfgwtr := []
  hdfgrtr2 := []
  hdfgwtr2 := []
  fgwte3Mdcr := false
  fgwte3Spmrootcr := false
  mdscrEnSPM := false
  sddUndef := false
  sddUndefPriority := false
  halted := false
  speFreeze := false
  nsd := false
  invasiveDebug := false
  epmn := 31
  spmuNa := 0

/-- The PMU registers after `reset(Cold)` (R1601 to R1605). The stated values: PMCR_EL0.E, FZS and the F0 bits 0,
PMSSCR_EL1.NC 1 and SS 0, PMEVTYPER<n>_EL0.{TC, TE, TH} 0; PMICFILTR_EL0.evtCount is the constant 0x0008. Every
other bit is UNKNOWN and zero here: DESIGN CHOICE (unsafe). -/
def resetPmu : Pmu where
  pmccfiltr := 0
  pmccntr := 0
  pmccntsvr := 0
  pmcnten := 0
  pmcr := 0
  pmecr := 0
  pmevcntr := Vector.replicate 31 0
  pmevcntsvr := Vector.replicate 31 0
  pmevtyper := Vector.replicate 31 0
  pmiar := 0
  pmicfiltr := 0x8
  pmicntr := 0
  pmicntsvr := 0
  pminten := 0
  pmovs := 0
  pmselr := 0
  pmsscr := 0x100000000
  pmuacr := 0
  pmuserenr := 0
  divPhase := 0
  edgePrev := Vector.replicate 31 false

/-- A System PMU with every bit zero: what `State.reset` holds for a number that names no System PMU. -/
def zeroUnit : SpmUnit where
  spmcnten := 0
  spmcr := 0
  spmevcntr := Vector.replicate 64 0
  spmevtyper := Vector.replicate 64 0
  spmevfiltr := Vector.replicate 64 0
  spmevfilt2r := Vector.replicate 64 0
  spminten := 0
  spmovs := 0
  spmrootcr := 0
  spmscr := 0

/-- System PMU 0 of `resetConfig` after `reset(SystemPMU(0))` (R1604): SPMROOTCR_EL3.NAO is 1. -/
def resetUnit0 : SpmUnit := { zeroUnit with spmrootcr := 0x8 }

/-- The machine right after reset: `reset(Cold)` and `reset(SystemPMU(s))` for every `s` (R1604, D27). MDCR_EL2.HPMN
is `NUM_PMU_COUNTERS` and MDCR_EL3.MTPME is 1 (R1607). UNKNOWN fields are zero: DESIGN CHOICE (unsafe). The choices of
the implementation start at CU_UNDEFINED everywhere (log 11) and, for a reserved MDCR_EL2.HPMN (R1511, R1669: a
parameter without a default), at 31, the `NUM_PMU_COUNTERS` of `resetConfig`: DESIGN CHOICE (log 43, unsafe). -/
def State.reset : State where
  cfg := resetConfig
  inp := resetInputs
  choices := { cu := [], hpmnReserved := 31 }
  x := Vector.replicate 31 0
  pc := 0
  program := []
  schedule := []
  pending := none
  pmu := resetPmu
  spm := { spmaccessr1 := 0, spmaccessr2 := 0, spmaccessr3 := 0, spmselr := 0,
           units := (Vector.replicate 32 zeroUnit).set 0 resetUnit0 }
  mdcrEl2 := 0x1F
  mdcrEl3 := 0x10000000
  mem := []
  freeCtr := 0

end Sys2Proof.Machine
end

