-- ==== Sys2Proof/Machine/Bits.lean ====
section
/-! DEFINITION. Bit-field, mask and array helpers (R10), used by every operation of the machine. -/

namespace Sys2Proof.Machine

/-- `v<i>` (R10). -/
def bit (v : Word) (i : Nat) : Bool := v.getLsbD i

/-- `v<lo+w-1:lo>` (R10). -/
def field (v : Word) (lo w : Nat) : BitVec w := v.extractLsb' lo w

/-- `UInt(v<lo+w-1:lo>)`. -/
def fieldNat (v : Word) (lo w : Nat) : Nat := (field v lo w).toNat

/-- The word with bit `i` set exactly when `i < n` and `p i`. -/
def maskOf (n : Nat) (p : Nat → Bool) : Word :=
  match n with
  | 0 => 0
  | n + 1 => if p n then maskOf n p ||| BitVec.twoPow 64 n else maskOf n p

/-- The word with bit `i` set exactly when `c`: the mask of a one-bit field that exists when `c` (R58). -/
def bitIf (i : Nat) (c : Bool) : Word := if c then BitVec.twoPow 64 i else 0

/-- The mask of the field of width `w` at `lo` that exists when `c` (R58). -/
def fieldIf (lo w : Nat) (c : Bool) : Word := if c then (BitVec.ofNat 64 (2 ^ w - 1)) <<< lo else 0

/-- `Zeros(64 - n) : Ones(n)`. -/
def onesWord (n : Nat) : Word := BitVec.ofNat 64 (2 ^ n - 1)

/-- `(old AND NOT m) OR (v AND m)`: the bits of `m` replaced (R57). -/
def mergeBits (old v m : Word) : Word := (old &&& ~~~m) ||| (v &&& m)

/-- Entry `i` of an array, `d` beyond its end. -/
def arrayGet {α : Type} {n : Nat} (a : Vector α n) (i : Nat) (d : α) : α := a[i]?.getD d

/-- The array with entry `i` replaced; unchanged beyond its end. -/
def arraySet {α : Type} {n : Nat} (a : Vector α n) (i : Nat) (x : α) : Vector α n := a.setIfInBounds i x

/-- Entry `i` of a parameter list, `d` where the list gives none. -/
def listGet {α : Type} (l : List α) (i : Nat) (d : α) : α := l.getD i d

/-- The value a list of pairs gives `k`, 0 where it gives none. -/
def occurrences (l : List (Nat × Nat)) (k : Nat) : Nat :=
  match l with
  | [] => 0
  | (e, c) :: rest => if e == k then c else occurrences rest k

end Sys2Proof.Machine
end

