-- ==== Sys2Proof/Machine/Params.lean ====
section
/-! DEFINITION. What an implementation's parameters (R7, P1 to P9) make of the registers: which counters and System
PMUs exist, which bits of each register are stored (R56, R58), and what the reserved values act as (R1512). -/

namespace Sys2Proof

open Machine

/-- `NUM_PMU_COUNTERS`, at most 31 (R7(c)). -/
def Config.numCounters (c : Config) : Nat := min c.numPmuCounters 31

/-- The allocated values of SPMCFGR_EL1.SIZE (R1052). -/
def spmcfgrSizes : List Nat := [7, 9, 11, 15, 19, 23, 31, 35, 39, 43, 47, 51, 55, 63]

/-- `SPMCFGR_VALUE` held to R1041, R1048, R1052 and R1053: bits [63:32], [27:25], [18] and [15:14] are 0 and bit 19 is
1; a reserved SIZE stands for 64-bit counters and an N above 0x3F for 64 counters. -/
def spmcfgrValue (v : Word) : Word :=
  (v &&& (fieldIf 28 4 true ||| fieldIf 20 5 true ||| fieldIf 16 2 true)) ||| bitIf 19 true |||
  (BitVec.ofNat 64 (if spmcfgrSizes.contains (fieldNat v 8 6) then fieldNat v 8 6 else 63) <<< 8) |||
  BitVec.ofNat 64 (min (fieldNat v 0 8) 63)

/-- The most counters that a counter group has when SPMCFGR_EL1.NCG is `ncg` (R1042); with one group SPMCGCR<n>_EL1
reads as zero. -/
def spmcgcrCap (ncg : Nat) : Nat :=
  if ncg = 0 then 0 else if ncg = 1 then 32 else if ncg ≤ 3 then 16 else if ncg ≤ 7 then 8 else 4

/-- The counters of group `8k + m`, the field N<m> of SPMCGCR<k>_EL1 (R1061), of which `v` names more than R1042
allows or that does not exist: held to the cap, and to 0 for a group above NCG, DESIGN CHOICE (log 41). -/
def spmcgcrCount (ncg k m : Nat) (v : Word) : Nat :=
  if 8 * k + m ≤ ncg then min (fieldNat v (8 * m) 8) (spmcgcrCap ncg) else 0

/-- `SPMCGCR_VALUE(s, k)` held to R1042: each of its eight fields (R1061). -/
def spmcgcrHeld (ncg k : Nat) (v : Word) : Word := maskOf 64 fun i => (spmcgcrCount ncg k (i / 8) v).testBit (i % 8)

/-- SPMDEVAFF_EL1 without F0V names no PE: its Aff0, Aff1 and Aff2 are 0, where the last is reserved (R1166). -/
def spmdevaffNoLevel (v : Word) : Bool := !bit v 31 && field v 0 24 == 0

/-- `SPMDEVAFF_VALUE` with its RES0 bits [63:40] and [29:25] at 0 (R1162). U and MT, UNKNOWN without F0V (R1165), are
part of this constant (U10), so two reads agree. Where the value names no PE, its reserved Aff2 of 0x00 (R1166) stands
for affinity level 3, 0x80, if Aff3 is not zero, and else the register reads as zero (R1170): DESIGN CHOICE (log 41). -/
def spmdevaffValue (v : Word) : Word :=
  if spmdevaffNoLevel v && field v 32 8 == 0 then 0
  else (v &&& (fieldIf 30 10 true ||| fieldIf 0 25 true)) ||| bitIf 23 (spmdevaffNoLevel v)

/-- `SPMDEVARCH_VALUE` with its RES0 bits [63:32] at 0 (R1181), and all of it without PRESENT (R1183). -/
def spmdevarchValue (v : Word) : Word := if bit v 20 then v &&& onesWord 32 else 0

/-- `SPMIIDR_VALUE` with its RES0 bits [63:32] and 7 at 0 (R1281, R1285). -/
def spmiidrValue (v : Word) : Word := v &&& onesWord 32 &&& ~~~bitIf 7 true

/-- The parameters of a System PMU held to the constraints of their rules (P6): the constants above, and
SPMSCR_EL1.NAO, which exists only where non-attributable events can be counted, and then always with FEAT_RME (R1434). -/
def SpmuConfig.normalised (p : SpmuConfig) (rme : Bool) : SpmuConfig :=
  { p with
    cfgr := spmcfgrValue p.cfgr
    cgcr0 := spmcgcrHeld (fieldNat p.cfgr 28 4) 0 p.cgcr0
    cgcr1 := spmcgcrHeld (fieldNat p.cfgr 28 4) 1 p.cgcr1
    devaff := spmdevaffValue p.devaff
    devarch := spmdevarchValue p.devarch
    iidr := spmiidrValue p.iidr
    scrHasNao := p.hasNao && (p.scrHasNao || rme) }

/-- The parameters of System PMU `n`, if implemented: its number is at most SYSPMUID (R7(f)), within 0 to 31 (R141). -/
def Config.spmuConfig (c : Config) (n : Nat) : Option SpmuConfig :=
  if n < 32 ∧ n ≤ c.sysPmuId then (c.spmu[n]?).join.map (·.normalised (c.has .RME)) else none

/-- System PMU `n` is implemented. -/
def Config.spmuImplemented (c : Config) (n : Nat) : Bool := (c.spmuConfig n).isSome

/-- `SYSPMUSEL_RESERVED_MAP(v)` (D19), an allocated value. -/
def Config.sysPmuSelReserved (c : Config) (v : Nat) : Nat := c.sysPmuSelMap.getD (v - 32) (v % 32) % 32

/-- `IsSPMUCounterImplemented(s, n)` (D17). -/
def Config.spmuCounterImplemented (c : Config) (sys n : Nat) : Bool :=
  match c.spmuConfig sys with
  | none => false
  | some p => decide (n ≤ fieldNat p.cfgr 0 8) && decide (n < 64)

/-- `impl(s)` (R1103): a 1 for each implemented counter. -/
def Config.spmuImplMask (c : Config) (sys : Nat) : Word := maskOf 64 (c.spmuCounterImplemented sys)

/-- `SPMU_OVF_MASK(s)`, within the implemented counters (R1302). -/
def Config.spmuOvfMask (c : Config) (sys : Nat) : Word :=
  match c.spmuConfig sys with
  | none => 0
  | some p => p.ovfMask &&& c.spmuImplMask sys

/-- `imask(s)` (R1303). -/
def Config.spmuIntMask (c : Config) (sys : Nat) : Word :=
  match c.spmuConfig sys with
  | none => 0
  | some p => if p.hasIrq then c.spmuOvfMask sys else 0

/-- The size in bits that SPMCFGR_EL1.SIZE announces (R1052). -/
def SpmuConfig.size (p : SpmuConfig) : Nat := fieldNat p.cfgr 8 6 + 1

/-- `SPMU_COUNTER_BITS(s, n)`, at most the announced size (R1201). -/
def SpmuConfig.bits (p : SpmuConfig) (n : Nat) : Nat := min (p.counterBits.getD n p.size) p.size

/-- P<m> of the SPMACCESSR registers exists for `m` up to SYSPMUID (R1012, R1022, R1032). -/
def Config.spmaccessMask (c : Config) : Word := maskOf 64 fun i => decide (i / 2 ≤ c.sysPmuId)

/-- Secure EL2 is implemented (R310, R599). -/
def Config.secureEL2 (c : Config) : Bool := c.haveEL2 && c.haveSecureEL1 && c.has .SEL2

/-- The SH filter field exists: with EL3 and FEAT_SEL2, and RES0 when Secure EL2 is not implemented (R310, R599). -/
def Config.hasSH (c : Config) : Bool := c.haveEL3 && c.secureEL2

/-- The filter fields that PMCCFILTR_EL0, PMEVTYPER<n>_EL0 and PMICFILTR_EL0 share (R302, R582, R661). -/
def Config.filterMask (c : Config) : Word :=
  fieldIf 56 2 (c.has .PMUv3_SME) ||| bitIf 31 true ||| bitIf 30 true ||| bitIf 29 c.haveEL3 |||
  bitIf 28 c.haveEL3 ||| bitIf 27 c.haveEL2 ||| bitIf 26 c.haveEL3 ||| bitIf 24 c.hasSH |||
  bitIf 22 (c.has .RME) ||| bitIf 21 (c.has .RME) ||| bitIf 20 (c.has .RME)

/-- PMMIR_EL1.THWIDTH: 1 to 12 with FEAT_PMUv3_TH, else 0 (R764). -/
def Config.thWidth (c : Config) : Nat := if c.has .PMUv3_TH then max 1 (min (fieldNat c.pmmir 20 4) 12) else 0

/-- PMMIR_EL1.EDGE (R763). -/
def Config.pmmirEdge (c : Config) : Nat :=
  if !c.has .PMUv3_TH then 0 else if c.has .PMUv3_TH2 then 2 else if c.has .PMUv3_EDGE then 1 else 0

/-- PMMIR_EL1.BUS_WIDTH: a reserved value stands for "not available" (R765). -/
def Config.pmmirBusWidth (c : Config) : Nat :=
  if [0, 3, 4, 5, 6, 7, 8, 9, 10, 11, 12].contains (fieldNat c.pmmir 16 4) then fieldNat c.pmmir 16 4 else 0

/-- `PMMIR_VALUE` held to the conditions of R768 (R761 to R767). -/
def Config.pmmirValue (c : Config) : Word :=
  bitIf 28 (c.has .PMUv3_SME) ||| (BitVec.ofNat 64 c.pmmirEdge <<< 24) ||| (BitVec.ofNat 64 c.thWidth <<< 20) |||
  (BitVec.ofNat 64 c.pmmirBusWidth <<< 16) ||| (c.pmmir &&& onesWord 16)

/-- PMEVTYPER<n>_EL0.TLC exists (R590). -/
def Config.hasTLC (c : Config) (n : Nat) : Bool := c.has .PMUv3_TH2 && n % 2 == 1

/-- The stored bits of PMEVTYPER<n>_EL0 (R582, R591). -/
def Config.evtyperMask (c : Config) (n : Nat) : Word :=
  c.filterMask ||| fieldIf 61 3 (c.has .PMUv3_TH) ||| bitIf 60 (c.has .PMUv3_EDGE) ||| bitIf 58 (c.has .SEBEP) |||
  fieldIf 54 2 (c.hasTLC n) ||| fieldIf 32 c.thWidth (c.has .PMUv3_TH) |||
  bitIf 25 (c.has .MTPMU || c.impdefMultiThread) ||| fieldIf 10 6 (c.has .PMUv3p1) ||| fieldIf 0 10 true

/-- PMEVTYPER<n>_EL0.TC is RES0 although FEAT_PMUv3_TH is implemented: no form of the field holds (R582, R586). -/
def Config.tcRes0 (c : Config) (n : Nat) (f : Word) : Bool :=
  c.hasTLC n && !(c.has .PMUv3_EDGE && bit f 60) && field f 54 2 == 3

/-- `v` as PMEVTYPER<n>_EL0 holds it: its RES0 bits, TC among them where no form of it holds, are 0 (R582, R586). -/
def Config.evtyperStored (c : Config) (n : Nat) (v : Word) : Word :=
  v &&& c.evtyperMask n &&& ~~~fieldIf 61 3 (c.tcRes0 n v)

/-- `WMASK` of PMICFILTR_EL0 (R661, R676). -/
def Config.icfiltrMask (c : Config) : Word := c.filterMask ||| bitIf 58 (c.has .SEBEP)

/-- The bits of an event counter (R552). -/
def Config.counterMask (c : Config) : Word := onesWord (if c.has .PMUv3p5 then 64 else 32)

/-- PMCR_EL0.DP exists (R470). -/
def Config.hasDP (c : Config) : Bool :=
  c.haveEL3 || (c.has .PMUv3p1 && c.haveEL2) || c.has .PMUv3p7 || c.has .SPE_DPFZS

/-- The stored bits of PMCR_EL0 (R462). -/
def Config.pmcrMask (c : Config) : Word :=
  bitIf 32 (c.has .SPEv1p2) ||| bitIf 9 (c.has .PMUv3p7) ||| bitIf 7 (c.has .PMUv3p5) ||| bitIf 6 (c.has .AA32) |||
  bitIf 5 c.hasDP ||| bitIf 4 c.exportBus ||| bitIf 3 (c.has .AA32) ||| bitIf 0 true

/-- The stored bits of PMECR_EL1 (R491). -/
def Config.pmecrMask (c : Config) : Word :=
  fieldIf 3 2 (c.has .PMUv3_SS) ||| bitIf 2 (c.has .EBEP) ||| fieldIf 0 2 (c.has .EBEP)

/-- The stored bits of PMUSERENR_EL0 (R881). -/
def Config.pmuserenrMask (c : Config) : Word :=
  bitIf 6 (c.has .PMUv3p9) ||| bitIf 5 (c.has .PMUv3_ICNTR) ||| bitIf 4 (c.has .PMUv3p9) ||| fieldIf 0 4 true

/-- The stored bits of PMCEID<n>_EL0: IDhi exists with FEAT_PMUv3p1 (R403, R413). -/
def Config.pmceidMask (c : Config) : Word := fieldIf 32 32 (c.has .PMUv3p1) ||| fieldIf 0 32 true

/-- The stored bits of `PMCNTEN`, `PMINTEN` and `PMOVS` (R70 to R72). -/
def Config.bitmapMask (c : Config) : Word :=
  bitIf 32 (c.has .PMUv3_ICNTR) ||| bitIf 31 true ||| maskOf 31 fun m => decide (m < c.numCounters)

/-- The stored bits of PMUACR_EL1 (R871). -/
def Config.pmuacrMask (c : Config) : Word := c.bitmapMask

/-- The stored bits of MDCR_EL2 (R1651); none without EL2 (R1650). Whether EBWE is implemented is IMPLEMENTATION DEFINED
with 16 or fewer breakpoints and watchpoints (R1652): the parameter `ebweImplemented`, DESIGN CHOICE (log 40). -/
def Config.mdcrEl2Mask (c : Config) : Word :=
  if c.haveEL2 then
    bitIf 50 (c.has .STEP2) ||| bitIf 43 (c.has .Debugv8p9 && c.ebweImplemented) ||| fieldIf 40 2 (c.has .EBEP) |||
    bitIf 36 (c.has .SPEv1p2) ||| fieldIf 30 2 (c.has .PMUv3_SS) ||| bitIf 29 (c.has .PMUv3p7) |||
    bitIf 28 (c.has .MTPMU && !c.haveEL3) ||| bitIf 27 (c.has .FGT) ||| bitIf 26 (c.has .PMUv3p5) |||
    fieldIf 24 2 (c.has .TRBE) ||| bitIf 23 (c.has .PMUv3p5) ||| bitIf 19 (c.has .TRF) |||
    bitIf 17 (c.has .PMUv3p1) ||| bitIf 15 (c.has .SPMU) ||| bitIf 14 (c.has .SPE) ||| fieldIf 12 2 (c.has .SPE) |||
    fieldIf 8 4 true ||| fieldIf 0 8 (c.has .PMUv3)
  else 0

/-- MDCR_EL3.EnPM2 exists (R1686). -/
def Config.hasEnPM2 (c : Config) : Bool :=
  c.has .PMUv3p9 || c.has .SPMU || c.has .EBEP || c.has .PMUv3_SS || c.has .SPMU2

/-- The stored bits of MDCR_EL3 (R1673). -/
def Config.mdcrEl3Mask (c : Config) : Word :=
  bitIf 55 (c.has .SPE_nVM) ||| fieldIf 53 2 (c.has .TRBE_EXC) ||| fieldIf 51 2 (c.has .SPE_EXC) |||
  bitIf 50 (c.has .STEP2) ||| fieldIf 48 2 (c.has .TRBE_EXT) ||| bitIf 47 (c.has .ITE) |||
  fieldIf 44 3 (c.has .PMUv3_SS) ||| bitIf 43 (c.has .Debugv8p9) ||| bitIf 42 (c.has .SPE_FDS) |||
  fieldIf 40 2 (c.has .EBEP) ||| bitIf 39 (c.has .TRBE_MPAM) ||| fieldIf 37 2 (c.has .BRBEv1p1) |||
  bitIf 36 (c.has .SPE_FnE) ||| fieldIf 34 2 (c.has .PMUv3p7) ||| fieldIf 32 2 (c.has .BRBE) |||
  fieldIf 30 2 (c.has .PMUv3_SS) ||| bitIf 28 (c.has .MTPMU) ||| bitIf 27 (c.has .FGT) |||
  bitIf 26 (c.has .TRBE && c.has .RME) ||| fieldIf 24 2 (c.has .TRBE) ||| bitIf 23 (c.has .PMUv3p5) |||
  bitIf 22 (c.has .TRC_EXT && c.has .TRBE) ||| bitIf 21 (c.has .PMUv3_EXT) ||| bitIf 20 true |||
  bitIf 19 (c.has .TRF) ||| bitIf 18 (c.has .TRF && c.haveSecureEL1) ||| bitIf 17 (c.has .PMUv3) |||
  bitIf 16 c.haveSecureEL1 ||| fieldIf 14 2 (c.has .AA32EL1) ||| fieldIf 12 2 (c.has .SPE) |||
  bitIf 11 (c.has .SPE && c.has .RME) ||| fieldIf 9 2 true ||| bitIf 7 c.hasEnPM2 ||| bitIf 6 (c.has .PMUv3) |||
  bitIf 4 (c.has .RME) ||| bitIf 3 (c.has .RME && c.has .TRC_EXT && c.has .TRBE) |||
  bitIf 2 (c.has .RME && c.has .PMUv3_EXT) ||| bitIf 0 (c.has .RME && c.has .TRF)

/-- The stored bits of SPMACCESSR_EL2: none without EL2 (R1020). -/
def Config.spmaccess2Mask (c : Config) : Word := if c.haveEL2 then c.spmaccessMask else 0

/-- The stored bits of SPMSELR_EL0 (R1461). -/
def spmselrMask : Word := fieldIf 4 6 true ||| fieldIf 0 2 true

/-- The stored bits of SPMCR_EL0 at the Exception level of the access (R1149): TRO and HDBG are RO at EL0. -/
def SpmuConfig.crMask (p : SpmuConfig) (el : EL) : Word :=
  bitIf 11 (bit p.cfgr 23 && el != .el0) ||| bitIf 10 (bit p.cfgr 24 && el != .el0) ||| bitIf 9 (bit p.cfgr 21) |||
  bitIf 4 (bit p.cfgr 16) ||| bitIf 0 true

/-- The stored bits of SPMROOTCR_EL3 (R1418). -/
def SpmuConfig.rootcrMask (p : SpmuConfig) : Word :=
  (p.rootcrImpdefMask.setWidth 64 <<< 32) ||| bitIf 3 p.hasNao ||| fieldIf 0 2 true

/-- The stored bits of SPMSCR_EL1 (R1438). -/
def SpmuConfig.scrMask (p : SpmuConfig) : Word :=
  (p.scrImpdefMask.setWidth 64 <<< 32) ||| bitIf 4 p.scrHasNao ||| bitIf 0 true

/-- The VS field of a filter register as it acts: 0b11 acts as the value chosen for that register (R1512). -/
def vsEff (chosen : BitVec 2) (f : Word) : BitVec 2 := if field f 56 2 == 3 then chosen else field f 56 2

/-- PMEVTYPER<n>_EL0.TLC as it acts; 0 where the field does not exist (R590, R1512). -/
def Config.tlcEff (c : Config) (n : Nat) (f : Word) : BitVec 2 :=
  if !c.hasTLC n then 0 else if field f 54 2 == 3 then c.reserved.tlc else field f 54 2

/-- PMEVTYPER<n>_EL0.TC as it acts in the edge form: 0b000 and 0b100 act as the implementation chose (R585, R1512). -/
def Config.tcEdgeEff (c : Config) (f : Word) : BitVec 3 :=
  if field f 61 3 == 0 then c.reserved.tcEdge0 else if field f 61 3 == 4 then c.reserved.tcEdge4 else field f 61 3

/-- PMEVTYPER<n>_EL0.TC as it acts in the link form: the odd values act as the implementation chose (R584, R1512). -/
def Config.tcLinkEff (c : Config) (f : Word) : BitVec 3 :=
  if field f 61 3 == 1 then c.reserved.tcLink1 ++ 0#1
  else if field f 61 3 == 3 then c.reserved.tcLink3 ++ 0#1
  else if field f 61 3 == 5 then c.reserved.tcLink5 ++ 0#1
  else if field f 61 3 == 7 then c.reserved.tcLink7 ++ 0#1
  else field f 61 3

/-- The event number that PMEVTYPER<n>_EL0 selects: 16 bits with FEAT_PMUv3p1, else 10 (R604). -/
def Config.evtCount (c : Config) (f : Word) : Nat := if c.has .PMUv3p1 then fieldNat f 0 16 else fieldNat f 0 10

/-- The event number lies in a range of which R604 says that an unsupported event is not counted and reads back as
written. -/
def Config.protectedEvent (c : Config) (e : Nat) : Bool :=
  decide (e < 0x40) || (c.has .PMUv3p1 && decide (0x4000 ≤ e) && decide (e < 0x4040))

/-- The bit of PMCEID0_EL0 or PMCEID1_EL0 for a common event in their ranges (R403, R404, R413, R414). -/
def Config.commonEvent (c : Config) (e : Nat) : Bool :=
  if e < 0x20 then bit c.pmceid0 e
  else if e < 0x40 then bit c.pmceid1 (e - 0x20)
  else if e < 0x4020 then bit c.pmceid0 (e - 0x4000 + 32)
  else bit c.pmceid1 (e - 0x4020 + 32)

/-- The PE implements and counts event `e`: PMCEID<n>_EL0 says so for the common events in their ranges (R403, R404,
R413, R414), which are the ranges that R604 protects, and the parameter `supportedEvents` for the others. -/
def Config.supported (c : Config) (e : Nat) : Bool :=
  if c.protectedEvent e then c.commonEvent e else c.supportedEvents.contains e

/-- The event that the implementation counts for an unsupported number, if any (U6). -/
def unsupportedCounted (l : List UnsupportedEvent) (e : Nat) : Option Nat :=
  match l with
  | [] => none
  | u :: rest => if u.programmed == e then u.counted else unsupportedCounted rest e

/-- The event that counter programmed with `e` counts, if any (R604, U6). -/
def Config.countedEvent (c : Config) (e : Nat) : Option Nat :=
  if c.supported e then some e
  else if c.has .PMUv3p8 || c.protectedEvent e then none
  else unsupportedCounted c.unsupportedEvents e

end Sys2Proof
end

