-- ==== Sys2Proof/Machine/Operands.lean ====
section
/-! DEFINITION. The operands of the accessors: which registers, fields and counters exist, the Effective values of
the fields (R14), the conditions the listings test, and the masks that say which bits of each register are stored
(R56, R58). -/

namespace Sys2Proof.Machine

/-! ## The implementation (R7, R17) -/

/-- `HaveEL(EL2)`. -/
def State.haveEL2 (s : State) : Bool := s.cfg.haveEL2

/-- `HaveEL(EL3)`. -/
def State.haveEL3 (s : State) : Bool := s.cfg.haveEL3

/-- `IsFeatureImplemented(FEAT_x)` (R17). -/
def State.has (s : State) (f : Feature) : Bool := s.cfg.has f

/-! ## Fields of the control registers -/

/-- PMUSERENR_EL0.TID (R882). -/
def State.userTID (s : State) : Bool := bit s.pmu.pmuserenr 6
/-- PMUSERENR_EL0.IR (R883). -/
def State.userIR (s : State) : Bool := bit s.pmu.pmuserenr 5
/-- PMUSERENR_EL0.UEN (R884). -/
def State.userUEN (s : State) : Bool := bit s.pmu.pmuserenr 4
/-- PMUSERENR_EL0.ER (R885, R886). -/
def State.userER (s : State) : Bool := bit s.pmu.pmuserenr 3
/-- PMUSERENR_EL0.CR (R887, R888). -/
def State.userCR (s : State) : Bool := bit s.pmu.pmuserenr 2
/-- PMUSERENR_EL0.SW (R889, R890). -/
def State.userSW (s : State) : Bool := bit s.pmu.pmuserenr 1
/-- PMUSERENR_EL0.EN (R891). -/
def State.userEN (s : State) : Bool := bit s.pmu.pmuserenr 0

/-- PMUACR_EL1.F0 (R872). -/
def State.uacrF0 (s : State) : Bool := bit s.pmu.pmuacr 32
/-- PMUACR_EL1.C (R873). -/
def State.uacrC (s : State) : Bool := bit s.pmu.pmuacr 31
/-- PMUACR_EL1.P<m>, which the listings write `PMUACR_EL1[m]` (R871, R874). -/
def State.uacrP (s : State) (m : Nat) : Bool := bit s.pmu.pmuacr m

/-- MDCR_EL3.EnPMSS (R1676). -/
def State.mdcr3EnPMSS (s : State) : Bool := bit s.mdcrEl3 44
/-- MDCR_EL3.TDA (R1685). -/
def State.mdcr3TDA (s : State) : Bool := bit s.mdcrEl3 9
/-- MDCR_EL3.EnPM2 (R1686). -/
def State.mdcr3EnPM2 (s : State) : Bool := bit s.mdcrEl3 7
/-- MDCR_EL3.TPM (R1687). -/
def State.mdcr3TPM (s : State) : Bool := bit s.mdcrEl3 6
/-- MDCR_EL2.EnSPM (R1663). -/
def State.mdcr2EnSPM (s : State) : Bool := bit s.mdcrEl2 15
/-- MDCR_EL2.TPM (R1666). -/
def State.mdcr2TPM (s : State) : Bool := bit s.mdcrEl2 6
/-- MDCR_EL2.TPMCR (R1667). -/
def State.mdcr2TPMCR (s : State) : Bool := bit s.mdcrEl2 5

/-- `UInt(PMSELR_EL0.SEL)` (R832). -/
def State.sel (s : State) : Nat := fieldNat s.pmu.pmselr 0 5

/-! ## Number of counters and ranges (R110, R111) -/

/-- `GetNumEventCountersSelfHosted()` (R110). `EPMN` never exceeds `NUM_PMU_COUNTERS` (R1513). -/
def State.numSelfHosted (s : State) : Nat :=
  if s.has .PMUv3_EXTPMN then min s.inp.epmn s.cfg.numCounters else s.cfg.numCounters

/-- The stored MDCR_EL2.HPMN is a reserved value (R1669). -/
def State.hpmnReserved (s : State) : Bool :=
  decide (s.numSelfHosted < fieldNat s.mdcrEl2 0 5) || (fieldNat s.mdcrEl2 0 5 == 0 && !s.has .HPMN0)

/-- `hpmn_eff()`, the Effective value of MDCR_EL2.HPMN (R110, R1511). -/
def State.hpmnEff (s : State) : Nat :=
  if !s.haveEL2 then s.numSelfHosted
  else if s.hpmnReserved then
    if s.has .PMUv3_EXTPMN then s.numSelfHosted else min s.choices.hpmnReserved s.cfg.numCounters
  else fieldNat s.mdcrEl2 0 5

/-- `PSTATE.EL IN {EL0, EL1}`. -/
def State.atEL0or1 (s : State) : Bool := s.inp.el == .el0 || s.inp.el == .el1

/-- `GetNumEventCountersAccessible()` (R110). -/
def State.numAccessible (s : State) : Nat :=
  if s.atEL0or1 && s.inp.el2Enabled then s.hpmnEff else s.numSelfHosted

/-- Event counter `n` is in the first range (R111). -/
def State.firstRange (s : State) (n : Nat) : Bool := decide (n < s.hpmnEff)

/-- Event counter `n` is in the second range (R111). -/
def State.secondRange (s : State) (n : Nat) : Bool := decide (s.hpmnEff ≤ n) && decide (n < s.numSelfHosted)

/-! ## Conditions of the listings -/

/-- `HaveEL(EL3) && EL3SDDUndefPriority()` (R144). -/
def State.undefPriority (s : State) : Bool := s.haveEL3 && s.inp.sddUndefPriority

/-- `EL2Enabled()` (R143). -/
def State.el2Enabled (s : State) : Bool := s.inp.el2Enabled

/-- `EL2Enabled() && FEAT_FGT && (!HaveEL(EL3) || SCR_EL3.FGTEn == '1') && HDFGRTR_EL2.<b> == '1'` (R140). -/
def State.fgtRead (s : State) (b : FgtBit) : Bool :=
  s.el2Enabled && s.has .FGT && (!s.haveEL3 || s.inp.fgtEn) && s.inp.hdfgrtr.contains b

/-- The same with HDFGWTR_EL2. -/
def State.fgtWrite (s : State) (b : FgtBit) : Bool :=
  s.el2Enabled && s.has .FGT && (!s.haveEL3 || s.inp.fgtEn) && s.inp.hdfgwtr.contains b

/-- `FEAT_FGT2 && ((HaveEL(EL3) && SCR_EL3.FGTEn2 == '0') || <bit> == '0')` under `EL2Enabled()`, with the bit of
HDFGRTR2_EL2 (R140). -/
def State.fgt2Read (s : State) (b : Fgt2Bit) : Bool :=
  s.el2Enabled && s.has .FGT2 && ((s.haveEL3 && !s.inp.fgtEn2) || !s.inp.hdfgrtr2.contains b)

/-- The same with HDFGWTR2_EL2. -/
def State.fgt2Write (s : State) (b : Fgt2Bit) : Bool :=
  s.el2Enabled && s.has .FGT2 && ((s.haveEL3 && !s.inp.fgtEn2) || !s.inp.hdfgwtr2.contains b)

/-- The user permission test of most accessors (R892): `EN == '0' && (!FEAT_PMUv3p9 || UEN == '0')`. -/
def State.userDisabled (s : State) : Bool := !s.userEN && (!s.has .PMUv3p9 || !s.userUEN)

/-- The user permission test with a read enable `b` (CR, ER or SW, R892): with FEAT_PMUv3p9 `<UEN,b,EN> == '000'`,
without it `<b,EN> == '00'`. -/
def State.userDisabledBut (s : State) (b : Bool) : Bool :=
  (s.has .PMUv3p9 && !s.userUEN && !b && !s.userEN) || (!s.has .PMUv3p9 && !b && !s.userEN)

/-- `FEAT_PMUv3p9 && PMUSERENR_EL0.UEN == '1'`. -/
def State.userUENOn (s : State) : Bool := s.has .PMUv3p9 && s.userUEN

/-! ## System PMUs (R141, R1000, R1003, R1463) -/

/-- The System PMU that SPMSELR_EL0.SYSPMUSEL selects (R1462, R1463). -/
def State.selectedSpmu (s : State) : Nat :=
  if fieldNat s.spm.spmselr 4 6 < 32 then fieldNat s.spm.spmselr 4 6
  else s.cfg.sysPmuSelReserved (fieldNat s.spm.spmselr 4 6)

/-- `(UInt(SPMSELR_EL0.BANK) * 16) + m` (R1000). -/
def State.bankIndex (s : State) (m : Nat) : Nat := fieldNat s.spm.spmselr 0 2 * 16 + m

/-- `SPMACCESSR_ELn<UInt(SPMSELR_EL0.SYSPMUSEL) * 2+:2>` of one access register (R1001). -/
def State.spmAccess (s : State) (r : Word) : BitVec 2 := field (r &&& s.cfg.spmaccessMask) (s.selectedSpmu * 2) 2

/-- The access test of an `MRS`: `acc == '00'` (R1001). -/
def State.spmNoRead (s : State) (r : Word) : Bool := s.spmAccess r == 0

/-- The access test of an `MSR`: `acc != '11'` (R1001). -/
def State.spmNoWrite (s : State) (r : Word) : Bool := s.spmAccess r != 3

/-! ## Effective values of chained and reserved fields -/

/-- One PMEE field as it acts: a reserved value acts as 0b00 (R1530). `delegates` says whether 0b01 is allocated. -/
def pmeeField (v : BitVec 2) (delegates : Bool) : BitVec 2 :=
  if v == 3 then 3 else if v == 1 && delegates then 1 else 0

/-- `pmee_eff()` (R1530). -/
def State.pmeeEff (s : State) : BitVec 2 :=
  let m3 := if s.haveEL3 then pmeeField (field s.mdcrEl3 40 2) true else 1
  if m3 != 1 then m3
  else
    let m2 := if s.haveEL2 && s.el2Enabled then pmeeField (field s.mdcrEl2 40 2) true else 1
    if m2 != 1 then m2 else pmeeField (field s.pmu.pmecr 0 2) false

/-- `profiling_exception_enabled()` (R1530). -/
def State.profilingEnabled (s : State) : Bool := s.has .EBEP && s.pmeeEff == 3

/-- Effective PMCR_EL0.LC: RES1 without FEAT_AA32, 1 while the PMU Profiling exception is enabled (R469). -/
def State.lcEff (s : State) : Bool := !s.has .AA32 || s.profilingEnabled || bit s.pmu.pmcr 6

/-- Effective PMCR_EL0.LP (R468). -/
def State.lpEff (s : State) : Bool := s.profilingEnabled || bit s.pmu.pmcr 7

/-- Effective MDCR_EL2.HLP (R112). -/
def State.hlpEff (s : State) : Bool := s.profilingEnabled || bit s.mdcrEl2 26

/-- The divide-by-64 is in force: PMCR_EL0.D is 1 and the Effective PMCR_EL0.LC is 0 (R472). -/
def State.divEff (s : State) : Bool := s.has .AA32 && bit s.pmu.pmcr 3 && !s.lcEff

/-- The kinds of control of Capture events (R844). -/
inductive CaptureControl where
  | disabled | prohibited | allowed
  deriving DecidableEq, Repr

/-- The capture control that a resolved two-bit value stands for (R844). -/
def captureOf (v : BitVec 2) : CaptureControl := if v == 3 then .allowed else if v == 2 then .prohibited else .disabled

/-- `capture_control()` (R844). The reserved PMECR_EL1.SSE value acts as the implementation chose (R1512). -/
def State.captureControl (s : State) : CaptureControl :=
  let m3 : BitVec 2 := if s.haveEL3 then field s.mdcrEl3 30 2 else 1
  if m3 != 1 then captureOf m3
  else
    let m2 : BitVec 2 := if s.haveEL2 then field s.mdcrEl2 30 2 else 1
    if m2 != 1 then captureOf m2
    else if field s.pmu.pmecr 3 2 == 1 then captureOf s.cfg.reserved.pmecrSse else captureOf (field s.pmu.pmecr 3 2)

/-- FEAT_MTPMU is enabled for this PE (R114). -/
def State.mtpmeEff (s : State) : Bool :=
  (if s.haveEL3 then bit s.mdcrEl3 28 else bit s.mdcrEl2 28) && !s.cfg.mtpmuDisabledElsewhere

/-- The Effective PMEVTYPER<n>_EL0.MT (R114, R598). -/
def State.mtEff (s : State) (f : Word) : Bool :=
  bit f 25 && (if s.has .MTPMU then s.mtpmeEff else s.cfg.impdefMultiThread)

/-! ## Access types of the bits of the shared bitmaps -/

/-- The access type of one bit in the context of one access (R57). -/
inductive FieldAccess where
  /-- RAZ/WI. -/
  | razWi
  /-- RO. -/
  | ro
  /-- WO/RAZ. -/
  | woRaz
  /-- W1C, W1S or RW. -/
  | w
  deriving DecidableEq, Repr

/-- `rd(i)` (R57). -/
def FieldAccess.readable : FieldAccess → Bool
  | .ro | .w => true
  | .razWi | .woRaz => false

/-- `wr(i)` (R57). -/
def FieldAccess.writable : FieldAccess → Bool
  | .w | .woRaz => true
  | .razWi | .ro => false

/-- `EL3 is implemented && PSTATE.EL != EL3 && MDCR_EL3.EnPM2 == '0'` (R423 item 1). -/
def State.f0Disabled (s : State) : Bool := s.haveEL3 && s.inp.el != .el3 && !s.mdcr3EnPM2

/-- `FEAT_FGT2 && EL2Enabled() && PSTATE.EL IN {EL1, EL0} && [HCR_EL2.E2H, HCR_EL2.TGE] != '11'` (R423). -/
def State.f0Guest (s : State) : Bool :=
  s.has .FGT2 && s.el2Enabled && s.atEL0or1 && !(s.inp.e2h && s.inp.tge)

/-- `EL3 is implemented && SCR_EL3.FGTEn2 == '0'` (R423). -/
def State.fgt2Off (s : State) : Bool := s.haveEL3 && !s.inp.fgtEn2

/-- The access type of F0 in PMCNTENCLR_EL0, PMCNTENSET_EL0, PMOVSCLR_EL0 and PMOVSSET_EL0: the list of R423. -/
def State.f0Access (s : State) : FieldAccess :=
  let noRead := !s.inp.hdfgrtr2.contains .nPMICFILTR_EL0
  let noWrite := !s.inp.hdfgwtr2.contains .nPMICFILTR_EL0
  if !s.has .PMUv3_ICNTR then .razWi
  else if s.f0Disabled then .razWi
  else if s.inp.el == .el0 && (!s.userUEN || !s.uacrF0) then .razWi
  else if s.f0Guest && (s.fgt2Off || (noRead && noWrite)) then .razWi
  else if s.f0Guest && s.inp.el == .el0 && (s.fgt2Off || noRead) && s.userIR then .razWi
  else if s.f0Guest && (s.fgt2Off || noRead) then .woRaz
  else if s.f0Guest && (s.fgt2Off || noWrite) then .ro
  else if s.inp.el == .el0 && s.userIR then .ro
  else .w

/-- The access type of F0 in PMINTENCLR_EL1 and PMINTENSET_EL1: the list of R713. -/
def State.f0IntAccess (s : State) : FieldAccess :=
  let guest := s.has .FGT2 && s.el2Enabled && s.inp.el == .el1
  let noRead := !s.inp.hdfgrtr2.contains .nPMICFILTR_EL0
  let noWrite := !s.inp.hdfgwtr2.contains .nPMICFILTR_EL0
  if !s.has .PMUv3_ICNTR then .razWi
  else if s.f0Disabled then .razWi
  else if guest && (s.fgt2Off || (noRead && noWrite)) then .razWi
  else if guest && (s.fgt2Off || noRead) then .woRaz
  else if guest && (s.fgt2Off || noWrite) then .ro
  else .w

/-- The access type of C in the count enable and overflow registers (R425, R445, R806, R825). -/
def State.cAccess (s : State) : FieldAccess :=
  if s.userUENOn && s.inp.el == .el0 && !s.uacrC then .razWi
  else if s.userUENOn && s.inp.el == .el0 && s.userCR then .ro
  else .w

/-- The access type of P<m> in the count enable and overflow registers (R426, R446, R807, R826). -/
def State.pAccess (s : State) (m : Nat) : FieldAccess :=
  if s.numAccessible ≤ m then .razWi
  else if s.userUENOn && s.inp.el == .el0 && !s.uacrP m then .razWi
  else if s.userUENOn && s.inp.el == .el0 && s.userER then .ro
  else .w

/-- The access type of P<m> in the interrupt enable registers (R716, R736) and in PMUACR_EL1 (R874). -/
def State.pIntAccess (s : State) (m : Nat) : FieldAccess := if s.numAccessible ≤ m then .razWi else .w

/-- Bit `i` of PMCNTEN*/PMOVS* has type `acc i` in this access. -/
def State.countAccess (s : State) (i : Nat) : FieldAccess :=
  if i == 32 then s.f0Access else if i == 31 then s.cAccess else s.pAccess i

/-- Bit `i` of PMINTEN* has type `acc i` in this access. -/
def State.intAccess (s : State) (i : Nat) : FieldAccess :=
  if i == 32 then s.f0IntAccess else if i == 31 then .w else s.pIntAccess i

/-- Bit `i` of PMUACR_EL1 (R875). -/
def State.uacrAccess (s : State) (i : Nat) : FieldAccess :=
  if i == 32 then (if s.has .PMUv3_ICNTR then .w else .razWi) else if i == 31 then .w else s.pIntAccess i

/-- The `rd` mask of a bitmap register (R427, R717, R809). -/
def readMask (acc : Nat → FieldAccess) : Word := maskOf 33 fun i => (acc i).readable

/-- The `wr` mask of a bitmap register (R427, R717, R809). -/
def writeMask (acc : Nat → FieldAccess) : Word := maskOf 33 fun i => (acc i).writable

/-- Bit `i` of PMZR_EL0 is WO/RAZ in this access (R972 to R974). -/
def State.zrWritable (s : State) (i : Nat) : Bool :=
  if i == 32 then
    !(!s.has .PMUv3_ICNTR || s.f0Disabled || (s.inp.el == .el0 && (!s.userUEN || !s.uacrF0)) ||
      (s.f0Guest && (s.fgt2Off || !s.inp.hdfgwtr2.contains .nPMICNTR_EL0)) || (s.inp.el == .el0 && s.userIR))
  else if i == 31 then !(s.userUENOn && s.inp.el == .el0 && (!s.uacrC || s.userCR))
  else !(decide (s.numAccessible ≤ i) || (s.userUENOn && s.inp.el == .el0 && (!s.uacrP i || s.userER)))

/-- P<m> of PMSWINC_EL0 is WO/RAZ in this access (R862). -/
def State.swincWritable (s : State) (m : Nat) : Bool :=
  !(decide (s.numAccessible ≤ m) ||
    (s.has .PMUv3p9 && s.inp.el == .el0 && s.userUEN && !s.userSW && !s.uacrP m))

/-! ## The outcome of an access listing -/

/-- What a listing decides (R1500): the access is performed on a register, reads as zero or is ignored, is turned
into the memory access of R160, does nothing, raises an exception, or is CONSTRAINED UNPREDICTABLE at one of the two
places of R1510. -/
inductive Access where
  | perform (r : Reg)
  | razWi
  | nop
  | nvmem
  | undefined
  | trap (target : EL)
  | constrained (place : CuPlace)
  deriving DecidableEq, Repr

/-- `if EL2Enabled() && HCR_EL2.TGE == '1' then trap to EL2 else trap to EL1`: the trap of an EL0 access. -/
def State.trapUser (s : State) : Access := if s.el2Enabled && s.inp.tge then .trap .el2 else .trap .el1

/-- `if EL3SDDUndef() then raise Undefined() else trap to EL3` (R1506). -/
def State.trapMonitor (s : State) : Access := if s.inp.sddUndef then .undefined else .trap .el3

end Sys2Proof.Machine
end

