-- ==== Sys2Proof/Machine/Flags.lean ====
section
/-! DEFINITION. The unsigned overflow flags (R72, R808): the width at which each counter overflows, and when an
addition sets the flag. These are the only flags of the machine; the condition flags of PSTATE are read and written
by nothing here (R52). -/

namespace Sys2Proof.Machine

/-- The overflow width of PMCCNTR_EL0 (R808 with i = 31). -/
def State.cycleOvfWidth (s : State) : Nat := if s.lcEff then 64 else 32

/-- The overflow width of PMEVCNTR<n>_EL0 (R808 with i = n). -/
def State.eventOvfWidth (s : State) (n : Nat) : Nat :=
  if !s.has .PMUv3p5 then 32
  else if s.firstRange n && !s.lpEff then 32
  else if s.secondRange n && !s.hlpEff then 32
  else 64

/-- Adding `d` to `old` overflows at width `w`: `(old mod 2^w) + d >= 2^w` with `d >= 1` (R808). -/
def overflows (w : Nat) (old : Word) (d : Nat) : Bool := decide (1 ≤ d) && decide (2 ^ w ≤ old.toNat % 2 ^ w + d)

/-- The PMU overflow interrupt request `pmu_irq`, an output (R1531). -/
def State.pmuIrq (s : State) : Bool := (s.pmu.pminten &&& s.pmu.pmovs) != 0 && !s.profilingEnabled

end Sys2Proof.Machine
end

