-- ==== Sys2Proof/Machine/Counting.lean ====
section
/-! DEFINITION. When the PMU counters count (R120 to R125), the filters (R314, R605, R675), the threshold and edge
function (R606), and the tick. All predicates of one tick are those of the state at its start (R125). -/

namespace Sys2Proof.Machine

/-- The context in which a cycle is spent (R125, R142). -/
structure Context where
  el : EL
  ss : SecState
  streaming : Bool
  deriving DecidableEq, Repr

/-- The context of the executing PE. -/
def State.context (s : State) : Context := { el := s.inp.el, ss := s.inp.ss, streaming := s.inp.streaming }

/-- The lines of R314 for the VS field, whose reserved value acts as `chosen`. -/
def filteredVS (c : Config) (chosen : BitVec 2) (f : Word) (ctx : Context) : Bool :=
  c.has .PMUv3_SME && ((ctx.streaming && vsEff chosen f == 1) || (!ctx.streaming && vsEff chosen f == 2))

/-- The lines of R314 for the Exception level and Security state, under reading A: any line that holds. -/
def filteredA (c : Config) (f : Word) (ctx : Context) : Bool :=
  match ctx.el with
  | .el1 => bit f 31 || (ctx.ss == .nonSecure && c.haveEL3 && bit f 29 != bit f 31) ||
      (ctx.ss == .realm && c.has .RME && bit f 22 != bit f 31)
  | .el0 => bit f 30 || (ctx.ss == .nonSecure && c.haveEL3 && bit f 28 != bit f 30) ||
      (ctx.ss == .realm && c.has .RME && bit f 21 != bit f 30)
  | .el2 => c.haveEL2 && (!bit f 27 ||
      (ctx.ss == .secure && c.hasSH && bit f 24 == bit f 27) ||
      (ctx.ss == .realm && c.has .RME && bit f 20 == bit f 27))
  | .el3 => c.haveEL3 && bit f 26 != bit f 31

/-- The same under reading B: in its own Security state the state-specific line replaces the general one. -/
def filteredB (c : Config) (f : Word) (ctx : Context) : Bool :=
  match ctx.el with
  | .el1 =>
    if ctx.ss == .nonSecure && c.haveEL3 then bit f 29 != bit f 31
    else if ctx.ss == .realm && c.has .RME then bit f 22 != bit f 31
    else bit f 31
  | .el0 =>
    if ctx.ss == .nonSecure && c.haveEL3 then bit f 28 != bit f 30
    else if ctx.ss == .realm && c.has .RME then bit f 21 != bit f 30
    else bit f 30
  | .el2 => c.haveEL2 &&
      (if ctx.ss == .secure && c.hasSH then bit f 24 == bit f 27
       else if ctx.ss == .realm && c.has .RME then bit f 20 == bit f 27
       else !bit f 27)
  | .el3 => c.haveEL3 && bit f 26 != bit f 31

/-- `filtered(f, el, ss, vm)` (R314, R605, R675) under the implementation's `PMU_FILTER_READING` (D12); `chosen` is what
the reserved VS value of that register acts as (R1512). -/
def filtered (c : Config) (chosen : BitVec 2) (f : Word) (ctx : Context) : Bool :=
  (match c.filterReading with
    | .disjunction => filteredA c f ctx
    | .replacement => filteredB c f ctx) || filteredVS c chosen f ctx

/-- `secure_or_el3` (R123). -/
def Context.secureOrEL3 (ctx : Context) : Bool := ctx.ss == .secure || ctx.el == .el3

/-- `hpmd_active` (R123, R1662). -/
def State.hpmdActive (s : State) : Bool :=
  s.has .PMUv3p1 && s.haveEL2 && bit s.mdcrEl2 17 && (s.has .Debugv8p2 || !s.inp.nsd)

/-- `spme_active` (R123, R1682). -/
def State.spmeActive (s : State) : Bool :=
  s.haveEL3 && !bit s.mdcrEl3 17 && (s.has .PMUv3p7 || s.has .Debugv8p2 || !s.inp.nsd)

/-- `mpmx` (R123, R1678). -/
def State.mpmx (s : State) : Bool := s.has .PMUv3p7 && s.haveEL3 && bit s.mdcrEl3 35

/-- `prohibited_first(el, ss)` (R123), and in Debug state (R1548). -/
def State.prohibitedFirst (s : State) (ctx : Context) : Bool :=
  s.inp.halted || (s.hpmdActive && ctx.el == .el2) || (s.mpmx && ctx.el == .el3) ||
    (!s.mpmx && s.spmeActive && ctx.secureOrEL3)

/-- `prohibited_second(el, ss)` (R123), and in Debug state (R1548). -/
def State.prohibitedSecond (s : State) (ctx : Context) : Bool :=
  s.inp.halted || (s.mpmx && ctx.el == .el3 && (!s.haveEL2 || !bit s.mdcrEl3 17)) ||
    (!s.mpmx && s.spmeActive && ctx.secureOrEL3)

/-- PMEVTYPER<n>_EL0. -/
def State.evtyper (s : State) (n : Nat) : Word := arrayGet s.pmu.pmevtyper n 0

/-- `ovf(m)` (R124): the overflow flag of event counter `m`, unless it is in synchronous mode. -/
def State.ovfFreezes (s : State) (m : Nat) : Bool := bit s.pmu.pmovs m && (!s.has .SEBEP || !bit (s.evtyper m) 58)

/-- `frozen_by_fzo_first()` (R124). -/
def State.frozenByFzoFirst (s : State) : Bool :=
  s.has .PMUv3p7 && bit s.pmu.pmcr 9 &&
    ((List.range 31).any (fun m => s.firstRange m && s.ovfFreezes m) ||
      (s.has .PMUv3_ICNTR && bit s.pmu.pmovs 32 && (!s.has .SEBEP || !bit s.pmu.pmicfiltr 58)))

/-- `frozen_by_fzo_second()` (R124). -/
def State.frozenByFzoSecond (s : State) : Bool :=
  s.has .PMUv3p7 && bit s.mdcrEl2 29 && (List.range 31).any (fun m => s.secondRange m && s.ovfFreezes m)

/-- `frozen_by_fzs_first()` (R124). -/
def State.frozenByFzsFirst (s : State) : Bool := s.has .SPEv1p2 && bit s.pmu.pmcr 32 && s.inp.speFreeze

/-- `frozen_by_fzs_second()` (R124). -/
def State.frozenByFzsSecond (s : State) : Bool := s.has .SPEv1p2 && bit s.mdcrEl2 36 && s.inp.speFreeze

/-- `frozen_for_cc()` (R120). -/
def State.frozenForCC (s : State) : Bool := s.frozenByFzoFirst || (s.has .SPE_DPFZS && s.frozenByFzsFirst)

/-- `cc_counts(el, ss, vm)` (R120). -/
def State.ccCounts (s : State) (ctx : Context) : Bool :=
  bit s.pmu.pmcr 0 && bit s.pmu.pmcnten 31 && !filtered s.cfg s.cfg.reserved.vsCycle s.pmu.pmccfiltr ctx &&
    !(s.cfg.hasDP && bit s.pmu.pmcr 5 && (s.prohibitedFirst ctx || s.frozenForCC)) &&
    !(s.has .PMUv3p5 && s.haveEL2 && bit s.mdcrEl2 23 && ctx.el == .el2) &&
    !(s.has .PMUv3p5 && s.haveEL3 && bit s.mdcrEl3 23 && ctx.secureOrEL3) &&
    !(s.has .PMUv3p7 && s.haveEL3 && bit s.mdcrEl3 34 && ctx.el == .el3)

/-- Event counter `n` is enabled: `PMCNTEN[n]` and the enable of its range (R111, R121). -/
def State.evEnabled (s : State) (n : Nat) : Bool :=
  decide (n < s.numSelfHosted) && bit s.pmu.pmcnten n &&
    (if s.firstRange n then bit s.pmu.pmcr 0 else bit s.mdcrEl2 7)

/-- `ev_counts(n, el, ss, vm)` (R121), for `n` below `GetNumEventCountersSelfHosted()`. -/
def State.evCounts (s : State) (n : Nat) (ctx : Context) : Bool :=
  s.evEnabled n && !filtered s.cfg s.cfg.reserved.vsEvent (s.evtyper n) ctx &&
    !(if s.firstRange n then s.prohibitedFirst ctx else s.prohibitedSecond ctx) &&
    !(if s.firstRange n then s.frozenByFzoFirst || s.frozenByFzsFirst
      else s.frozenByFzoSecond || s.frozenByFzsSecond)

/-- The instruction counter counts an instruction executed in this context (R122, R692). -/
def State.icCounts (s : State) (ctx : Context) : Bool :=
  s.has .PMUv3_ICNTR && bit s.pmu.pmcr 0 && bit s.pmu.pmcnten 32 &&
    !(s.prohibitedFirst ctx || s.frozenByFzoFirst || s.frozenByFzsFirst) &&
    !filtered s.cfg s.cfg.reserved.vsInstr s.pmu.pmicfiltr ctx

/-! ## The threshold and edge function (R606) -/

/-- `cmp(v)`: the comparison with TH that TC[2:1] selects, unsigned. -/
def thresholdCmp (tc : BitVec 3) (th v : Nat) : Bool :=
  match tc.toNat / 2 with
  | 0 => decide (v ≠ th)
  | 1 => decide (v = th)
  | 2 => decide (th ≤ v)
  | _ => decide (v < th)

/-- The TH field of PMEVTYPER<n>_EL0 with its RES0 bits read as 0 (R591). -/
def thresholdTH (c : Config) (f : Word) : Nat := fieldNat f 32 12 % 2 ^ c.thWidth

/-- The TC field as it acts: the values that its form reserves act as the implementation chose (R1512), and where no
form holds it is 0 (R586). -/
def thresholdTC (c : Config) (n : Nat) (f : Word) : BitVec 3 :=
  if c.has .PMUv3_EDGE && bit f 60 then c.tcEdgeEff f
  else if c.tcRes0 n f then 0
  else if c.tlcEff n f == 2 then c.tcLinkEff f
  else field f 61 3

/-- The edge rows of R585: `prev` is the comparison result of the previous cycle, `now` that of this one. The rows
with TC[0] == 0 count a change in either direction, those with TC[0] == 1 a change to true. -/
def thresholdEdge (tc : BitVec 3) (prev now : Bool) : Bool := if tc.getLsbD 0 then now && !prev else now != prev

/-- `V[n]` of R606 from `VB[n]`, the previous comparison result and `V[n-1]`. -/
def thresholdV (c : Config) (n : Nat) (f : Word) (vb vPrev : Nat) (prev : Bool) : Nat :=
  let tc := thresholdTC c n f
  let now := thresholdCmp tc (thresholdTH c f) vb
  if !c.has .PMUv3_TH then vb
  else if !(c.has .PMUv3_EDGE && bit f 60) then
    if c.tlcEff n f == 2 then (if now then vPrev else 0)
    else if now then (if tc.getLsbD 0 then 1 else vb)
    else if c.tlcEff n f == 1 then vPrev
    else 0
  else if thresholdEdge tc prev now then (if c.tlcEff n f == 2 then vPrev else 1)
  else 0

/-- The events of one cycle (R125): those of this PE and those of the other PEs of its affinity (R114). -/
structure Occurrences where
  own : List (Nat × Nat)
  others : List (Nat × Nat)
  deriving DecidableEq, Repr

/-- `VB[n]`: the occurrences in this cycle of the event that counter `n` selects (R121, R125, R604). -/
def State.vb (s : State) (o : Occurrences) (n : Nat) : Nat :=
  match s.cfg.countedEvent (s.cfg.evtCount (s.evtyper n)) with
  | none => 0
  | some e => occurrences o.own e + (if s.mtEff (s.evtyper n) then occurrences o.others e else 0)

/-- `V[n]` of one tick, 0 where counter `n` does not count (R125, R606). -/
def State.v (s : State) (ctx : Context) (o : Occurrences) (n : Nat) : Nat :=
  match n with
  | 0 =>
    if s.evCounts 0 ctx then thresholdV s.cfg 0 (s.evtyper 0) (s.vb o 0) 0 (arrayGet s.pmu.edgePrev 0 false) else 0
  | k + 1 =>
    if s.evCounts (k + 1) ctx then
      thresholdV s.cfg (k + 1) (s.evtyper (k + 1)) (s.vb o (k + 1)) (s.v ctx o k)
        (arrayGet s.pmu.edgePrev (k + 1) false)
    else 0

/-! ## Advancing the counters -/

/-- PMEVCNTR<n>_EL0 (R552). -/
def State.evcntr (s : State) (n : Nat) : Word := arrayGet s.pmu.pmevcntr n 0

/-- Hardware adds `d n` to every event counter `n` (R808): the counters modulo their width, and the overflow flags. -/
def addToCounters (d : Nat → Nat) (s : State) : State :=
  { s with pmu := { s.pmu with
      pmevcntr := Vector.ofFn fun n : Fin 31 =>
        if d n = 0 then s.evcntr n else (s.evcntr n + BitVec.ofNat 64 (d n)) &&& s.cfg.counterMask
      pmovs := s.pmu.pmovs ||| maskOf 31 fun n => overflows (s.eventOvfWidth n) (s.evcntr n) (d n) } }

/-- The phase of the divide-by-64 advances on a tick on which the cycle counter counts or does not (R54(a), U5, R120). -/
def State.phaseAdvances (s : State) (counts : Bool) : Bool := counts || s.cfg.dividerReading == .everyTick

/-- One tick of the cycle counter, which counts it or not (R125, R324): its phase advances by one (R54(a)); when it
counts, PMCCNTR_EL0 advances by one, or, while the divide-by-64 is in force, by one when the phase wraps. -/
def stepCycle (counts : Bool) (s : State) : State :=
  let inc := counts && (!s.divEff || s.pmu.divPhase == 63)
  { s with pmu := { s.pmu with
      divPhase := if s.phaseAdvances counts then s.pmu.divPhase + 1 else s.pmu.divPhase
      pmccntr := if inc then s.pmu.pmccntr + 1 else s.pmu.pmccntr
      pmovs := s.pmu.pmovs ||| bitIf 31 (inc && overflows s.cycleOvfWidth s.pmu.pmccntr 1) } }

/-- The instruction counter counts `k` instructions (R692, `k` times): PMICNTR_EL0 modulo 2^64, and PMOVS[32]. -/
def addInstructions (k : Nat) (s : State) : State :=
  { s with pmu := { s.pmu with
      pmicntr := s.pmu.pmicntr + BitVec.ofNat 64 k
      pmovs := s.pmu.pmovs ||| bitIf 32 (overflows 64 s.pmu.pmicntr k) } }

/-- The comparison results of this cycle, which the edge forms use on the next (R54(b), R606). -/
def recordEdges (o : Occurrences) (s : State) : State :=
  { s with pmu := { s.pmu with
      edgePrev := Vector.ofFn fun n : Fin 31 =>
        thresholdCmp (thresholdTC s.cfg n (s.evtyper n)) (thresholdTH s.cfg (s.evtyper n)) (s.vb o n) } }

/-- One tick (R125): the cycle counter, the event counters and the instruction counter. Every predicate, amount and
overflow width is that of the state `s` at the start of the tick. -/
def tick (ctx : Context) (o : Occurrences) (insts : Nat) (s : State) : State :=
  let s1 := addToCounters (fun n => s.v ctx o n) s
  let s2 := stepCycle (s.ccCounts ctx) s1
  let s3 := recordEdges o s2
  if s.icCounts ctx then addInstructions insts s3 else s3

end Sys2Proof.Machine
end

