-- ==== Sys2Proof/Machine/Memory.lean ====
section
/-! DEFINITION. The memory: the one 64-bit location `NVMem[0x8E8]` of R160, as bytes in canonical form: addresses
strictly rising, no entry equal to what an unlisted address reads as. -/

namespace Sys2Proof.Machine

/-- What an unlisted byte reads as. DESIGN CHOICE (unsafe): the sources give the location no reset contents. -/
def unlistedByte : Byte := 0

/-- The canonical form, from the lowest address `lo` that the first entry may have. -/
def memWfFrom (lo : Nat) (m : List Host.Cell) : Bool :=
  match m with
  | [] => true
  | (a, b) :: rest => decide (lo ≤ a) && b != unlistedByte && memWfFrom (a + 1) rest

/-- Addresses strictly rise and no entry equals the unlisted byte. -/
def memWf (m : List Host.Cell) : Bool := memWfFrom 0 m

/-- One byte of memory. -/
def readByte (m : List Host.Cell) (a : Nat) : Byte :=
  match m with
  | [] => unlistedByte
  | (k, b) :: rest => if k = a then b else readByte rest a

/-- One byte written: the entry replaced, inserted in order, or removed when the unlisted byte is written. -/
def writeByte (m : List Host.Cell) (a : Nat) (b : Byte) : List Host.Cell :=
  match m with
  | [] => if b = unlistedByte then [] else [(a, b)]
  | (k, c) :: rest =>
    if a < k then (if b = unlistedByte then (k, c) :: rest else (a, b) :: (k, c) :: rest)
    else if a = k then (if b = unlistedByte then rest else (a, b) :: rest)
    else (k, c) :: writeByte rest a b

/-- The address of byte `i` of `NVMem[0x8E8]`: `NVMEM_BASE + 0x8E8 + i` (R160, P7). -/
def State.nvmemAddr (s : State) (i : Nat) : Nat := (s.cfg.nvmemBase.toNat + 0x8E8 + i) % 2 ^ 64

/-- Which byte of the 64-bit value, counted from the least significant, lies at byte `i` of the cell: `i`, or `7 - i`
when `NVMEM_BIG_ENDIAN` (R153). -/
def State.nvmemLane (s : State) (i : Nat) : Nat := if s.cfg.nvmemBigEndian then 7 - i else i

/-- `MemRead(0x8E8, 8)` (R160). It does not fault. -/
def State.nvmemRead (s : State) : Word :=
  (List.range 8).foldl
    (fun acc i => acc ||| ((readByte s.mem (s.nvmemAddr i)).setWidth 64 <<< (8 * s.nvmemLane i))) 0

/-- `MemWrite(0x8E8, 8, v)` (R160). It does not fault. -/
def State.nvmemWrite (s : State) (v : Word) : State :=
  let store := fun (m : List Host.Cell) (i : Nat) => writeByte m (s.nvmemAddr i) (v.extractLsb' (8 * s.nvmemLane i) 8)
  { s with mem := (List.range 8).foldl store s.mem }

/-- The byte addresses at which this hardware has memory: those of the cell (R151). -/
def State.addressExists (s : State) (a : Nat) : Bool := (List.range 8).any fun i => s.nvmemAddr i == a

end Sys2Proof.Machine
end

