-- ==== Sys2Proof/Machine/Spmu.lean ====
section
/-! DEFINITION. The System PMUs (R130 to R135): what a read of each per-System-PMU register returns, what a write
does, the environment step and the interrupt output. A System PMU or a counter that does not exist reads as zero and
ignores writes (R1003). -/

namespace Sys2Proof.Machine

/-- The state of System PMU `n`. -/
def State.unit (s : State) (n : Nat) : SpmUnit := arrayGet s.spm.units n zeroUnit

/-- System PMU `n` changed, if it is implemented; nothing otherwise (R1003). -/
def updateUnit (n : Nat) (f : SpmuConfig → SpmUnit → SpmUnit) (s : State) : State :=
  match s.cfg.spmuConfig n with
  | none => s
  | some p => { s with spm := { s.spm with units := arraySet s.spm.units n (f p (s.unit n)) } }

/-- A read of a register of System PMU `n`: zero if it is not implemented (R1003). -/
def State.unitValue (s : State) (n : Nat) (f : SpmuConfig → SpmUnit → Word) : Word :=
  match s.cfg.spmuConfig n with
  | none => 0
  | some p => f p (s.unit n)

/-- A read of a register of counter `k` of System PMU `n`: zero if the counter is not implemented (R1202). -/
def State.counterValue (s : State) (n k : Nat) (f : SpmuConfig → SpmUnit → Word) : Word :=
  if s.cfg.spmuCounterImplemented n k then s.unitValue n f else 0

/-- A write of a register of counter `k` of System PMU `n`: ignored if the counter is not implemented (R1202). -/
def updateCounter (n k : Nat) (f : SpmuConfig → SpmUnit → SpmUnit) (s : State) : State :=
  if s.cfg.spmuCounterImplemented n k then updateUnit n f s else s

/-- The mask of an IMPLEMENTATION DEFINED register of counter `k`: all ones where the list gives none (D21). -/
def implDefMask (l : List Word) (k : Nat) : Word := listGet l k (BitVec.allOnes 64)

/-- The value read from SPMCR_EL0 (R1149). -/
def spmcrValue (p : SpmuConfig) (na : Bool) (u : SpmUnit) : Word :=
  (u.spmcr &&& p.crMask .el3) ||| bitIf 8 (bit p.cfgr 17 && na)

/-- Every implemented event counter selected by the mask set to zero (R1147, R1472). -/
def zeroSpmCounters (m : Word) (u : SpmUnit) : SpmUnit :=
  { u with spmevcntr := Vector.ofFn fun k : Fin 64 => if bit m k then 0 else arrayGet u.spmevcntr k 0 }

/-- The effect of `MSR SPMCR_EL0` at Exception level `el` (R1149). -/
def writeSpmcr (el : EL) (impl v : Word) (p : SpmuConfig) (u : SpmUnit) : SpmUnit :=
  let u1 := { u with spmcr := mergeBits u.spmcr v (p.crMask el) }
  if bit v 1 then zeroSpmCounters impl u1 else u1

/-- The value read from SPMROOTCR_EL3 (R1417, R1418). -/
def spmrootcrValue (p : SpmuConfig) (u : SpmUnit) : Word :=
  if p.hasRootcr then (u.spmrootcr &&& p.rootcrMask) ||| bitIf 31 true else 0

/-- The effect of `MSR SPMROOTCR_EL3` (R1417, R1418). -/
def writeSpmrootcr (v : Word) (p : SpmuConfig) (u : SpmUnit) : SpmUnit :=
  if p.hasRootcr then { u with spmrootcr := v &&& p.rootcrMask } else u

/-- The value read from SPMSCR_EL1 (R1436, R1438). -/
def spmscrValue (p : SpmuConfig) (u : SpmUnit) : Word :=
  if p.hasScr then (u.spmscr &&& p.scrMask) ||| bitIf 31 true else 0

/-- The effect of `MSR SPMSCR_EL1` (R1436, R1438). -/
def writeSpmscr (v : Word) (p : SpmuConfig) (u : SpmUnit) : SpmUnit :=
  if p.hasScr then { u with spmscr := v &&& p.scrMask } else u

/-- The value read from SPMCGCR<k>_EL1: zero with one counter group (R1062). -/
def spmcgcrValue (p : SpmuConfig) (k : Nat) : Word :=
  if fieldNat p.cfgr 28 4 = 0 then 0 else if k = 0 then p.cgcr0 else p.cgcr1

/-- `spmu_step(n, k, d)` (R135): counter `k` of System PMU `n` advances by `d` modulo 2^SPMU_COUNTER_BITS, and its
overflow bit is set when the addition wraps and the counter has one. -/
def spmuStep (n k d : Nat) (s : State) : State :=
  updateUnit n (fun p u =>
    { u with
      spmevcntr := arraySet u.spmevcntr k
        ((arrayGet u.spmevcntr k 0 + BitVec.ofNat 64 d) &&& onesWord (p.bits k))
      spmovs := u.spmovs |||
        bitIf k (decide (2 ^ p.bits k ≤ (arrayGet u.spmevcntr k 0).toNat + d) && bit (s.cfg.spmuOvfMask n) k) }) s

/-- `spmu_irq(n)`, an output (R1305, R1532). -/
def State.spmuIrq (s : State) (n : Nat) : Bool :=
  s.cfg.spmuImplemented n && bit (s.unit n).spmcr 0 &&
    ((s.unit n).spmovs &&& (s.unit n).spminten &&& s.cfg.spmuIntMask n) != 0

/-- Whether an event may be counted by System PMU `n`, by the Security state of its source, `none` for an event that
is attributable to no source (R1414 to R1416, R1434, R1435, R1437), which only some System PMUs can count. -/
def State.spmuObservable (s : State) (n : Nat) (source : Option SecState) : Bool :=
  match s.cfg.spmuConfig n with
  | none => false
  | some p =>
    let scrNao := bit (s.unit n).spmscr 0 || (p.scrHasNao && bit (s.unit n).spmscr 4)
    match source with
    | some .nonSecure => true
    | some .secure => !p.hasScr || bit (s.unit n).spmscr 0
    | some .realm => !p.hasRootcr || bit (s.unit n).spmrootcr 1
    | some .root => !p.hasRootcr || bit (s.unit n).spmrootcr 0
    | none => p.hasNao && (!p.hasRootcr || bit (s.unit n).spmrootcr 3) && (!p.hasScr || scrNao)

/-- The conditions of `spmu_step(n, k, d)` (R135) for an event of this source, which the observation controls must let
the System PMU count (R1437). -/
def State.spmuStepAllowed (s : State) (n k d : Nat) (source : Option SecState) : Bool :=
  s.cfg.spmuCounterImplemented n k && decide (1 ≤ d) && bit (s.unit n).spmcr 0 && bit (s.unit n).spmcnten k &&
    s.spmuObservable n source

end Sys2Proof.Machine
end

