-- ==== Sys2Proof/Machine/Ops.lean ====
section
/-! DEFINITION. The operations the meanings share: the general registers, the program counter, taking an exception,
UNKNOWN values, what a read of each System register returns and what a write of it does, and the ends of an access
(R1500). -/

namespace Sys2Proof.Machine

/-- What an instruction answers. -/
abbrev Outcome := Host.Outcome State Fault Refusal

/-! ## General registers, program counter and exceptions -/

/-- `x[t]`: zero for the zero register (R19, R20). -/
def State.readX (s : State) (t : Nat) : Word := arrayGet s.x t 0

/-- `x[t] <- v`: discarded for the zero register (R19, R20). -/
def State.writeX (s : State) (t : Nat) (v : Word) : State := { s with x := arraySet s.x t v }

/-- The instruction completes: the program counter and the instruction stream move on (R19). -/
def State.advance (s : State) : State := { s with pc := s.pc + 4, program := s.program.tail }

/-- TAKING AN EXCEPTION (R1501, R1502, D4): the outcome stands; no register, counter, flag or memory cell changes,
and neither PSTATE.EL nor the program counter moves. -/
def takeException (e : Exception) (s : State) : State := { s with pending := some e }

/-- The exception class of every trap (R1502). -/
def trapClass : BitVec 6 := 0x18

/-! ## UNKNOWN values (R15) -/

/-- The `k`-th UNKNOWN value from now on. -/
def State.unknown (s : State) (k : Nat) : Word := Config.freeWord (s.freeCtr + k)

/-- `k` UNKNOWN values have been drawn. -/
def State.drawn (s : State) (k : Nat) : State := { s with freeCtr := s.freeCtr + k }

/-- The edge history of the event counters that have become enabled since `old` is UNKNOWN (U7). -/
def redrawEdges (old s : State) : State :=
  { s.drawn 1 with pmu := { s.pmu with
      edgePrev := Vector.ofFn fun n : Fin 31 =>
        if !old.evEnabled n && s.evEnabled n then bit (s.unknown 0) n else arrayGet s.pmu.edgePrev n false } }

/-! ## What a read returns -/

/-- The value read from PMCR_EL0 (R462, R464 to R466). -/
def State.pmcrValue (s : State) : Word :=
  let imp : BitVec 8 := if s.has .PMUv3p7 then 0 else s.cfg.imp
  let idcode : BitVec 8 := if imp == 0 then 0 else s.cfg.idcode
  (s.pmu.pmcr &&& s.cfg.pmcrMask) ||| bitIf 6 (!s.has .AA32) ||| (imp.setWidth 64 <<< 24) |||
    (idcode.setWidth 64 <<< 16) ||| (BitVec.ofNat 64 (s.numAccessible % 32) <<< 11)

/-- The MDCR_EL2.HPMN field holds a reserved value that R1669 and R1511 speak of. -/
def State.hpmnReadsOther (s : State) : Bool :=
  s.haveEL2 && s.has .PMUv3 && s.cfg.numCounters != 0 && s.hpmnReserved

/-- The value read from MDCR_EL2 (R1651, R1669): with FEAT_PMUv3_EXTPMN a reserved HPMN reads as the Effective value
of PMCCR.EPMN. -/
def State.mdcrEl2Value (s : State) : Word :=
  if s.hpmnReadsOther && s.has .PMUv3_EXTPMN then
    mergeBits (s.mdcrEl2 &&& s.cfg.mdcrEl2Mask) (BitVec.ofNat 64 s.numSelfHosted) (onesWord 5)
  else s.mdcrEl2 &&& s.cfg.mdcrEl2Mask

/-- The bits of register `r` that a read takes from the state (R56, R57). -/
def State.regKnown (s : State) (r : Reg) : Word :=
  match r with
  | .pmccfiltr => s.pmu.pmccfiltr &&& s.cfg.filterMask
  | .pmccntr => s.pmu.pmccntr
  | .pmccntsvr => s.pmu.pmccntsvr
  | .pmceid0 => s.cfg.pmceid0 &&& s.cfg.pmceidMask
  | .pmceid1 => s.cfg.pmceid1 &&& s.cfg.pmceidMask
  | .pmcntenclr | .pmcntenset => s.pmu.pmcnten &&& readMask s.countAccess
  | .pmcr => s.pmcrValue
  | .pmecr => s.pmu.pmecr &&& s.cfg.pmecrMask
  | .pmevcntr n => s.evcntr n &&& s.cfg.counterMask
  | .pmevcntsvr n => arrayGet s.pmu.pmevcntsvr n 0
  | .pmevtyper n => s.cfg.evtyperStored n (s.evtyper n)
  | .pmiar => s.pmu.pmiar
  | .pmicfiltr => (s.pmu.pmicfiltr &&& s.cfg.icfiltrMask) ||| 8
  | .pmicntr => s.pmu.pmicntr
  | .pmicntsvr => s.pmu.pmicntsvr
  | .pmintenclr | .pmintenset => s.pmu.pminten &&& readMask s.intAccess
  | .pmmir => s.cfg.pmmirValue
  | .pmovsclr | .pmovsset => s.pmu.pmovs &&& readMask s.countAccess
  | .pmselr => s.pmu.pmselr &&& onesWord 5
  | .pmsscr => s.pmu.pmsscr &&& (bitIf 32 true ||| bitIf 0 true)
  | .pmswinc | .pmzr => 0
  | .pmuacr => s.pmu.pmuacr &&& readMask s.uacrAccess
  | .pmuserenr => s.pmu.pmuserenr &&& s.cfg.pmuserenrMask
  | .spmaccessr1 => s.spm.spmaccessr1 &&& s.cfg.spmaccessMask
  | .spmaccessr2 => s.spm.spmaccessr2 &&& s.cfg.spmaccess2Mask
  | .spmaccessr3 => s.spm.spmaccessr3 &&& s.cfg.spmaccessMask
  | .spmselr => s.spm.spmselr &&& spmselrMask
  | .spmcfgr n => s.unitValue n fun p _ => p.cfgr
  | .spmcgcr n k => s.unitValue n fun p _ => spmcgcrValue p k
  | .spmdevaff n => s.unitValue n fun p _ => p.devaff
  | .spmdevarch n => s.unitValue n fun p _ => p.devarch
  | .spmiidr n => s.unitValue n fun p _ => p.iidr
  | .spmcntenclr n | .spmcntenset n => s.unitValue n fun _ u => u.spmcnten &&& s.cfg.spmuImplMask n
  | .spmcr n => s.unitValue n fun p u => spmcrValue p (s.inp.spmuNa.getLsbD n) u
  | .spmevcntr n k => s.counterValue n k fun p u => arrayGet u.spmevcntr k 0 &&& onesWord (p.bits k)
  | .spmevtyper n k => s.counterValue n k fun p u => arrayGet u.spmevtyper k 0 &&& implDefMask p.typerMask k
  | .spmevfiltr n k => s.counterValue n k fun p u => arrayGet u.spmevfiltr k 0 &&& implDefMask p.filtrMask k
  | .spmevfilt2r n k => s.counterValue n k fun p u => arrayGet u.spmevfilt2r k 0 &&& implDefMask p.filt2rMask k
  | .spmintenclr n | .spmintenset n => s.unitValue n fun _ u => u.spminten &&& s.cfg.spmuIntMask n
  | .spmovsclr n | .spmovsset n => s.unitValue n fun _ u => u.spmovs &&& s.cfg.spmuOvfMask n
  | .spmrootcr n => s.unitValue n spmrootcrValue
  | .spmscr n => s.unitValue n spmscrValue
  | .spmzr _ => 0
  | .mdcrEl2 => s.mdcrEl2Value
  | .mdcrEl3 => s.mdcrEl3 &&& s.cfg.mdcrEl3Mask

/-- The VS field, if it holds its reserved value (R1512). -/
def vsUnknown (c : Config) (f : Word) : Word := fieldIf 56 2 (c.has .PMUv3_SME && field f 56 2 == 3)

/-- The TC field holds one of the values that its form reserves (R584, R585, R1512). -/
def tcReserved (c : Config) (n : Nat) (f : Word) : Bool :=
  if c.has .PMUv3_EDGE && bit f 60 then field f 61 3 == 0 || field f 61 3 == 4
  else c.hasTLC n && field f 54 2 == 2 && bit f 61

/-- The fields of PMEVTYPER<n>_EL0 that read as UNKNOWN (R604, U6, R1512). -/
def evtyperUnknown (c : Config) (n : Nat) (f : Word) : Word :=
  vsUnknown c f ||| fieldIf 54 2 (c.hasTLC n && field f 54 2 == 3) |||
  fieldIf 61 3 (c.has .PMUv3_TH && tcReserved c n f) |||
  fieldIf 0 (if c.has .PMUv3p1 then 16 else 10)
    (!(c.supported (c.evtCount f) || c.has .PMUv3p8 || c.protectedEvent (c.evtCount f)))

/-- The P<m> fields of an SPMACCESSR register that hold the reserved value 0b10 (R1012, R1512). -/
def spmaccessUnknown (m v : Word) : Word :=
  m &&& maskOf 64 fun i => bit v (i / 2 * 2 + 1) && !bit v (i / 2 * 2)

/-- The fields of MDCR_EL2 that read as UNKNOWN: reserved PMEE, E2TB and E2PB values (R1512, R1652), and a reserved
HPMN without FEAT_PMUv3_EXTPMN (R1669). -/
def State.mdcrEl2Unknown (s : State) : Word :=
  s.cfg.mdcrEl2Mask &&&
    (fieldIf 40 2 (field s.mdcrEl2 40 2 == 2) ||| fieldIf 24 2 (field s.mdcrEl2 24 2 == 1) |||
     fieldIf 12 2 (field s.mdcrEl2 12 2 == 1) ||| fieldIf 0 5 (s.hpmnReadsOther && !s.has .PMUv3_EXTPMN))

/-- The fields of MDCR_EL3 that read as UNKNOWN: a reserved PMEE value (R1512), SPD32 0b01 and, without FEAT_RME,
EPMSSAD and ETBAD 0b01 and 0b10 (R1674, R1675). -/
def State.mdcrEl3Unknown (s : State) : Word :=
  let split (lo : Nat) : Word := fieldIf lo 2 (!s.has .RME && (field s.mdcrEl3 lo 2 == 1 || field s.mdcrEl3 lo 2 == 2))
  s.cfg.mdcrEl3Mask &&&
    (fieldIf 40 2 (field s.mdcrEl3 40 2 == 2) ||| fieldIf 14 2 (field s.mdcrEl3 14 2 == 1) ||| split 45 ||| split 48)

/-- The bits of register `r` that a read takes from an UNKNOWN value (R833, R1463, R1512, R1669, U6, U10).
-/
def State.regUnknown (s : State) (r : Reg) : Word :=
  match r with
  | .pmccfiltr => vsUnknown s.cfg s.pmu.pmccfiltr
  | .pmicfiltr => vsUnknown s.cfg s.pmu.pmicfiltr
  | .pmevtyper n => evtyperUnknown s.cfg n (s.evtyper n)
  | .pmecr => s.cfg.pmecrMask &&&
      (fieldIf 3 2 (field s.pmu.pmecr 3 2 == 1) |||
       fieldIf 0 2 (field s.pmu.pmecr 0 2 == 1 || field s.pmu.pmecr 0 2 == 2))
  | .pmselr => fieldIf 0 5 (!s.has .FGT && decide (s.cfg.numCounters ≤ s.sel) && s.sel != 31)
  | .spmaccessr1 => spmaccessUnknown s.cfg.spmaccessMask s.spm.spmaccessr1
  | .spmaccessr2 => spmaccessUnknown s.cfg.spmaccess2Mask s.spm.spmaccessr2
  | .spmaccessr3 => spmaccessUnknown s.cfg.spmaccessMask s.spm.spmaccessr3
  | .spmselr => fieldIf 4 6 (bit s.spm.spmselr 9)
  | .mdcrEl2 => s.mdcrEl2Unknown
  | .mdcrEl3 => s.mdcrEl3Unknown
  | _ => 0

/-- The value that this read of register `r` returns. -/
def State.regValue (s : State) (r : Reg) : Word := mergeBits (s.regKnown r) (s.unknown 0) (s.regUnknown r)

/-! ## What a write does -/

/-- The new PMU registers. -/
def State.withPmu (s : State) (p : Pmu) : State := { s with pmu := p }

/-- The event counters that PMCR_EL0.P resets (R474). -/
def State.pmcrPAffects (s : State) (n : Nat) : Bool :=
  s.firstRange n || (s.secondRange n && (!s.el2Enabled || s.inp.el == .el2 || s.inp.el == .el3))

/-- The event counters with those selected by `p` set to zero. -/
def State.zeroedCounters (s : State) (p : Nat → Bool) : Vector Word 31 :=
  Vector.ofFn fun n : Fin 31 => if p n then 0 else s.evcntr n

/-- The effect of `MSR PMCR_EL0` (R477): the stored fields, PMCCNTR_EL0 for C, the affected event counters for P. The
divider phase is UNKNOWN after a write that sets C or changes D (U5). -/
def writePmcr (v : Word) (s : State) : State :=
  let redraw := bit v 2 || (s.has .AA32 && bit v 3 != bit s.pmu.pmcr 3)
  let s1 := (s.withPmu { s.pmu with
    pmcr := v &&& s.cfg.pmcrMask
    pmccntr := if bit v 2 then 0 else s.pmu.pmccntr
    pmevcntr := s.zeroedCounters fun n => bit v 1 && s.pmcrPAffects n
    divPhase := if redraw then (s.unknown 0).setWidth 6 else s.pmu.divPhase }).drawn 1
  redrawEdges s s1

/-- `P` of PMIAR_EL1 (R652). -/
def pmiarP (c : Config) : Nat := if c.has .LVA3 then 56 else if c.has .LVA then 52 else 48

/-- Bits [63:P] as copies of bit [P-1], the other bits zero (R652). -/
def pmiarSign (p : Nat) (v : Word) : Word := if bit v (p - 1) then ~~~onesWord p else 0

/-- A value whose bits above `P - 1` are copies of bit `P - 1` and whose bits [1:0] are zero (R653). -/
def pmiarCanonical (p : Nat) (v : Word) : Bool := (v &&& ~~~onesWord p) == pmiarSign p v && field v 0 2 == 0

/-- The value that bits [63:P] and [1:0] of PMIAR_EL1 take from a write of `v` that breaks the form of R653, by the
parameter `PMIAR_WRITE_NONCANONICAL` (D13); `free` is a value drawn at this write. -/
def pmiarRest (c : Config) (free v : Word) : Word :=
  match c.pmiarNoncanonical with
  | .unspecified => free
  | .byValue => Config.pmiarFunction v
  | .signExtended => pmiarSign (pmiarP c) v
  | .asWritten => v

/-- The effect of `MSR PMIAR_EL1` (R653): a canonical value is stored unchanged, of any other bits [P-1:2] are as
written. -/
def writePmiar (v : Word) (s : State) : State :=
  let p := pmiarP s.cfg
  (s.withPmu { s.pmu with
    pmiar := if pmiarCanonical p v then v
      else mergeBits (pmiarRest s.cfg (s.unknown 0) v) v (onesWord p &&& ~~~3) }).drawn 1

/-- A successful Capture event (R845): every implemented counter copied to its snapshot register, NC cleared. -/
def captured (s : State) : Pmu :=
  { s.pmu with
    pmccntsvr := s.pmu.pmccntr
    pmevcntsvr := Vector.ofFn fun n : Fin 31 =>
      if n.val < s.cfg.numCounters then s.evcntr n else arrayGet s.pmu.pmevcntsvr n 0
    pmicntsvr := if s.has .PMUv3_ICNTR then s.pmu.pmicntr else s.pmu.pmicntsvr
    pmsscr := 0 }

/-- The effect of `MSR PMSSCR_EL1` (R845). The Capture event completes at once (D16). -/
def writePmsscr (v : Word) (s : State) : State :=
  if s.captureControl != .disabled && bit v 0 then
    if s.captureControl == .allowed then s.withPmu (captured s)
    else s.withPmu { s.pmu with pmsscr := bitIf 32 true }
  else s.withPmu { s.pmu with pmsscr := bitIf 32 (bit v 32) ||| (s.pmu.pmsscr &&& 1) }

/-- The software increments that a write of `v` to PMSWINC_EL0 delivers (R863, D15), if the PE counts event 0x0000
(R404, R604). -/
def State.swincAmount (s : State) (v : Word) (n : Nat) : Nat :=
  if bit v n && s.swincWritable n && s.cfg.evtCount (s.evtyper n) == 0 && s.cfg.supported 0 &&
    s.evCounts n s.context then 1 else 0

/-- `ZeroPMUCounters(v)` (R975). -/
def zeroPmuCounters (v : Word) (s : State) : State :=
  s.withPmu { s.pmu with
    pmicntr := if bit v 32 && s.zrWritable 32 then 0 else s.pmu.pmicntr
    pmccntr := if bit v 31 && s.zrWritable 31 then 0 else s.pmu.pmccntr
    pmevcntr := s.zeroedCounters fun m => bit v m && s.zrWritable m }

/-- The effect of `MSR PMEVTYPER<n>_EL0` (R582): the implemented fields; the edge history is UNKNOWN (U7). -/
def writeEvtyper (n : Nat) (v : Word) (s : State) : State :=
  (s.withPmu { s.pmu with
    pmevtyper := arraySet s.pmu.pmevtyper n (s.cfg.evtyperStored n v)
    edgePrev := arraySet s.pmu.edgePrev n (bit (s.unknown 0) 0) }).drawn 1

/-- The new System PMU registers that exist once per PE. -/
def State.withSpm (s : State) (p : Spm) : State := { s with spm := p }

/-- The effect of an `MSR` of `v` that reaches register `r` (R57 and the rules of each register). -/
def writeReg (r : Reg) (v : Word) (s : State) : State :=
  match r with
  | .pmccfiltr => s.withPmu { s.pmu with pmccfiltr := v &&& s.cfg.filterMask }
  | .pmccntr => s.withPmu { s.pmu with pmccntr := v }
  | .pmcntenclr => s.withPmu { s.pmu with pmcnten := s.pmu.pmcnten &&& ~~~(v &&& writeMask s.countAccess) }
  | .pmcntenset =>
    redrawEdges s (s.withPmu { s.pmu with pmcnten := s.pmu.pmcnten ||| (v &&& writeMask s.countAccess) })
  | .pmcr => writePmcr v s
  | .pmecr => s.withPmu { s.pmu with pmecr := v &&& s.cfg.pmecrMask }
  | .pmevcntr n => s.withPmu { s.pmu with pmevcntr := arraySet s.pmu.pmevcntr n (v &&& s.cfg.counterMask) }
  | .pmevtyper n => writeEvtyper n v s
  | .pmiar => writePmiar v s
  | .pmicfiltr => s.withPmu { s.pmu with pmicfiltr := (v &&& s.cfg.icfiltrMask) ||| 8 }
  | .pmicntr => s.withPmu { s.pmu with pmicntr := v }
  | .pmintenclr => s.withPmu { s.pmu with pminten := s.pmu.pminten &&& ~~~(v &&& writeMask s.intAccess) }
  | .pmintenset => s.withPmu { s.pmu with pminten := s.pmu.pminten ||| (v &&& writeMask s.intAccess) }
  | .pmovsclr => s.withPmu { s.pmu with pmovs := s.pmu.pmovs &&& ~~~(v &&& writeMask s.countAccess) }
  | .pmovsset => s.withPmu { s.pmu with pmovs := s.pmu.pmovs ||| (v &&& writeMask s.countAccess) }
  | .pmselr => s.withPmu { s.pmu with pmselr := v &&& onesWord 5 }
  | .pmsscr => writePmsscr v s
  | .pmswinc => addToCounters (s.swincAmount v) s
  | .pmuacr => s.withPmu { s.pmu with pmuacr := mergeBits s.pmu.pmuacr v (writeMask s.uacrAccess) }
  | .pmuserenr => s.withPmu { s.pmu with pmuserenr := v &&& s.cfg.pmuserenrMask }
  | .pmzr => zeroPmuCounters v s
  | .spmaccessr1 => s.withSpm { s.spm with spmaccessr1 := v &&& s.cfg.spmaccessMask }
  | .spmaccessr2 => s.withSpm { s.spm with spmaccessr2 := v &&& s.cfg.spmaccess2Mask }
  | .spmaccessr3 => s.withSpm { s.spm with spmaccessr3 := v &&& s.cfg.spmaccessMask }
  | .spmselr => s.withSpm { s.spm with spmselr := v &&& spmselrMask }
  | .spmcntenclr n =>
    updateUnit n (fun _ u => { u with spmcnten := u.spmcnten &&& ~~~(v &&& s.cfg.spmuImplMask n) }) s
  | .spmcntenset n => updateUnit n (fun _ u => { u with spmcnten := u.spmcnten ||| (v &&& s.cfg.spmuImplMask n) }) s
  | .spmcr n => updateUnit n (writeSpmcr s.inp.el (s.cfg.spmuImplMask n) v) s
  | .spmevcntr n k =>
    updateCounter n k (fun p u => { u with spmevcntr := arraySet u.spmevcntr k (v &&& onesWord (p.bits k)) }) s
  | .spmevtyper n k =>
    updateCounter n k
      (fun p u => { u with spmevtyper := arraySet u.spmevtyper k (v &&& implDefMask p.typerMask k) }) s
  | .spmevfiltr n k =>
    updateCounter n k
      (fun p u => { u with spmevfiltr := arraySet u.spmevfiltr k (v &&& implDefMask p.filtrMask k) }) s
  | .spmevfilt2r n k =>
    updateCounter n k
      (fun p u => { u with spmevfilt2r := arraySet u.spmevfilt2r k (v &&& implDefMask p.filt2rMask k) }) s
  | .spmintenclr n =>
    updateUnit n (fun _ u => { u with spminten := u.spminten &&& ~~~(v &&& s.cfg.spmuIntMask n) }) s
  | .spmintenset n => updateUnit n (fun _ u => { u with spminten := u.spminten ||| (v &&& s.cfg.spmuIntMask n) }) s
  | .spmovsclr n => updateUnit n (fun _ u => { u with spmovs := u.spmovs &&& ~~~(v &&& s.cfg.spmuOvfMask n) }) s
  | .spmovsset n => updateUnit n (fun _ u => { u with spmovs := u.spmovs ||| (v &&& s.cfg.spmuOvfMask n) }) s
  | .spmrootcr n => updateUnit n (writeSpmrootcr v) s
  | .spmscr n => updateUnit n (writeSpmscr v) s
  | .spmzr n => updateUnit n (fun _ u => zeroSpmCounters (v &&& s.cfg.spmuImplMask n) u) s
  | .mdcrEl2 => redrawEdges s { s with mdcrEl2 := v &&& s.cfg.mdcrEl2Mask }
  | .mdcrEl3 => { s with mdcrEl3 := v &&& s.cfg.mdcrEl3Mask }
  | .pmccntsvr | .pmceid0 | .pmceid1 | .pmevcntsvr _ | .pmicntsvr | .pmmir => s
  | .spmcfgr _ | .spmcgcr _ _ | .spmdevaff _ | .spmdevarch _ | .spmiidr _ => s

/-! ## The ends of an access -/

/-- The end of an `MRS` whose listing decides `a` (R1500): the value moved to `Xt`, one UNKNOWN value drawn for it, or
the exception. -/
def finishRead (a : Access) (t : Nat) (s : State) : Outcome :=
  match a with
  | .perform r => .next ((s.drawn 1).writeX t (s.regValue r)).advance
  | .razWi => .next (s.writeX t 0).advance
  | .nop => .next s.advance
  | .nvmem => .next (s.writeX t s.nvmemRead).advance
  | .undefined | .constrained _ => .next (takeException .undefined s)
  | .trap el => .next (takeException (.systemAccessTrap el trapClass) s)

/-- The end of an `MSR` whose listing decides `a` (R1500): the write of `Xt`, nothing, or the exception. -/
def finishWrite (a : Access) (t : Nat) (s : State) : Outcome :=
  match a with
  | .perform r => .next (writeReg r (s.readX t) s).advance
  | .razWi | .nop => .next s.advance
  | .nvmem => .next (s.nvmemWrite (s.readX t)).advance
  | .undefined | .constrained _ => .next (takeException .undefined s)
  | .trap el => .next (takeException (.systemAccessTrap el trapClass) s)

/-- The implementation's choice for a CONSTRAINED UNPREDICTABLE access; `CU_UNDEFINED` where it names none (R1510,
D26). -/
def cuChoice (l : List CuEntry) (name : CuName) (dir : Direction) (place : CuPlace) (el : EL) : CuChoice :=
  match l with
  | [] => .undefined
  | e :: rest =>
    if e.name == name && e.dir == dir && e.place == place && e.el == el then e.choice
    else cuChoice rest name dir place el

/-- The counter that `CU_OTHER_COUNTER` touches: an UNKNOWN one below the number of accessible counters (R1510). -/
def State.otherCounter (s : State) : Nat := (s.unknown 0).toNat % s.numAccessible

/-- `ConstrainUnpredictableProcedure(Unpredictable_PMUEVENTCOUNTER)` (R1510) for an access whose listing, with index
`i`, is `listing i`: the decision, and the state after the UNKNOWN value that `CU_OTHER_COUNTER` draws. The access "as
if" with another index is the listing with that index. A choice that its row does not make available here acts as
`CU_UNDEFINED`. -/
def constrainUnpredictable (name : CuName) (dir : Direction) (listing : Nat → State → Access) (place : CuPlace)
    (i : Nat) (s : State) : Access × State :=
  match cuChoice s.choices.cu name dir place s.inp.el with
  | .undefined => (.undefined, s)
  | .razWi => (.razWi, s)
  | .nop => (.nop, s)
  | .otherCounter => if s.numAccessible = 0 then (.undefined, s) else (listing s.otherCounter s, s.drawn 1)
  | .asSel31 => if name == .pmxevtyper && i != 31 then (listing 31 s, s) else (.undefined, s)
  | .trapEL2 => if place == .reservedForEL2 then (.trap .el2, s) else (.undefined, s)

/-- The listing's decision with the CONSTRAINED UNPREDICTABLE cases resolved. For PMXEVCNTR_EL0 `CU_AS_SEL_31` is the
case SEL == 31, which is resolved once more without that choice (R1510). -/
def resolve (name : CuName) (dir : Direction) (listing : Nat → State → Access) (i : Nat) (s : State) :
    Access × State :=
  match listing i s with
  | .constrained place =>
    if name == .pmxevcntr && i != 31 && cuChoice s.choices.cu name dir place s.inp.el == .asSel31 then
      match listing 31 s with
      | .constrained p => constrainUnpredictable name dir listing p 31 s
      | a => (a, s)
    else constrainUnpredictable name dir listing place i s
  | a => (a, s)

/-- An `MRS` of a counter array or window with index `i`. -/
def finishIndexedRead (name : CuName) (listing : Nat → State → Access) (i t : Nat) (s : State) : Outcome :=
  finishRead (resolve name .read listing i s).1 t (resolve name .read listing i s).2

/-- An `MSR` of a counter array or window with index `i`. -/
def finishIndexedWrite (name : CuName) (listing : Nat → State → Access) (i t : Nat) (s : State) : Outcome :=
  finishWrite (resolve name .write listing i s).1 t (resolve name .write listing i s).2

end Sys2Proof.Machine
end

