-- ==== Sys2Proof/Machine/Control.lean ====
section
/-! DEFINITION. The accesses to the identification, count enable and control registers:
the access listings, and one meaning per instruction. -/

namespace Sys2Proof.Machine

/-- `MRS PMCEID0_EL0`: the listing of R405. -/
def listingMrsPmceid0El0 (s : State) : Access :=
  if !(s.has .PMUv3 && s.has .AA64) then .undefined
  else
    match s.inp.el with
    | .el0 =>
      if s.undefPriority && s.mdcr3TPM then .undefined
      else if s.userDisabled then s.trapUser
      else if s.has .PMUv3p9 && s.userTID then s.trapUser
      else if !s.inp.inHostEL0 && s.fgtRead .PMCEIDn_EL0 then .trap .el2
      else if s.el2Enabled && s.mdcr2TPM then .trap .el2
      else if s.haveEL3 && s.mdcr3TPM then s.trapMonitor
      else .perform .pmceid0
    | .el1 =>
      if s.undefPriority && s.mdcr3TPM then .undefined
      else if s.fgtRead .PMCEIDn_EL0 then .trap .el2
      else if s.el2Enabled && s.mdcr2TPM then .trap .el2
      else if s.haveEL3 && s.mdcr3TPM then s.trapMonitor
      else .perform .pmceid0
    | .el2 =>
      if s.undefPriority && s.mdcr3TPM then .undefined
      else if s.haveEL3 && s.mdcr3TPM then s.trapMonitor
      else .perform .pmceid0
    | .el3 => .perform .pmceid0

/-- `MRS_PMCEID0_EL0` (R405). -/
def execMrsPmceid0El0 (t : Nat) (s : State) : Outcome := finishRead (listingMrsPmceid0El0 s) t s

/-- `MRS PMCEID1_EL0`: the listing of R415. -/
def listingMrsPmceid1El0 (s : State) : Access :=
  if !(s.has .PMUv3 && s.has .AA64) then .undefined
  else
    match s.inp.el with
    | .el0 =>
      if s.undefPriority && s.mdcr3TPM then .undefined
      else if s.userDisabled then s.trapUser
      else if s.has .PMUv3p9 && s.userTID then s.trapUser
      else if !s.inp.inHostEL0 && s.fgtRead .PMCEIDn_EL0 then .trap .el2
      else if s.el2Enabled && s.mdcr2TPM then .trap .el2
      else if s.haveEL3 && s.mdcr3TPM then s.trapMonitor
      else .perform .pmceid1
    | .el1 =>
      if s.undefPriority && s.mdcr3TPM then .undefined
      else if s.fgtRead .PMCEIDn_EL0 then .trap .el2
      else if s.el2Enabled && s.mdcr2TPM then .trap .el2
      else if s.haveEL3 && s.mdcr3TPM then s.trapMonitor
      else .perform .pmceid1
    | .el2 =>
      if s.undefPriority && s.mdcr3TPM then .undefined
      else if s.haveEL3 && s.mdcr3TPM then s.trapMonitor
      else .perform .pmceid1
    | .el3 => .perform .pmceid1

/-- `MRS_PMCEID1_EL0` (R415). -/
def execMrsPmceid1El0 (t : Nat) (s : State) : Outcome := finishRead (listingMrsPmceid1El0 s) t s

/-- `MRS PMCNTENCLR_EL0`: the listing of R428. -/
def listingMrsPmcntenclrEl0 (s : State) : Access :=
  if !(s.has .PMUv3 && s.has .AA64) then .undefined
  else
    match s.inp.el with
    | .el0 =>
      if s.undefPriority && s.mdcr3TPM then .undefined
      else if s.userDisabled then s.trapUser
      else if !s.inp.inHostEL0 && s.fgtRead .PMCNTEN then .trap .el2
      else if s.el2Enabled && s.mdcr2TPM then .trap .el2
      else if s.haveEL3 && s.mdcr3TPM then s.trapMonitor
      else .perform .pmcntenclr
    | .el1 =>
      if s.undefPriority && s.mdcr3TPM then .undefined
      else if s.fgtRead .PMCNTEN then .trap .el2
      else if s.el2Enabled && s.mdcr2TPM then .trap .el2
      else if s.haveEL3 && s.mdcr3TPM then s.trapMonitor
      else .perform .pmcntenclr
    | .el2 =>
      if s.undefPriority && s.mdcr3TPM then .undefined
      else if s.haveEL3 && s.mdcr3TPM then s.trapMonitor
      else .perform .pmcntenclr
    | .el3 => .perform .pmcntenclr

/-- `MRS_PMCNTENCLR_EL0` (R428). -/
def execMrsPmcntenclrEl0 (t : Nat) (s : State) : Outcome := finishRead (listingMrsPmcntenclrEl0 s) t s

/-- `MSR PMCNTENCLR_EL0`: the listing of R429. -/
def listingMsrPmcntenclrEl0 (s : State) : Access :=
  if !(s.has .PMUv3 && s.has .AA64) then .undefined
  else
    match s.inp.el with
    | .el0 =>
      if s.undefPriority && s.mdcr3TPM then .undefined
      else if s.userDisabled then s.trapUser
      else if !s.inp.inHostEL0 && s.fgtWrite .PMCNTEN then .trap .el2
      else if s.el2Enabled && s.mdcr2TPM then .trap .el2
      else if s.haveEL3 && s.mdcr3TPM then s.trapMonitor
      else .perform .pmcntenclr
    | .el1 =>
      if s.undefPriority && s.mdcr3TPM then .undefined
      else if s.fgtWrite .PMCNTEN then .trap .el2
      else if s.el2Enabled && s.mdcr2TPM then .trap .el2
      else if s.haveEL3 && s.mdcr3TPM then s.trapMonitor
      else .perform .pmcntenclr
    | .el2 =>
      if s.undefPriority && s.mdcr3TPM then .undefined
      else if s.haveEL3 && s.mdcr3TPM then s.trapMonitor
      else .perform .pmcntenclr
    | .el3 => .perform .pmcntenclr

/-- `MSR_PMCNTENCLR_EL0` (R429). -/
def execMsrPmcntenclrEl0 (t : Nat) (s : State) : Outcome := finishWrite (listingMsrPmcntenclrEl0 s) t s

/-- `MRS PMCNTENSET_EL0`: the listing of R448. -/
def listingMrsPmcntensetEl0 (s : State) : Access :=
  if !(s.has .PMUv3 && s.has .AA64) then .undefined
  else
    match s.inp.el with
    | .el0 =>
      if s.undefPriority && s.mdcr3TPM then .undefined
      else if s.userDisabled then s.trapUser
      else if !s.inp.inHostEL0 && s.fgtRead .PMCNTEN then .trap .el2
      else if s.el2Enabled && s.mdcr2TPM then .trap .el2
      else if s.haveEL3 && s.mdcr3TPM then s.trapMonitor
      else .perform .pmcntenset
    | .el1 =>
      if s.undefPriority && s.mdcr3TPM then .undefined
      else if s.fgtRead .PMCNTEN then .trap .el2
      else if s.el2Enabled && s.mdcr2TPM then .trap .el2
      else if s.haveEL3 && s.mdcr3TPM then s.trapMonitor
      else .perform .pmcntenset
    | .el2 =>
      if s.undefPriority && s.mdcr3TPM then .undefined
      else if s.haveEL3 && s.mdcr3TPM then s.trapMonitor
      else .perform .pmcntenset
    | .el3 => .perform .pmcntenset

/-- `MRS_PMCNTENSET_EL0` (R448). -/
def execMrsPmcntensetEl0 (t : Nat) (s : State) : Outcome := finishRead (listingMrsPmcntensetEl0 s) t s

/-- `MSR PMCNTENSET_EL0`: the listing of R449. -/
def listingMsrPmcntensetEl0 (s : State) : Access :=
  if !(s.has .PMUv3 && s.has .AA64) then .undefined
  else
    match s.inp.el with
    | .el0 =>
      if s.undefPriority && s.mdcr3TPM then .undefined
      else if s.userDisabled then s.trapUser
      else if !s.inp.inHostEL0 && s.fgtWrite .PMCNTEN then .trap .el2
      else if s.el2Enabled && s.mdcr2TPM then .trap .el2
      else if s.haveEL3 && s.mdcr3TPM then s.trapMonitor
      else .perform .pmcntenset
    | .el1 =>
      if s.undefPriority && s.mdcr3TPM then .undefined
      else if s.fgtWrite .PMCNTEN then .trap .el2
      else if s.el2Enabled && s.mdcr2TPM then .trap .el2
      else if s.haveEL3 && s.mdcr3TPM then s.trapMonitor
      else .perform .pmcntenset
    | .el2 =>
      if s.undefPriority && s.mdcr3TPM then .undefined
      else if s.haveEL3 && s.mdcr3TPM then s.trapMonitor
      else .perform .pmcntenset
    | .el3 => .perform .pmcntenset

/-- `MSR_PMCNTENSET_EL0` (R449). -/
def execMsrPmcntensetEl0 (t : Nat) (s : State) : Outcome := finishWrite (listingMsrPmcntensetEl0 s) t s

/-- `MRS PMCR_EL0`: the listing of R478. -/
def listingMrsPmcrEl0 (s : State) : Access :=
  if !(s.has .PMUv3 && s.has .AA64) then .undefined
  else
    match s.inp.el with
    | .el0 =>
      if s.undefPriority && s.mdcr3TPM then .undefined
      else if !s.userEN || (s.userUENOn) then s.trapUser
      else if s.el2Enabled && s.mdcr2TPM then .trap .el2
      else if s.el2Enabled && s.mdcr2TPMCR then .trap .el2
      else if s.haveEL3 && s.mdcr3TPM then s.trapMonitor
      else .perform .pmcr
    | .el1 =>
      if s.undefPriority && s.mdcr3TPM then .undefined
      else if s.el2Enabled && s.mdcr2TPM then .trap .el2
      else if s.el2Enabled && s.mdcr2TPMCR then .trap .el2
      else if s.haveEL3 && s.mdcr3TPM then s.trapMonitor
      else .perform .pmcr
    | .el2 =>
      if s.undefPriority && s.mdcr3TPM then .undefined
      else if s.haveEL3 && s.mdcr3TPM then s.trapMonitor
      else .perform .pmcr
    | .el3 => .perform .pmcr

/-- `MRS_PMCR_EL0` (R478). -/
def execMrsPmcrEl0 (t : Nat) (s : State) : Outcome := finishRead (listingMrsPmcrEl0 s) t s

/-- `MSR PMCR_EL0`: the listing of R479. -/
def listingMsrPmcrEl0 (s : State) : Access :=
  if !(s.has .PMUv3 && s.has .AA64) then .undefined
  else
    match s.inp.el with
    | .el0 =>
      if s.undefPriority && s.mdcr3TPM then .undefined
      else if !s.userEN || (s.userUENOn) then s.trapUser
      else if !s.inp.inHostEL0 && s.fgtWrite .PMCR_EL0 then .trap .el2
      else if s.el2Enabled && s.mdcr2TPM then .trap .el2
      else if s.el2Enabled && s.mdcr2TPMCR then .trap .el2
      else if s.haveEL3 && s.mdcr3TPM then s.trapMonitor
      else .perform .pmcr
    | .el1 =>
      if s.undefPriority && s.mdcr3TPM then .undefined
      else if s.fgtWrite .PMCR_EL0 then .trap .el2
      else if s.el2Enabled && s.mdcr2TPM then .trap .el2
      else if s.el2Enabled && s.mdcr2TPMCR then .trap .el2
      else if s.haveEL3 && s.mdcr3TPM then s.trapMonitor
      else .perform .pmcr
    | .el2 =>
      if s.undefPriority && s.mdcr3TPM then .undefined
      else if s.haveEL3 && s.mdcr3TPM then s.trapMonitor
      else .perform .pmcr
    | .el3 => .perform .pmcr

/-- `MSR_PMCR_EL0` (R479). -/
def execMsrPmcrEl0 (t : Nat) (s : State) : Outcome := finishWrite (listingMsrPmcrEl0 s) t s

/-- `MRS PMECR_EL1`: the listing of R496. -/
def listingMrsPmecrEl1 (s : State) : Access :=
  if !((s.has .EBEP || s.has .PMUv3_SS) && s.has .AA64) then .undefined
  else
    match s.inp.el with
    | .el0 => .undefined
    | .el1 =>
      if s.undefPriority && !s.mdcr3EnPM2 then .undefined
      else if s.undefPriority && s.mdcr3TPM then .undefined
      else if s.fgt2Read .nPMECR_EL1 then .trap .el2
      else if s.el2Enabled && s.mdcr2TPM then .trap .el2
      else if s.haveEL3 && !s.mdcr3EnPM2 then s.trapMonitor
      else if s.haveEL3 && s.mdcr3TPM then s.trapMonitor
      else .perform .pmecr
    | .el2 =>
      if s.undefPriority && !s.mdcr3EnPM2 then .undefined
      else if s.undefPriority && s.mdcr3TPM then .undefined
      else if s.haveEL3 && !s.mdcr3EnPM2 then s.trapMonitor
      else if s.haveEL3 && s.mdcr3TPM then s.trapMonitor
      else .perform .pmecr
    | .el3 => .perform .pmecr

/-- `MRS_PMECR_EL1` (R496). -/
def execMrsPmecrEl1 (t : Nat) (s : State) : Outcome := finishRead (listingMrsPmecrEl1 s) t s

/-- `MSR PMECR_EL1`: the listing of R497. -/
def listingMsrPmecrEl1 (s : State) : Access :=
  if !((s.has .EBEP || s.has .PMUv3_SS) && s.has .AA64) then .undefined
  else
    match s.inp.el with
    | .el0 => .undefined
    | .el1 =>
      if s.undefPriority && !s.mdcr3EnPM2 then .undefined
      else if s.undefPriority && s.mdcr3TPM then .undefined
      else if s.fgt2Write .nPMECR_EL1 then .trap .el2
      else if s.el2Enabled && s.mdcr2TPM then .trap .el2
      else if s.haveEL3 && !s.mdcr3EnPM2 then s.trapMonitor
      else if s.haveEL3 && s.mdcr3TPM then s.trapMonitor
      else .perform .pmecr
    | .el2 =>
      if s.undefPriority && !s.mdcr3EnPM2 then .undefined
      else if s.undefPriority && s.mdcr3TPM then .undefined
      else if s.haveEL3 && !s.mdcr3EnPM2 then s.trapMonitor
      else if s.haveEL3 && s.mdcr3TPM then s.trapMonitor
      else .perform .pmecr
    | .el3 => .perform .pmecr

/-- `MSR_PMECR_EL1` (R497). -/
def execMsrPmecrEl1 (t : Nat) (s : State) : Outcome := finishWrite (listingMsrPmecrEl1 s) t s

end Sys2Proof.Machine
end

