-- ==== Sys2Proof/Machine/CycleCounter.lean ====
section
/-! DEFINITION. The accesses to the cycle counter registers:
the access listings, and one meaning per instruction. -/

namespace Sys2Proof.Machine

/-- `MRS PMCCFILTR_EL0`: the listing of R318. -/
def listingMrsPmccfiltrEl0 (s : State) : Access :=
  if !(s.has .PMUv3 && s.has .AA64) then .undefined
  else
    match s.inp.el with
    | .el0 =>
      if s.undefPriority && s.mdcr3TPM then .undefined
      else if s.userDisabled then s.trapUser
      else if !s.inp.inHostEL0 && s.fgtRead .PMCCFILTR_EL0 then .trap .el2
      else if s.el2Enabled && s.mdcr2TPM then .trap .el2
      else if s.haveEL3 && s.mdcr3TPM then s.trapMonitor
      else if s.userUENOn && !s.uacrC then .razWi
      else .perform .pmccfiltr
    | .el1 =>
      if s.undefPriority && s.mdcr3TPM then .undefined
      else if s.fgtRead .PMCCFILTR_EL0 then .trap .el2
      else if s.el2Enabled && s.mdcr2TPM then .trap .el2
      else if s.haveEL3 && s.mdcr3TPM then s.trapMonitor
      else .perform .pmccfiltr
    | .el2 =>
      if s.undefPriority && s.mdcr3TPM then .undefined
      else if s.haveEL3 && s.mdcr3TPM then s.trapMonitor
      else .perform .pmccfiltr
    | .el3 => .perform .pmccfiltr

/-- `MRS_PMCCFILTR_EL0` (R318). -/
def execMrsPmccfiltrEl0 (t : Nat) (s : State) : Outcome := finishRead (listingMrsPmccfiltrEl0 s) t s

/-- `MSR PMCCFILTR_EL0`: the listing of R319. -/
def listingMsrPmccfiltrEl0 (s : State) : Access :=
  if !(s.has .PMUv3 && s.has .AA64) then .undefined
  else
    match s.inp.el with
    | .el0 =>
      if s.undefPriority && s.mdcr3TPM then .undefined
      else if s.userDisabled then s.trapUser
      else if !s.inp.inHostEL0 && s.fgtWrite .PMCCFILTR_EL0 then .trap .el2
      else if s.el2Enabled && s.mdcr2TPM then .trap .el2
      else if s.haveEL3 && s.mdcr3TPM then s.trapMonitor
      else if s.userUENOn && (!s.uacrC || s.userCR) then .razWi
      else .perform .pmccfiltr
    | .el1 =>
      if s.undefPriority && s.mdcr3TPM then .undefined
      else if s.fgtWrite .PMCCFILTR_EL0 then .trap .el2
      else if s.el2Enabled && s.mdcr2TPM then .trap .el2
      else if s.haveEL3 && s.mdcr3TPM then s.trapMonitor
      else .perform .pmccfiltr
    | .el2 =>
      if s.undefPriority && s.mdcr3TPM then .undefined
      else if s.haveEL3 && s.mdcr3TPM then s.trapMonitor
      else .perform .pmccfiltr
    | .el3 => .perform .pmccfiltr

/-- `MSR_PMCCFILTR_EL0` (R319). -/
def execMsrPmccfiltrEl0 (t : Nat) (s : State) : Outcome := finishWrite (listingMsrPmccfiltrEl0 s) t s

/-- `MRS PMCCNTR_EL0`: the listing of R326. -/
def listingMrsPmccntrEl0 (s : State) : Access :=
  if !(s.has .PMUv3 && s.has .AA64) then .undefined
  else
    match s.inp.el with
    | .el0 =>
      if s.undefPriority && s.mdcr3TPM then .undefined
      else if s.userDisabledBut s.userCR then s.trapUser
      else if !s.inp.inHostEL0 && s.fgtRead .PMCCNTR_EL0 then .trap .el2
      else if s.el2Enabled && s.mdcr2TPM then .trap .el2
      else if s.haveEL3 && s.mdcr3TPM then s.trapMonitor
      else if s.userUENOn && !s.uacrC then .razWi
      else .perform .pmccntr
    | .el1 =>
      if s.undefPriority && s.mdcr3TPM then .undefined
      else if s.fgtRead .PMCCNTR_EL0 then .trap .el2
      else if s.el2Enabled && s.mdcr2TPM then .trap .el2
      else if s.haveEL3 && s.mdcr3TPM then s.trapMonitor
      else .perform .pmccntr
    | .el2 =>
      if s.undefPriority && s.mdcr3TPM then .undefined
      else if s.haveEL3 && s.mdcr3TPM then s.trapMonitor
      else .perform .pmccntr
    | .el3 => .perform .pmccntr

/-- `MRS_PMCCNTR_EL0` (R326). -/
def execMrsPmccntrEl0 (t : Nat) (s : State) : Outcome := finishRead (listingMrsPmccntrEl0 s) t s

/-- `MSR PMCCNTR_EL0`: the listing of R327. -/
def listingMsrPmccntrEl0 (s : State) : Access :=
  if !(s.has .PMUv3 && s.has .AA64) then .undefined
  else
    match s.inp.el with
    | .el0 =>
      if s.undefPriority && s.mdcr3TPM then .undefined
      else if s.userDisabled then s.trapUser
      else if !s.inp.inHostEL0 && s.fgtWrite .PMCCNTR_EL0 then .trap .el2
      else if s.el2Enabled && s.mdcr2TPM then .trap .el2
      else if s.haveEL3 && s.mdcr3TPM then s.trapMonitor
      else if s.userUENOn && (!s.uacrC || s.userCR) then .razWi
      else .perform .pmccntr
    | .el1 =>
      if s.undefPriority && s.mdcr3TPM then .undefined
      else if s.fgtWrite .PMCCNTR_EL0 then .trap .el2
      else if s.el2Enabled && s.mdcr2TPM then .trap .el2
      else if s.haveEL3 && s.mdcr3TPM then s.trapMonitor
      else .perform .pmccntr
    | .el2 =>
      if s.undefPriority && s.mdcr3TPM then .undefined
      else if s.haveEL3 && s.mdcr3TPM then s.trapMonitor
      else .perform .pmccntr
    | .el3 => .perform .pmccntr

/-- `MSR_PMCCNTR_EL0` (R327). -/
def execMsrPmccntrEl0 (t : Nat) (s : State) : Outcome := finishWrite (listingMsrPmccntrEl0 s) t s

/-- `MRS PMCCNTSVR_EL1`: the listing of R333. -/
def listingMrsPmccntsvrEl1 (s : State) : Access :=
  if !(s.has .PMUv3_SS && s.has .AA64) then .undefined
  else
    match s.inp.el with
    | .el0 => .undefined
    | .el1 =>
      if s.undefPriority && !s.mdcr3EnPMSS then .undefined
      else if s.fgt2Read .nPMSSDATA then .trap .el2
      else if s.haveEL3 && !s.mdcr3EnPMSS then s.trapMonitor
      else .perform .pmccntsvr
    | .el2 =>
      if s.undefPriority && !s.mdcr3EnPMSS then .undefined
      else if s.haveEL3 && !s.mdcr3EnPMSS then s.trapMonitor
      else .perform .pmccntsvr
    | .el3 => .perform .pmccntsvr

/-- `MRS_PMCCNTSVR_EL1` (R333). -/
def execMrsPmccntsvrEl1 (t : Nat) (s : State) : Outcome := finishRead (listingMrsPmccntsvrEl1 s) t s

end Sys2Proof.Machine
end

