-- ==== Sys2Proof/Machine/EventCounters.lean ====
section
/-! DEFINITION. The accesses to the event counter and event type registers:
the access listings, and one meaning per instruction. -/

namespace Sys2Proof.Machine

/-- `MRS PMEVCNTR<m>_EL0`: the listing of R558. -/
def listingMrsPmevcntrEl0 (m : Nat) (s : State) : Access :=
  if !(s.has .PMUv3 && s.has .AA64) then .undefined
  else if decide (s.numSelfHosted ≤ m) then
    if s.has .FGT then .undefined
    else .constrained .unimplemented
  else
    match s.inp.el with
    | .el0 =>
      if s.undefPriority && s.mdcr3TPM then .undefined
      else if s.userDisabledBut s.userER then s.trapUser
      else if !s.inp.inHostEL0 && s.fgtRead .PMEVCNTRn_EL0 then .trap .el2
      else if s.el2Enabled && s.mdcr2TPM then .trap .el2
      else if s.el2Enabled && decide (s.numAccessible ≤ m) then
        if !s.has .FGT then .constrained .reservedForEL2
        else .trap .el2
      else if s.haveEL3 && s.mdcr3TPM then s.trapMonitor
      else if s.userUENOn && !s.uacrP m then .razWi
      else .perform (.pmevcntr m)
    | .el1 =>
      if s.undefPriority && s.mdcr3TPM then .undefined
      else if s.fgtRead .PMEVCNTRn_EL0 then .trap .el2
      else if s.el2Enabled && s.mdcr2TPM then .trap .el2
      else if s.el2Enabled && decide (s.numAccessible ≤ m) then
        if !s.has .FGT then .constrained .reservedForEL2
        else .trap .el2
      else if s.haveEL3 && s.mdcr3TPM then s.trapMonitor
      else .perform (.pmevcntr m)
    | .el2 =>
      if s.undefPriority && s.mdcr3TPM then .undefined
      else if s.haveEL3 && s.mdcr3TPM then s.trapMonitor
      else .perform (.pmevcntr m)
    | .el3 => .perform (.pmevcntr m)

/-- `MRS_PMEVCNTR0_EL0` (R558). -/
def execMrsPmevcntr0El0 (t : Nat) (s : State) : Outcome := finishIndexedRead .pmevcntr listingMrsPmevcntrEl0 0 t s

/-- `MRS_PMEVCNTR1_EL0` (R558). -/
def execMrsPmevcntr1El0 (t : Nat) (s : State) : Outcome := finishIndexedRead .pmevcntr listingMrsPmevcntrEl0 1 t s

/-- `MRS_PMEVCNTR2_EL0` (R558). -/
def execMrsPmevcntr2El0 (t : Nat) (s : State) : Outcome := finishIndexedRead .pmevcntr listingMrsPmevcntrEl0 2 t s

/-- `MRS_PMEVCNTR3_EL0` (R558). -/
def execMrsPmevcntr3El0 (t : Nat) (s : State) : Outcome := finishIndexedRead .pmevcntr listingMrsPmevcntrEl0 3 t s

/-- `MRS_PMEVCNTR4_EL0` (R558). -/
def execMrsPmevcntr4El0 (t : Nat) (s : State) : Outcome := finishIndexedRead .pmevcntr listingMrsPmevcntrEl0 4 t s

/-- `MRS_PMEVCNTR5_EL0` (R558). -/
def execMrsPmevcntr5El0 (t : Nat) (s : State) : Outcome := finishIndexedRead .pmevcntr listingMrsPmevcntrEl0 5 t s

/-- `MRS_PMEVCNTR6_EL0` (R558). -/
def execMrsPmevcntr6El0 (t : Nat) (s : State) : Outcome := finishIndexedRead .pmevcntr listingMrsPmevcntrEl0 6 t s

/-- `MRS_PMEVCNTR7_EL0` (R558). -/
def execMrsPmevcntr7El0 (t : Nat) (s : State) : Outcome := finishIndexedRead .pmevcntr listingMrsPmevcntrEl0 7 t s

/-- `MRS_PMEVCNTR8_EL0` (R558). -/
def execMrsPmevcntr8El0 (t : Nat) (s : State) : Outcome := finishIndexedRead .pmevcntr listingMrsPmevcntrEl0 8 t s

/-- `MRS_PMEVCNTR9_EL0` (R558). -/
def execMrsPmevcntr9El0 (t : Nat) (s : State) : Outcome := finishIndexedRead .pmevcntr listingMrsPmevcntrEl0 9 t s

/-- `MRS_PMEVCNTR10_EL0` (R558). -/
def execMrsPmevcntr10El0 (t : Nat) (s : State) : Outcome := finishIndexedRead .pmevcntr listingMrsPmevcntrEl0 10 t s

/-- `MRS_PMEVCNTR11_EL0` (R558). -/
def execMrsPmevcntr11El0 (t : Nat) (s : State) : Outcome := finishIndexedRead .pmevcntr listingMrsPmevcntrEl0 11 t s

/-- `MRS_PMEVCNTR12_EL0` (R558). -/
def execMrsPmevcntr12El0 (t : Nat) (s : State) : Outcome := finishIndexedRead .pmevcntr listingMrsPmevcntrEl0 12 t s

/-- `MRS_PMEVCNTR13_EL0` (R558). -/
def execMrsPmevcntr13El0 (t : Nat) (s : State) : Outcome := finishIndexedRead .pmevcntr listingMrsPmevcntrEl0 13 t s

/-- `MRS_PMEVCNTR14_EL0` (R558). -/
def execMrsPmevcntr14El0 (t : Nat) (s : State) : Outcome := finishIndexedRead .pmevcntr listingMrsPmevcntrEl0 14 t s

/-- `MRS_PMEVCNTR15_EL0` (R558). -/
def execMrsPmevcntr15El0 (t : Nat) (s : State) : Outcome := finishIndexedRead .pmevcntr listingMrsPmevcntrEl0 15 t s

/-- `MRS_PMEVCNTR16_EL0` (R558). -/
def execMrsPmevcntr16El0 (t : Nat) (s : State) : Outcome := finishIndexedRead .pmevcntr listingMrsPmevcntrEl0 16 t s

/-- `MRS_PMEVCNTR17_EL0` (R558). -/
def execMrsPmevcntr17El0 (t : Nat) (s : State) : Outcome := finishIndexedRead .pmevcntr listingMrsPmevcntrEl0 17 t s

/-- `MRS_PMEVCNTR18_EL0` (R558). -/
def execMrsPmevcntr18El0 (t : Nat) (s : State) : Outcome := finishIndexedRead .pmevcntr listingMrsPmevcntrEl0 18 t s

/-- `MRS_PMEVCNTR19_EL0` (R558). -/
def execMrsPmevcntr19El0 (t : Nat) (s : State) : Outcome := finishIndexedRead .pmevcntr listingMrsPmevcntrEl0 19 t s

/-- `MRS_PMEVCNTR20_EL0` (R558). -/
def execMrsPmevcntr20El0 (t : Nat) (s : State) : Outcome := finishIndexedRead .pmevcntr listingMrsPmevcntrEl0 20 t s

/-- `MRS_PMEVCNTR21_EL0` (R558). -/
def execMrsPmevcntr21El0 (t : Nat) (s : State) : Outcome := finishIndexedRead .pmevcntr listingMrsPmevcntrEl0 21 t s

/-- `MRS_PMEVCNTR22_EL0` (R558). -/
def execMrsPmevcntr22El0 (t : Nat) (s : State) : Outcome := finishIndexedRead .pmevcntr listingMrsPmevcntrEl0 22 t s

/-- `MRS_PMEVCNTR23_EL0` (R558). -/
def execMrsPmevcntr23El0 (t : Nat) (s : State) : Outcome := finishIndexedRead .pmevcntr listingMrsPmevcntrEl0 23 t s

/-- `MRS_PMEVCNTR24_EL0` (R558). -/
def execMrsPmevcntr24El0 (t : Nat) (s : State) : Outcome := finishIndexedRead .pmevcntr listingMrsPmevcntrEl0 24 t s

/-- `MRS_PMEVCNTR25_EL0` (R558). -/
def execMrsPmevcntr25El0 (t : Nat) (s : State) : Outcome := finishIndexedRead .pmevcntr listingMrsPmevcntrEl0 25 t s

/-- `MRS_PMEVCNTR26_EL0` (R558). -/
def execMrsPmevcntr26El0 (t : Nat) (s : State) : Outcome := finishIndexedRead .pmevcntr listingMrsPmevcntrEl0 26 t s

/-- `MRS_PMEVCNTR27_EL0` (R558). -/
def execMrsPmevcntr27El0 (t : Nat) (s : State) : Outcome := finishIndexedRead .pmevcntr listingMrsPmevcntrEl0 27 t s

/-- `MRS_PMEVCNTR28_EL0` (R558). -/
def execMrsPmevcntr28El0 (t : Nat) (s : State) : Outcome := finishIndexedRead .pmevcntr listingMrsPmevcntrEl0 28 t s

/-- `MRS_PMEVCNTR29_EL0` (R558). -/
def execMrsPmevcntr29El0 (t : Nat) (s : State) : Outcome := finishIndexedRead .pmevcntr listingMrsPmevcntrEl0 29 t s

/-- `MRS_PMEVCNTR30_EL0` (R558). -/
def execMrsPmevcntr30El0 (t : Nat) (s : State) : Outcome := finishIndexedRead .pmevcntr listingMrsPmevcntrEl0 30 t s

/-- `MSR PMEVCNTR<m>_EL0`: the listing of R559. -/
def listingMsrPmevcntrEl0 (m : Nat) (s : State) : Access :=
  if !(s.has .PMUv3 && s.has .AA64) then .undefined
  else if decide (s.numSelfHosted ≤ m) then
    if s.has .FGT then .undefined
    else .constrained .unimplemented
  else
    match s.inp.el with
    | .el0 =>
      if s.undefPriority && s.mdcr3TPM then .undefined
      else if s.userDisabled then s.trapUser
      else if !s.inp.inHostEL0 && s.fgtWrite .PMEVCNTRn_EL0 then .trap .el2
      else if s.el2Enabled && s.mdcr2TPM then .trap .el2
      else if s.el2Enabled && decide (s.numAccessible ≤ m) then
        if !s.has .FGT then .constrained .reservedForEL2
        else .trap .el2
      else if s.haveEL3 && s.mdcr3TPM then s.trapMonitor
      else if s.userUENOn && (!s.uacrP m || s.userER) then .razWi
      else .perform (.pmevcntr m)
    | .el1 =>
      if s.undefPriority && s.mdcr3TPM then .undefined
      else if s.fgtWrite .PMEVCNTRn_EL0 then .trap .el2
      else if s.el2Enabled && s.mdcr2TPM then .trap .el2
      else if s.el2Enabled && decide (s.numAccessible ≤ m) then
        if !s.has .FGT then .constrained .reservedForEL2
        else .trap .el2
      else if s.haveEL3 && s.mdcr3TPM then s.trapMonitor
      else .perform (.pmevcntr m)
    | .el2 =>
      if s.undefPriority && s.mdcr3TPM then .undefined
      else if s.haveEL3 && s.mdcr3TPM then s.trapMonitor
      else .perform (.pmevcntr m)
    | .el3 => .perform (.pmevcntr m)

/-- `MSR_PMEVCNTR0_EL0` (R559). -/
def execMsrPmevcntr0El0 (t : Nat) (s : State) : Outcome := finishIndexedWrite .pmevcntr listingMsrPmevcntrEl0 0 t s

/-- `MSR_PMEVCNTR1_EL0` (R559). -/
def execMsrPmevcntr1El0 (t : Nat) (s : State) : Outcome := finishIndexedWrite .pmevcntr listingMsrPmevcntrEl0 1 t s

/-- `MSR_PMEVCNTR2_EL0` (R559). -/
def execMsrPmevcntr2El0 (t : Nat) (s : State) : Outcome := finishIndexedWrite .pmevcntr listingMsrPmevcntrEl0 2 t s

/-- `MSR_PMEVCNTR3_EL0` (R559). -/
def execMsrPmevcntr3El0 (t : Nat) (s : State) : Outcome := finishIndexedWrite .pmevcntr listingMsrPmevcntrEl0 3 t s

/-- `MSR_PMEVCNTR4_EL0` (R559). -/
def execMsrPmevcntr4El0 (t : Nat) (s : State) : Outcome := finishIndexedWrite .pmevcntr listingMsrPmevcntrEl0 4 t s

/-- `MSR_PMEVCNTR5_EL0` (R559). -/
def execMsrPmevcntr5El0 (t : Nat) (s : State) : Outcome := finishIndexedWrite .pmevcntr listingMsrPmevcntrEl0 5 t s

/-- `MSR_PMEVCNTR6_EL0` (R559). -/
def execMsrPmevcntr6El0 (t : Nat) (s : State) : Outcome := finishIndexedWrite .pmevcntr listingMsrPmevcntrEl0 6 t s

/-- `MSR_PMEVCNTR7_EL0` (R559). -/
def execMsrPmevcntr7El0 (t : Nat) (s : State) : Outcome := finishIndexedWrite .pmevcntr listingMsrPmevcntrEl0 7 t s

/-- `MSR_PMEVCNTR8_EL0` (R559). -/
def execMsrPmevcntr8El0 (t : Nat) (s : State) : Outcome := finishIndexedWrite .pmevcntr listingMsrPmevcntrEl0 8 t s

/-- `MSR_PMEVCNTR9_EL0` (R559). -/
def execMsrPmevcntr9El0 (t : Nat) (s : State) : Outcome := finishIndexedWrite .pmevcntr listingMsrPmevcntrEl0 9 t s

/-- `MSR_PMEVCNTR10_EL0` (R559). -/
def execMsrPmevcntr10El0 (t : Nat) (s : State) : Outcome := finishIndexedWrite .pmevcntr listingMsrPmevcntrEl0 10 t s

/-- `MSR_PMEVCNTR11_EL0` (R559). -/
def execMsrPmevcntr11El0 (t : Nat) (s : State) : Outcome := finishIndexedWrite .pmevcntr listingMsrPmevcntrEl0 11 t s

/-- `MSR_PMEVCNTR12_EL0` (R559). -/
def execMsrPmevcntr12El0 (t : Nat) (s : State) : Outcome := finishIndexedWrite .pmevcntr listingMsrPmevcntrEl0 12 t s

/-- `MSR_PMEVCNTR13_EL0` (R559). -/
def execMsrPmevcntr13El0 (t : Nat) (s : State) : Outcome := finishIndexedWrite .pmevcntr listingMsrPmevcntrEl0 13 t s

/-- `MSR_PMEVCNTR14_EL0` (R559). -/
def execMsrPmevcntr14El0 (t : Nat) (s : State) : Outcome := finishIndexedWrite .pmevcntr listingMsrPmevcntrEl0 14 t s

/-- `MSR_PMEVCNTR15_EL0` (R559). -/
def execMsrPmevcntr15El0 (t : Nat) (s : State) : Outcome := finishIndexedWrite .pmevcntr listingMsrPmevcntrEl0 15 t s

/-- `MSR_PMEVCNTR16_EL0` (R559). -/
def execMsrPmevcntr16El0 (t : Nat) (s : State) : Outcome := finishIndexedWrite .pmevcntr listingMsrPmevcntrEl0 16 t s

/-- `MSR_PMEVCNTR17_EL0` (R559). -/
def execMsrPmevcntr17El0 (t : Nat) (s : State) : Outcome := finishIndexedWrite .pmevcntr listingMsrPmevcntrEl0 17 t s

/-- `MSR_PMEVCNTR18_EL0` (R559). -/
def execMsrPmevcntr18El0 (t : Nat) (s : State) : Outcome := finishIndexedWrite .pmevcntr listingMsrPmevcntrEl0 18 t s

/-- `MSR_PMEVCNTR19_EL0` (R559). -/
def execMsrPmevcntr19El0 (t : Nat) (s : State) : Outcome := finishIndexedWrite .pmevcntr listingMsrPmevcntrEl0 19 t s

/-- `MSR_PMEVCNTR20_EL0` (R559). -/
def execMsrPmevcntr20El0 (t : Nat) (s : State) : Outcome := finishIndexedWrite .pmevcntr listingMsrPmevcntrEl0 20 t s

/-- `MSR_PMEVCNTR21_EL0` (R559). -/
def execMsrPmevcntr21El0 (t : Nat) (s : State) : Outcome := finishIndexedWrite .pmevcntr listingMsrPmevcntrEl0 21 t s

/-- `MSR_PMEVCNTR22_EL0` (R559). -/
def execMsrPmevcntr22El0 (t : Nat) (s : State) : Outcome := finishIndexedWrite .pmevcntr listingMsrPmevcntrEl0 22 t s

/-- `MSR_PMEVCNTR23_EL0` (R559). -/
def execMsrPmevcntr23El0 (t : Nat) (s : State) : Outcome := finishIndexedWrite .pmevcntr listingMsrPmevcntrEl0 23 t s

/-- `MSR_PMEVCNTR24_EL0` (R559). -/
def execMsrPmevcntr24El0 (t : Nat) (s : State) : Outcome := finishIndexedWrite .pmevcntr listingMsrPmevcntrEl0 24 t s

/-- `MSR_PMEVCNTR25_EL0` (R559). -/
def execMsrPmevcntr25El0 (t : Nat) (s : State) : Outcome := finishIndexedWrite .pmevcntr listingMsrPmevcntrEl0 25 t s

/-- `MSR_PMEVCNTR26_EL0` (R559). -/
def execMsrPmevcntr26El0 (t : Nat) (s : State) : Outcome := finishIndexedWrite .pmevcntr listingMsrPmevcntrEl0 26 t s

/-- `MSR_PMEVCNTR27_EL0` (R559). -/
def execMsrPmevcntr27El0 (t : Nat) (s : State) : Outcome := finishIndexedWrite .pmevcntr listingMsrPmevcntrEl0 27 t s

/-- `MSR_PMEVCNTR28_EL0` (R559). -/
def execMsrPmevcntr28El0 (t : Nat) (s : State) : Outcome := finishIndexedWrite .pmevcntr listingMsrPmevcntrEl0 28 t s

/-- `MSR_PMEVCNTR29_EL0` (R559). -/
def execMsrPmevcntr29El0 (t : Nat) (s : State) : Outcome := finishIndexedWrite .pmevcntr listingMsrPmevcntrEl0 29 t s

/-- `MSR_PMEVCNTR30_EL0` (R559). -/
def execMsrPmevcntr30El0 (t : Nat) (s : State) : Outcome := finishIndexedWrite .pmevcntr listingMsrPmevcntrEl0 30 t s

/-- `MRS PMEVCNTSVR<m>_EL1`: the listing of R573. -/
def listingMrsPmevcntsvrEl1 (m : Nat) (s : State) : Access :=
  if !(s.has .PMUv3_SS && s.has .AA64) then .undefined
  else if decide (s.numSelfHosted ≤ m) then .undefined
  else
    match s.inp.el with
    | .el0 => .undefined
    | .el1 =>
      if s.undefPriority && !s.mdcr3EnPMSS then .undefined
      else if s.fgt2Read .nPMSSDATA then .trap .el2
      else if s.el2Enabled && decide (s.numAccessible ≤ m) then .trap .el2
      else if s.haveEL3 && !s.mdcr3EnPMSS then s.trapMonitor
      else .perform (.pmevcntsvr m)
    | .el2 =>
      if s.undefPriority && !s.mdcr3EnPMSS then .undefined
      else if s.haveEL3 && !s.mdcr3EnPMSS then s.trapMonitor
      else .perform (.pmevcntsvr m)
    | .el3 => .perform (.pmevcntsvr m)

/-- `MRS_PMEVCNTSVR0_EL1` (R573). -/
def execMrsPmevcntsvr0El1 (t : Nat) (s : State) : Outcome := finishRead (listingMrsPmevcntsvrEl1 0 s) t s

/-- `MRS_PMEVCNTSVR1_EL1` (R573). -/
def execMrsPmevcntsvr1El1 (t : Nat) (s : State) : Outcome := finishRead (listingMrsPmevcntsvrEl1 1 s) t s

/-- `MRS_PMEVCNTSVR2_EL1` (R573). -/
def execMrsPmevcntsvr2El1 (t : Nat) (s : State) : Outcome := finishRead (listingMrsPmevcntsvrEl1 2 s) t s

/-- `MRS_PMEVCNTSVR3_EL1` (R573). -/
def execMrsPmevcntsvr3El1 (t : Nat) (s : State) : Outcome := finishRead (listingMrsPmevcntsvrEl1 3 s) t s

/-- `MRS_PMEVCNTSVR4_EL1` (R573). -/
def execMrsPmevcntsvr4El1 (t : Nat) (s : State) : Outcome := finishRead (listingMrsPmevcntsvrEl1 4 s) t s

/-- `MRS_PMEVCNTSVR5_EL1` (R573). -/
def execMrsPmevcntsvr5El1 (t : Nat) (s : State) : Outcome := finishRead (listingMrsPmevcntsvrEl1 5 s) t s

/-- `MRS_PMEVCNTSVR6_EL1` (R573). -/
def execMrsPmevcntsvr6El1 (t : Nat) (s : State) : Outcome := finishRead (listingMrsPmevcntsvrEl1 6 s) t s

/-- `MRS_PMEVCNTSVR7_EL1` (R573). -/
def execMrsPmevcntsvr7El1 (t : Nat) (s : State) : Outcome := finishRead (listingMrsPmevcntsvrEl1 7 s) t s

/-- `MRS_PMEVCNTSVR8_EL1` (R573). -/
def execMrsPmevcntsvr8El1 (t : Nat) (s : State) : Outcome := finishRead (listingMrsPmevcntsvrEl1 8 s) t s

/-- `MRS_PMEVCNTSVR9_EL1` (R573). -/
def execMrsPmevcntsvr9El1 (t : Nat) (s : State) : Outcome := finishRead (listingMrsPmevcntsvrEl1 9 s) t s

/-- `MRS_PMEVCNTSVR10_EL1` (R573). -/
def execMrsPmevcntsvr10El1 (t : Nat) (s : State) : Outcome := finishRead (listingMrsPmevcntsvrEl1 10 s) t s

/-- `MRS_PMEVCNTSVR11_EL1` (R573). -/
def execMrsPmevcntsvr11El1 (t : Nat) (s : State) : Outcome := finishRead (listingMrsPmevcntsvrEl1 11 s) t s

/-- `MRS_PMEVCNTSVR12_EL1` (R573). -/
def execMrsPmevcntsvr12El1 (t : Nat) (s : State) : Outcome := finishRead (listingMrsPmevcntsvrEl1 12 s) t s

/-- `MRS_PMEVCNTSVR13_EL1` (R573). -/
def execMrsPmevcntsvr13El1 (t : Nat) (s : State) : Outcome := finishRead (listingMrsPmevcntsvrEl1 13 s) t s

/-- `MRS_PMEVCNTSVR14_EL1` (R573). -/
def execMrsPmevcntsvr14El1 (t : Nat) (s : State) : Outcome := finishRead (listingMrsPmevcntsvrEl1 14 s) t s

/-- `MRS_PMEVCNTSVR15_EL1` (R573). -/
def execMrsPmevcntsvr15El1 (t : Nat) (s : State) : Outcome := finishRead (listingMrsPmevcntsvrEl1 15 s) t s

/-- `MRS_PMEVCNTSVR16_EL1` (R573). -/
def execMrsPmevcntsvr16El1 (t : Nat) (s : State) : Outcome := finishRead (listingMrsPmevcntsvrEl1 16 s) t s

/-- `MRS_PMEVCNTSVR17_EL1` (R573). -/
def execMrsPmevcntsvr17El1 (t : Nat) (s : State) : Outcome := finishRead (listingMrsPmevcntsvrEl1 17 s) t s

/-- `MRS_PMEVCNTSVR18_EL1` (R573). -/
def execMrsPmevcntsvr18El1 (t : Nat) (s : State) : Outcome := finishRead (listingMrsPmevcntsvrEl1 18 s) t s

/-- `MRS_PMEVCNTSVR19_EL1` (R573). -/
def execMrsPmevcntsvr19El1 (t : Nat) (s : State) : Outcome := finishRead (listingMrsPmevcntsvrEl1 19 s) t s

/-- `MRS_PMEVCNTSVR20_EL1` (R573). -/
def execMrsPmevcntsvr20El1 (t : Nat) (s : State) : Outcome := finishRead (listingMrsPmevcntsvrEl1 20 s) t s

/-- `MRS_PMEVCNTSVR21_EL1` (R573). -/
def execMrsPmevcntsvr21El1 (t : Nat) (s : State) : Outcome := finishRead (listingMrsPmevcntsvrEl1 21 s) t s

/-- `MRS_PMEVCNTSVR22_EL1` (R573). -/
def execMrsPmevcntsvr22El1 (t : Nat) (s : State) : Outcome := finishRead (listingMrsPmevcntsvrEl1 22 s) t s

/-- `MRS_PMEVCNTSVR23_EL1` (R573). -/
def execMrsPmevcntsvr23El1 (t : Nat) (s : State) : Outcome := finishRead (listingMrsPmevcntsvrEl1 23 s) t s

/-- `MRS_PMEVCNTSVR24_EL1` (R573). -/
def execMrsPmevcntsvr24El1 (t : Nat) (s : State) : Outcome := finishRead (listingMrsPmevcntsvrEl1 24 s) t s

/-- `MRS_PMEVCNTSVR25_EL1` (R573). -/
def execMrsPmevcntsvr25El1 (t : Nat) (s : State) : Outcome := finishRead (listingMrsPmevcntsvrEl1 25 s) t s

/-- `MRS_PMEVCNTSVR26_EL1` (R573). -/
def execMrsPmevcntsvr26El1 (t : Nat) (s : State) : Outcome := finishRead (listingMrsPmevcntsvrEl1 26 s) t s

/-- `MRS_PMEVCNTSVR27_EL1` (R573). -/
def execMrsPmevcntsvr27El1 (t : Nat) (s : State) : Outcome := finishRead (listingMrsPmevcntsvrEl1 27 s) t s

/-- `MRS_PMEVCNTSVR28_EL1` (R573). -/
def execMrsPmevcntsvr28El1 (t : Nat) (s : State) : Outcome := finishRead (listingMrsPmevcntsvrEl1 28 s) t s

/-- `MRS_PMEVCNTSVR29_EL1` (R573). -/
def execMrsPmevcntsvr29El1 (t : Nat) (s : State) : Outcome := finishRead (listingMrsPmevcntsvrEl1 29 s) t s

/-- `MRS_PMEVCNTSVR30_EL1` (R573). -/
def execMrsPmevcntsvr30El1 (t : Nat) (s : State) : Outcome := finishRead (listingMrsPmevcntsvrEl1 30 s) t s

/-- `MRS PMEVTYPER<m>_EL0`: the listing of R610. -/
def listingMrsPmevtyperEl0 (m : Nat) (s : State) : Access :=
  if !(s.has .PMUv3 && s.has .AA64) then .undefined
  else if decide (s.numSelfHosted ≤ m) then
    if s.has .FGT then .undefined
    else .constrained .unimplemented
  else
    match s.inp.el with
    | .el0 =>
      if s.undefPriority && s.mdcr3TPM then .undefined
      else if s.userDisabled then s.trapUser
      else if !s.inp.inHostEL0 && s.fgtRead .PMEVTYPERn_EL0 then .trap .el2
      else if s.el2Enabled && s.mdcr2TPM then .trap .el2
      else if s.el2Enabled && decide (s.numAccessible ≤ m) then
        if !s.has .FGT then .constrained .reservedForEL2
        else .trap .el2
      else if s.haveEL3 && s.mdcr3TPM then s.trapMonitor
      else if s.userUENOn && !s.uacrP m then .razWi
      else .perform (.pmevtyper m)
    | .el1 =>
      if s.undefPriority && s.mdcr3TPM then .undefined
      else if s.fgtRead .PMEVTYPERn_EL0 then .trap .el2
      else if s.el2Enabled && s.mdcr2TPM then .trap .el2
      else if s.el2Enabled && decide (s.numAccessible ≤ m) then
        if !s.has .FGT then .constrained .reservedForEL2
        else .trap .el2
      else if s.haveEL3 && s.mdcr3TPM then s.trapMonitor
      else .perform (.pmevtyper m)
    | .el2 =>
      if s.undefPriority && s.mdcr3TPM then .undefined
      else if s.haveEL3 && s.mdcr3TPM then s.trapMonitor
      else .perform (.pmevtyper m)
    | .el3 => .perform (.pmevtyper m)

/-- `MRS_PMEVTYPER0_EL0` (R610). -/
def execMrsPmevtyper0El0 (t : Nat) (s : State) : Outcome := finishIndexedRead .pmevtyper listingMrsPmevtyperEl0 0 t s

/-- `MRS_PMEVTYPER1_EL0` (R610). -/
def execMrsPmevtyper1El0 (t : Nat) (s : State) : Outcome := finishIndexedRead .pmevtyper listingMrsPmevtyperEl0 1 t s

/-- `MRS_PMEVTYPER2_EL0` (R610). -/
def execMrsPmevtyper2El0 (t : Nat) (s : State) : Outcome := finishIndexedRead .pmevtyper listingMrsPmevtyperEl0 2 t s

/-- `MRS_PMEVTYPER3_EL0` (R610). -/
def execMrsPmevtyper3El0 (t : Nat) (s : State) : Outcome := finishIndexedRead .pmevtyper listingMrsPmevtyperEl0 3 t s

/-- `MRS_PMEVTYPER4_EL0` (R610). -/
def execMrsPmevtyper4El0 (t : Nat) (s : State) : Outcome := finishIndexedRead .pmevtyper listingMrsPmevtyperEl0 4 t s

/-- `MRS_PMEVTYPER5_EL0` (R610). -/
def execMrsPmevtyper5El0 (t : Nat) (s : State) : Outcome := finishIndexedRead .pmevtyper listingMrsPmevtyperEl0 5 t s

/-- `MRS_PMEVTYPER6_EL0` (R610). -/
def execMrsPmevtyper6El0 (t : Nat) (s : State) : Outcome := finishIndexedRead .pmevtyper listingMrsPmevtyperEl0 6 t s

/-- `MRS_PMEVTYPER7_EL0` (R610). -/
def execMrsPmevtyper7El0 (t : Nat) (s : State) : Outcome := finishIndexedRead .pmevtyper listingMrsPmevtyperEl0 7 t s

/-- `MRS_PMEVTYPER8_EL0` (R610). -/
def execMrsPmevtyper8El0 (t : Nat) (s : State) : Outcome := finishIndexedRead .pmevtyper listingMrsPmevtyperEl0 8 t s

/-- `MRS_PMEVTYPER9_EL0` (R610). -/
def execMrsPmevtyper9El0 (t : Nat) (s : State) : Outcome := finishIndexedRead .pmevtyper listingMrsPmevtyperEl0 9 t s

/-- `MRS_PMEVTYPER10_EL0` (R610). -/
def execMrsPmevtyper10El0 (t : Nat) (s : State) : Outcome := finishIndexedRead .pmevtyper listingMrsPmevtyperEl0 10 t s

/-- `MRS_PMEVTYPER11_EL0` (R610). -/
def execMrsPmevtyper11El0 (t : Nat) (s : State) : Outcome := finishIndexedRead .pmevtyper listingMrsPmevtyperEl0 11 t s

/-- `MRS_PMEVTYPER12_EL0` (R610). -/
def execMrsPmevtyper12El0 (t : Nat) (s : State) : Outcome := finishIndexedRead .pmevtyper listingMrsPmevtyperEl0 12 t s

/-- `MRS_PMEVTYPER13_EL0` (R610). -/
def execMrsPmevtyper13El0 (t : Nat) (s : State) : Outcome := finishIndexedRead .pmevtyper listingMrsPmevtyperEl0 13 t s

/-- `MRS_PMEVTYPER14_EL0` (R610). -/
def execMrsPmevtyper14El0 (t : Nat) (s : State) : Outcome := finishIndexedRead .pmevtyper listingMrsPmevtyperEl0 14 t s

/-- `MRS_PMEVTYPER15_EL0` (R610). -/
def execMrsPmevtyper15El0 (t : Nat) (s : State) : Outcome := finishIndexedRead .pmevtyper listingMrsPmevtyperEl0 15 t s

/-- `MRS_PMEVTYPER16_EL0` (R610). -/
def execMrsPmevtyper16El0 (t : Nat) (s : State) : Outcome := finishIndexedRead .pmevtyper listingMrsPmevtyperEl0 16 t s

/-- `MRS_PMEVTYPER17_EL0` (R610). -/
def execMrsPmevtyper17El0 (t : Nat) (s : State) : Outcome := finishIndexedRead .pmevtyper listingMrsPmevtyperEl0 17 t s

/-- `MRS_PMEVTYPER18_EL0` (R610). -/
def execMrsPmevtyper18El0 (t : Nat) (s : State) : Outcome := finishIndexedRead .pmevtyper listingMrsPmevtyperEl0 18 t s

/-- `MRS_PMEVTYPER19_EL0` (R610). -/
def execMrsPmevtyper19El0 (t : Nat) (s : State) : Outcome := finishIndexedRead .pmevtyper listingMrsPmevtyperEl0 19 t s

/-- `MRS_PMEVTYPER20_EL0` (R610). -/
def execMrsPmevtyper20El0 (t : Nat) (s : State) : Outcome := finishIndexedRead .pmevtyper listingMrsPmevtyperEl0 20 t s

/-- `MRS_PMEVTYPER21_EL0` (R610). -/
def execMrsPmevtyper21El0 (t : Nat) (s : State) : Outcome := finishIndexedRead .pmevtyper listingMrsPmevtyperEl0 21 t s

/-- `MRS_PMEVTYPER22_EL0` (R610). -/
def execMrsPmevtyper22El0 (t : Nat) (s : State) : Outcome := finishIndexedRead .pmevtyper listingMrsPmevtyperEl0 22 t s

/-- `MRS_PMEVTYPER23_EL0` (R610). -/
def execMrsPmevtyper23El0 (t : Nat) (s : State) : Outcome := finishIndexedRead .pmevtyper listingMrsPmevtyperEl0 23 t s

/-- `MRS_PMEVTYPER24_EL0` (R610). -/
def execMrsPmevtyper24El0 (t : Nat) (s : State) : Outcome := finishIndexedRead .pmevtyper listingMrsPmevtyperEl0 24 t s

/-- `MRS_PMEVTYPER25_EL0` (R610). -/
def execMrsPmevtyper25El0 (t : Nat) (s : State) : Outcome := finishIndexedRead .pmevtyper listingMrsPmevtyperEl0 25 t s

/-- `MRS_PMEVTYPER26_EL0` (R610). -/
def execMrsPmevtyper26El0 (t : Nat) (s : State) : Outcome := finishIndexedRead .pmevtyper listingMrsPmevtyperEl0 26 t s

/-- `MRS_PMEVTYPER27_EL0` (R610). -/
def execMrsPmevtyper27El0 (t : Nat) (s : State) : Outcome := finishIndexedRead .pmevtyper listingMrsPmevtyperEl0 27 t s

/-- `MRS_PMEVTYPER28_EL0` (R610). -/
def execMrsPmevtyper28El0 (t : Nat) (s : State) : Outcome := finishIndexedRead .pmevtyper listingMrsPmevtyperEl0 28 t s

/-- `MRS_PMEVTYPER29_EL0` (R610). -/
def execMrsPmevtyper29El0 (t : Nat) (s : State) : Outcome := finishIndexedRead .pmevtyper listingMrsPmevtyperEl0 29 t s

/-- `MRS_PMEVTYPER30_EL0` (R610). -/
def execMrsPmevtyper30El0 (t : Nat) (s : State) : Outcome := finishIndexedRead .pmevtyper listingMrsPmevtyperEl0 30 t s

/-- `MSR PMEVTYPER<m>_EL0`: the listing of R611. -/
def listingMsrPmevtyperEl0 (m : Nat) (s : State) : Access :=
  if !(s.has .PMUv3 && s.has .AA64) then .undefined
  else if decide (s.numSelfHosted ≤ m) then
    if s.has .FGT then .undefined
    else .constrained .unimplemented
  else
    match s.inp.el with
    | .el0 =>
      if s.undefPriority && s.mdcr3TPM then .undefined
      else if s.userDisabled then s.trapUser
      else if !s.inp.inHostEL0 && s.fgtWrite .PMEVTYPERn_EL0 then .trap .el2
      else if s.el2Enabled && s.mdcr2TPM then .trap .el2
      else if s.el2Enabled && decide (s.numAccessible ≤ m) then
        if !s.has .FGT then .constrained .reservedForEL2
        else .trap .el2
      else if s.haveEL3 && s.mdcr3TPM then s.trapMonitor
      else if s.userUENOn && (!s.uacrP m || s.userER) then .razWi
      else .perform (.pmevtyper m)
    | .el1 =>
      if s.undefPriority && s.mdcr3TPM then .undefined
      else if s.fgtWrite .PMEVTYPERn_EL0 then .trap .el2
      else if s.el2Enabled && s.mdcr2TPM then .trap .el2
      else if s.el2Enabled && decide (s.numAccessible ≤ m) then
        if !s.has .FGT then .constrained .reservedForEL2
        else .trap .el2
      else if s.haveEL3 && s.mdcr3TPM then s.trapMonitor
      else .perform (.pmevtyper m)
    | .el2 =>
      if s.undefPriority && s.mdcr3TPM then .undefined
      else if s.haveEL3 && s.mdcr3TPM then s.trapMonitor
      else .perform (.pmevtyper m)
    | .el3 => .perform (.pmevtyper m)

/-- `MSR_PMEVTYPER0_EL0` (R611). -/
def execMsrPmevtyper0El0 (t : Nat) (s : State) : Outcome := finishIndexedWrite .pmevtyper listingMsrPmevtyperEl0 0 t s

/-- `MSR_PMEVTYPER1_EL0` (R611). -/
def execMsrPmevtyper1El0 (t : Nat) (s : State) : Outcome := finishIndexedWrite .pmevtyper listingMsrPmevtyperEl0 1 t s

/-- `MSR_PMEVTYPER2_EL0` (R611). -/
def execMsrPmevtyper2El0 (t : Nat) (s : State) : Outcome := finishIndexedWrite .pmevtyper listingMsrPmevtyperEl0 2 t s

/-- `MSR_PMEVTYPER3_EL0` (R611). -/
def execMsrPmevtyper3El0 (t : Nat) (s : State) : Outcome := finishIndexedWrite .pmevtyper listingMsrPmevtyperEl0 3 t s

/-- `MSR_PMEVTYPER4_EL0` (R611). -/
def execMsrPmevtyper4El0 (t : Nat) (s : State) : Outcome := finishIndexedWrite .pmevtyper listingMsrPmevtyperEl0 4 t s

/-- `MSR_PMEVTYPER5_EL0` (R611). -/
def execMsrPmevtyper5El0 (t : Nat) (s : State) : Outcome := finishIndexedWrite .pmevtyper listingMsrPmevtyperEl0 5 t s

/-- `MSR_PMEVTYPER6_EL0` (R611). -/
def execMsrPmevtyper6El0 (t : Nat) (s : State) : Outcome := finishIndexedWrite .pmevtyper listingMsrPmevtyperEl0 6 t s

/-- `MSR_PMEVTYPER7_EL0` (R611). -/
def execMsrPmevtyper7El0 (t : Nat) (s : State) : Outcome := finishIndexedWrite .pmevtyper listingMsrPmevtyperEl0 7 t s

/-- `MSR_PMEVTYPER8_EL0` (R611). -/
def execMsrPmevtyper8El0 (t : Nat) (s : State) : Outcome := finishIndexedWrite .pmevtyper listingMsrPmevtyperEl0 8 t s

/-- `MSR_PMEVTYPER9_EL0` (R611). -/
def execMsrPmevtyper9El0 (t : Nat) (s : State) : Outcome := finishIndexedWrite .pmevtyper listingMsrPmevtyperEl0 9 t s

/-- `MSR_PMEVTYPER10_EL0` (R611). -/
def execMsrPmevtyper10El0 (t : Nat) (s : State) : Outcome := finishIndexedWrite .pmevtyper listingMsrPmevtyperEl0 10 t s

/-- `MSR_PMEVTYPER11_EL0` (R611). -/
def execMsrPmevtyper11El0 (t : Nat) (s : State) : Outcome := finishIndexedWrite .pmevtyper listingMsrPmevtyperEl0 11 t s

/-- `MSR_PMEVTYPER12_EL0` (R611). -/
def execMsrPmevtyper12El0 (t : Nat) (s : State) : Outcome := finishIndexedWrite .pmevtyper listingMsrPmevtyperEl0 12 t s

/-- `MSR_PMEVTYPER13_EL0` (R611). -/
def execMsrPmevtyper13El0 (t : Nat) (s : State) : Outcome := finishIndexedWrite .pmevtyper listingMsrPmevtyperEl0 13 t s

/-- `MSR_PMEVTYPER14_EL0` (R611). -/
def execMsrPmevtyper14El0 (t : Nat) (s : State) : Outcome := finishIndexedWrite .pmevtyper listingMsrPmevtyperEl0 14 t s

/-- `MSR_PMEVTYPER15_EL0` (R611). -/
def execMsrPmevtyper15El0 (t : Nat) (s : State) : Outcome := finishIndexedWrite .pmevtyper listingMsrPmevtyperEl0 15 t s

/-- `MSR_PMEVTYPER16_EL0` (R611). -/
def execMsrPmevtyper16El0 (t : Nat) (s : State) : Outcome := finishIndexedWrite .pmevtyper listingMsrPmevtyperEl0 16 t s

/-- `MSR_PMEVTYPER17_EL0` (R611). -/
def execMsrPmevtyper17El0 (t : Nat) (s : State) : Outcome := finishIndexedWrite .pmevtyper listingMsrPmevtyperEl0 17 t s

/-- `MSR_PMEVTYPER18_EL0` (R611). -/
def execMsrPmevtyper18El0 (t : Nat) (s : State) : Outcome := finishIndexedWrite .pmevtyper listingMsrPmevtyperEl0 18 t s

/-- `MSR_PMEVTYPER19_EL0` (R611). -/
def execMsrPmevtyper19El0 (t : Nat) (s : State) : Outcome := finishIndexedWrite .pmevtyper listingMsrPmevtyperEl0 19 t s

/-- `MSR_PMEVTYPER20_EL0` (R611). -/
def execMsrPmevtyper20El0 (t : Nat) (s : State) : Outcome := finishIndexedWrite .pmevtyper listingMsrPmevtyperEl0 20 t s

/-- `MSR_PMEVTYPER21_EL0` (R611). -/
def execMsrPmevtyper21El0 (t : Nat) (s : State) : Outcome := finishIndexedWrite .pmevtyper listingMsrPmevtyperEl0 21 t s

/-- `MSR_PMEVTYPER22_EL0` (R611). -/
def execMsrPmevtyper22El0 (t : Nat) (s : State) : Outcome := finishIndexedWrite .pmevtyper listingMsrPmevtyperEl0 22 t s

/-- `MSR_PMEVTYPER23_EL0` (R611). -/
def execMsrPmevtyper23El0 (t : Nat) (s : State) : Outcome := finishIndexedWrite .pmevtyper listingMsrPmevtyperEl0 23 t s

/-- `MSR_PMEVTYPER24_EL0` (R611). -/
def execMsrPmevtyper24El0 (t : Nat) (s : State) : Outcome := finishIndexedWrite .pmevtyper listingMsrPmevtyperEl0 24 t s

/-- `MSR_PMEVTYPER25_EL0` (R611). -/
def execMsrPmevtyper25El0 (t : Nat) (s : State) : Outcome := finishIndexedWrite .pmevtyper listingMsrPmevtyperEl0 25 t s

/-- `MSR_PMEVTYPER26_EL0` (R611). -/
def execMsrPmevtyper26El0 (t : Nat) (s : State) : Outcome := finishIndexedWrite .pmevtyper listingMsrPmevtyperEl0 26 t s

/-- `MSR_PMEVTYPER27_EL0` (R611). -/
def execMsrPmevtyper27El0 (t : Nat) (s : State) : Outcome := finishIndexedWrite .pmevtyper listingMsrPmevtyperEl0 27 t s

/-- `MSR_PMEVTYPER28_EL0` (R611). -/
def execMsrPmevtyper28El0 (t : Nat) (s : State) : Outcome := finishIndexedWrite .pmevtyper listingMsrPmevtyperEl0 28 t s

/-- `MSR_PMEVTYPER29_EL0` (R611). -/
def execMsrPmevtyper29El0 (t : Nat) (s : State) : Outcome := finishIndexedWrite .pmevtyper listingMsrPmevtyperEl0 29 t s

/-- `MSR_PMEVTYPER30_EL0` (R611). -/
def execMsrPmevtyper30El0 (t : Nat) (s : State) : Outcome := finishIndexedWrite .pmevtyper listingMsrPmevtyperEl0 30 t s

end Sys2Proof.Machine
end

