-- ==== Sys2Proof/Machine/InstrCounter.lean ====
section
/-! DEFINITION. The accesses to the instruction counter, the interrupt enable registers and PMIAR_EL1, PMMIR_EL1:
the access listings, and one meaning per instruction. -/

namespace Sys2Proof.Machine

/-- `MRS PMIAR_EL1`: the listing of R654. -/
def listingMrsPmiarEl1 (s : State) : Access :=
  if !(s.has .SEBEP && s.has .AA64) then .undefined
  else
    match s.inp.el with
    | .el0 => .undefined
    | .el1 =>
      if s.undefPriority && !s.mdcr3EnPM2 then .undefined
      else if s.undefPriority && s.mdcr3TPM then .undefined
      else if s.fgt2Read .nPMIAR_EL1 then .trap .el2
      else if s.el2Enabled && s.mdcr2TPM then .trap .el2
      else if s.haveEL3 && !s.mdcr3EnPM2 then s.trapMonitor
      else if s.haveEL3 && s.mdcr3TPM then s.trapMonitor
      else .perform .pmiar
    | .el2 =>
      if s.undefPriority && !s.mdcr3EnPM2 then .undefined
      else if s.undefPriority && s.mdcr3TPM then .undefined
      else if s.haveEL3 && !s.mdcr3EnPM2 then s.trapMonitor
      else if s.haveEL3 && s.mdcr3TPM then s.trapMonitor
      else .perform .pmiar
    | .el3 => .perform .pmiar

/-- `MRS_PMIAR_EL1` (R654). -/
def execMrsPmiarEl1 (t : Nat) (s : State) : Outcome := finishRead (listingMrsPmiarEl1 s) t s

/-- `MSR PMIAR_EL1`: the listing of R655. -/
def listingMsrPmiarEl1 (s : State) : Access :=
  if !(s.has .SEBEP && s.has .AA64) then .undefined
  else
    match s.inp.el with
    | .el0 => .undefined
    | .el1 =>
      if s.undefPriority && !s.mdcr3EnPM2 then .undefined
      else if s.undefPriority && s.mdcr3TPM then .undefined
      else if s.fgt2Write .nPMIAR_EL1 then .trap .el2
      else if s.el2Enabled && s.mdcr2TPM then .trap .el2
      else if s.haveEL3 && !s.mdcr3EnPM2 then s.trapMonitor
      else if s.haveEL3 && s.mdcr3TPM then s.trapMonitor
      else .perform .pmiar
    | .el2 =>
      if s.undefPriority && !s.mdcr3EnPM2 then .undefined
      else if s.undefPriority && s.mdcr3TPM then .undefined
      else if s.haveEL3 && !s.mdcr3EnPM2 then s.trapMonitor
      else if s.haveEL3 && s.mdcr3TPM then s.trapMonitor
      else .perform .pmiar
    | .el3 => .perform .pmiar

/-- `MSR_PMIAR_EL1` (R655). -/
def execMsrPmiarEl1 (t : Nat) (s : State) : Outcome := finishWrite (listingMsrPmiarEl1 s) t s

/-- `MRS PMICFILTR_EL0`: the listing of R679. -/
def listingMrsPmicfiltrEl0 (s : State) : Access :=
  if !(s.has .PMUv3_ICNTR && s.has .AA64) then .undefined
  else
    match s.inp.el with
    | .el0 =>
      if s.undefPriority && !s.mdcr3EnPM2 then .undefined
      else if s.undefPriority && s.mdcr3TPM then .undefined
      else if !s.userUEN then s.trapUser
      else if !s.inp.inHostEL0 && s.fgt2Read .nPMICFILTR_EL0 then .trap .el2
      else if s.el2Enabled && s.mdcr2TPM then .trap .el2
      else if s.haveEL3 && !s.mdcr3EnPM2 then s.trapMonitor
      else if s.haveEL3 && s.mdcr3TPM then s.trapMonitor
      else if s.userUENOn && !s.uacrF0 then .razWi
      else .perform .pmicfiltr
    | .el1 =>
      if s.undefPriority && !s.mdcr3EnPM2 then .undefined
      else if s.undefPriority && s.mdcr3TPM then .undefined
      else if s.fgt2Read .nPMICFILTR_EL0 then .trap .el2
      else if s.el2Enabled && s.mdcr2TPM then .trap .el2
      else if s.haveEL3 && !s.mdcr3EnPM2 then s.trapMonitor
      else if s.haveEL3 && s.mdcr3TPM then s.trapMonitor
      else .perform .pmicfiltr
    | .el2 =>
      if s.undefPriority && !s.mdcr3EnPM2 then .undefined
      else if s.undefPriority && s.mdcr3TPM then .undefined
      else if s.haveEL3 && !s.mdcr3EnPM2 then s.trapMonitor
      else if s.haveEL3 && s.mdcr3TPM then s.trapMonitor
      else .perform .pmicfiltr
    | .el3 => .perform .pmicfiltr

/-- `MRS_PMICFILTR_EL0` (R679). -/
def execMrsPmicfiltrEl0 (t : Nat) (s : State) : Outcome := finishRead (listingMrsPmicfiltrEl0 s) t s

/-- `MSR PMICFILTR_EL0`: the listing of R680. -/
def listingMsrPmicfiltrEl0 (s : State) : Access :=
  if !(s.has .PMUv3_ICNTR && s.has .AA64) then .undefined
  else
    match s.inp.el with
    | .el0 =>
      if s.undefPriority && !s.mdcr3EnPM2 then .undefined
      else if s.undefPriority && s.mdcr3TPM then .undefined
      else if !s.userUEN then s.trapUser
      else if !s.inp.inHostEL0 && s.fgt2Write .nPMICFILTR_EL0 then .trap .el2
      else if s.el2Enabled && s.mdcr2TPM then .trap .el2
      else if s.haveEL3 && !s.mdcr3EnPM2 then s.trapMonitor
      else if s.haveEL3 && s.mdcr3TPM then s.trapMonitor
      else if s.userUENOn && (!s.uacrF0 || s.userIR) then .razWi
      else .perform .pmicfiltr
    | .el1 =>
      if s.undefPriority && !s.mdcr3EnPM2 then .undefined
      else if s.undefPriority && s.mdcr3TPM then .undefined
      else if s.fgt2Write .nPMICFILTR_EL0 then .trap .el2
      else if s.el2Enabled && s.mdcr2TPM then .trap .el2
      else if s.haveEL3 && !s.mdcr3EnPM2 then s.trapMonitor
      else if s.haveEL3 && s.mdcr3TPM then s.trapMonitor
      else .perform .pmicfiltr
    | .el2 =>
      if s.undefPriority && !s.mdcr3EnPM2 then .undefined
      else if s.undefPriority && s.mdcr3TPM then .undefined
      else if s.haveEL3 && !s.mdcr3EnPM2 then s.trapMonitor
      else if s.haveEL3 && s.mdcr3TPM then s.trapMonitor
      else .perform .pmicfiltr
    | .el3 => .perform .pmicfiltr

/-- `MSR_PMICFILTR_EL0` (R680). -/
def execMsrPmicfiltrEl0 (t : Nat) (s : State) : Outcome := finishWrite (listingMsrPmicfiltrEl0 s) t s

/-- `MRS PMICNTR_EL0`: the listing of R694. -/
def listingMrsPmicntrEl0 (s : State) : Access :=
  if !(s.has .PMUv3_ICNTR && s.has .AA64) then .undefined
  else
    match s.inp.el with
    | .el0 =>
      if s.undefPriority && !s.mdcr3EnPM2 then .undefined
      else if s.undefPriority && s.mdcr3TPM then .undefined
      else if !s.userUEN then s.trapUser
      else if !s.inp.inHostEL0 && s.fgt2Read .nPMICNTR_EL0 then .trap .el2
      else if s.el2Enabled && s.mdcr2TPM then .trap .el2
      else if s.haveEL3 && !s.mdcr3EnPM2 then s.trapMonitor
      else if s.haveEL3 && s.mdcr3TPM then s.trapMonitor
      else if s.userUENOn && !s.uacrF0 then .razWi
      else .perform .pmicntr
    | .el1 =>
      if s.undefPriority && !s.mdcr3EnPM2 then .undefined
      else if s.undefPriority && s.mdcr3TPM then .undefined
      else if s.fgt2Read .nPMICNTR_EL0 then .trap .el2
      else if s.el2Enabled && s.mdcr2TPM then .trap .el2
      else if s.haveEL3 && !s.mdcr3EnPM2 then s.trapMonitor
      else if s.haveEL3 && s.mdcr3TPM then s.trapMonitor
      else .perform .pmicntr
    | .el2 =>
      if s.undefPriority && !s.mdcr3EnPM2 then .undefined
      else if s.undefPriority && s.mdcr3TPM then .undefined
      else if s.haveEL3 && !s.mdcr3EnPM2 then s.trapMonitor
      else if s.haveEL3 && s.mdcr3TPM then s.trapMonitor
      else .perform .pmicntr
    | .el3 => .perform .pmicntr

/-- `MRS_PMICNTR_EL0` (R694). -/
def execMrsPmicntrEl0 (t : Nat) (s : State) : Outcome := finishRead (listingMrsPmicntrEl0 s) t s

/-- `MSR PMICNTR_EL0`: the listing of R695. -/
def listingMsrPmicntrEl0 (s : State) : Access :=
  if !(s.has .PMUv3_ICNTR && s.has .AA64) then .undefined
  else
    match s.inp.el with
    | .el0 =>
      if s.undefPriority && !s.mdcr3EnPM2 then .undefined
      else if s.undefPriority && s.mdcr3TPM then .undefined
      else if !s.userUEN then s.trapUser
      else if !s.inp.inHostEL0 && s.fgt2Write .nPMICNTR_EL0 then .trap .el2
      else if s.el2Enabled && s.mdcr2TPM then .trap .el2
      else if s.haveEL3 && !s.mdcr3EnPM2 then s.trapMonitor
      else if s.haveEL3 && s.mdcr3TPM then s.trapMonitor
      else if s.userUENOn && (!s.uacrF0 || s.userIR) then .razWi
      else .perform .pmicntr
    | .el1 =>
      if s.undefPriority && !s.mdcr3EnPM2 then .undefined
      else if s.undefPriority && s.mdcr3TPM then .undefined
      else if s.fgt2Write .nPMICNTR_EL0 then .trap .el2
      else if s.el2Enabled && s.mdcr2TPM then .trap .el2
      else if s.haveEL3 && !s.mdcr3EnPM2 then s.trapMonitor
      else if s.haveEL3 && s.mdcr3TPM then s.trapMonitor
      else .perform .pmicntr
    | .el2 =>
      if s.undefPriority && !s.mdcr3EnPM2 then .undefined
      else if s.undefPriority && s.mdcr3TPM then .undefined
      else if s.haveEL3 && !s.mdcr3EnPM2 then s.trapMonitor
      else if s.haveEL3 && s.mdcr3TPM then s.trapMonitor
      else .perform .pmicntr
    | .el3 => .perform .pmicntr

/-- `MSR_PMICNTR_EL0` (R695). -/
def execMsrPmicntrEl0 (t : Nat) (s : State) : Outcome := finishWrite (listingMsrPmicntrEl0 s) t s

/-- `MRS PMICNTSVR_EL1`: the listing of R702. -/
def listingMrsPmicntsvrEl1 (s : State) : Access :=
  if !(s.has .PMUv3_ICNTR && s.has .PMUv3_SS && s.has .AA64) then .undefined
  else
    match s.inp.el with
    | .el0 => .undefined
    | .el1 =>
      if s.undefPriority && !s.mdcr3EnPMSS then .undefined
      else if s.fgt2Read .nPMSSDATA then .trap .el2
      else if s.haveEL3 && !s.mdcr3EnPMSS then s.trapMonitor
      else .perform .pmicntsvr
    | .el2 =>
      if s.undefPriority && !s.mdcr3EnPMSS then .undefined
      else if s.haveEL3 && !s.mdcr3EnPMSS then s.trapMonitor
      else .perform .pmicntsvr
    | .el3 => .perform .pmicntsvr

/-- `MRS_PMICNTSVR_EL1` (R702). -/
def execMrsPmicntsvrEl1 (t : Nat) (s : State) : Outcome := finishRead (listingMrsPmicntsvrEl1 s) t s

/-- `MRS PMINTENCLR_EL1`: the listing of R719. -/
def listingMrsPmintenclrEl1 (s : State) : Access :=
  if !(s.has .PMUv3 && s.has .AA64) then .undefined
  else
    match s.inp.el with
    | .el0 => .undefined
    | .el1 =>
      if s.undefPriority && s.mdcr3TPM then .undefined
      else if s.fgtRead .PMINTEN then .trap .el2
      else if s.el2Enabled && s.mdcr2TPM then .trap .el2
      else if s.haveEL3 && s.mdcr3TPM then s.trapMonitor
      else .perform .pmintenclr
    | .el2 =>
      if s.undefPriority && s.mdcr3TPM then .undefined
      else if s.haveEL3 && s.mdcr3TPM then s.trapMonitor
      else .perform .pmintenclr
    | .el3 => .perform .pmintenclr

/-- `MRS_PMINTENCLR_EL1` (R719). -/
def execMrsPmintenclrEl1 (t : Nat) (s : State) : Outcome := finishRead (listingMrsPmintenclrEl1 s) t s

/-- `MSR PMINTENCLR_EL1`: the listing of R720. -/
def listingMsrPmintenclrEl1 (s : State) : Access :=
  if !(s.has .PMUv3 && s.has .AA64) then .undefined
  else
    match s.inp.el with
    | .el0 => .undefined
    | .el1 =>
      if s.undefPriority && s.mdcr3TPM then .undefined
      else if s.fgtWrite .PMINTEN then .trap .el2
      else if s.el2Enabled && s.mdcr2TPM then .trap .el2
      else if s.haveEL3 && s.mdcr3TPM then s.trapMonitor
      else .perform .pmintenclr
    | .el2 =>
      if s.undefPriority && s.mdcr3TPM then .undefined
      else if s.haveEL3 && s.mdcr3TPM then s.trapMonitor
      else .perform .pmintenclr
    | .el3 => .perform .pmintenclr

/-- `MSR_PMINTENCLR_EL1` (R720). -/
def execMsrPmintenclrEl1 (t : Nat) (s : State) : Outcome := finishWrite (listingMsrPmintenclrEl1 s) t s

/-- `MRS PMINTENSET_EL1`: the listing of R738. -/
def listingMrsPmintensetEl1 (s : State) : Access :=
  if !(s.has .PMUv3 && s.has .AA64) then .undefined
  else
    match s.inp.el with
    | .el0 => .undefined
    | .el1 =>
      if s.undefPriority && s.mdcr3TPM then .undefined
      else if s.fgtRead .PMINTEN then .trap .el2
      else if s.el2Enabled && s.mdcr2TPM then .trap .el2
      else if s.haveEL3 && s.mdcr3TPM then s.trapMonitor
      else .perform .pmintenset
    | .el2 =>
      if s.undefPriority && s.mdcr3TPM then .undefined
      else if s.haveEL3 && s.mdcr3TPM then s.trapMonitor
      else .perform .pmintenset
    | .el3 => .perform .pmintenset

/-- `MRS_PMINTENSET_EL1` (R738). -/
def execMrsPmintensetEl1 (t : Nat) (s : State) : Outcome := finishRead (listingMrsPmintensetEl1 s) t s

/-- `MSR PMINTENSET_EL1`: the listing of R739. -/
def listingMsrPmintensetEl1 (s : State) : Access :=
  if !(s.has .PMUv3 && s.has .AA64) then .undefined
  else
    match s.inp.el with
    | .el0 => .undefined
    | .el1 =>
      if s.undefPriority && s.mdcr3TPM then .undefined
      else if s.fgtWrite .PMINTEN then .trap .el2
      else if s.el2Enabled && s.mdcr2TPM then .trap .el2
      else if s.haveEL3 && s.mdcr3TPM then s.trapMonitor
      else .perform .pmintenset
    | .el2 =>
      if s.undefPriority && s.mdcr3TPM then .undefined
      else if s.haveEL3 && s.mdcr3TPM then s.trapMonitor
      else .perform .pmintenset
    | .el3 => .perform .pmintenset

/-- `MSR_PMINTENSET_EL1` (R739). -/
def execMsrPmintensetEl1 (t : Nat) (s : State) : Outcome := finishWrite (listingMsrPmintensetEl1 s) t s

/-- `MRS PMMIR_EL1`: the listing of R769. -/
def listingMrsPmmirEl1 (s : State) : Access :=
  if !(s.has .PMUv3p4 && s.has .AA64) then .undefined
  else
    match s.inp.el with
    | .el0 => .undefined
    | .el1 =>
      if s.undefPriority && s.mdcr3TPM then .undefined
      else if s.fgtRead .PMMIR_EL1 then .trap .el2
      else if s.el2Enabled && s.mdcr2TPM then .trap .el2
      else if s.haveEL3 && s.mdcr3TPM then s.trapMonitor
      else .perform .pmmir
    | .el2 =>
      if s.undefPriority && s.mdcr3TPM then .undefined
      else if s.haveEL3 && s.mdcr3TPM then s.trapMonitor
      else .perform .pmmir
    | .el3 => .perform .pmmir

/-- `MRS_PMMIR_EL1` (R769). -/
def execMrsPmmirEl1 (t : Nat) (s : State) : Outcome := finishRead (listingMrsPmmirEl1 s) t s

end Sys2Proof.Machine
end

