-- ==== Sys2Proof/Machine/Mdcr.lean ====
section
/-! DEFINITION. The accesses to MDCR_EL2 and MDCR_EL3:
the access listings, and one meaning per instruction. -/

namespace Sys2Proof.Machine

/-- `MRS MDCR_EL2`: the listing of R1670. -/
def listingMrsMdcrEl2 (s : State) : Access :=
  if !s.has .AA64 then .undefined
  else
    match s.inp.el with
    | .el0 => .undefined
    | .el1 =>
      if s.inp.nvx.getLsbD 0 then .trap .el2
      else .undefined
    | .el2 =>
      if s.undefPriority && s.mdcr3TDA then .undefined
      else if s.haveEL3 && s.mdcr3TDA then s.trapMonitor
      else .perform .mdcrEl2
    | .el3 => .perform .mdcrEl2

/-- `MRS_MDCR_EL2` (R1670). -/
def execMrsMdcrEl2 (t : Nat) (s : State) : Outcome := finishRead (listingMrsMdcrEl2 s) t s

/-- `MSR MDCR_EL2`: the listing of R1671. -/
def listingMsrMdcrEl2 (s : State) : Access :=
  if !s.has .AA64 then .undefined
  else
    match s.inp.el with
    | .el0 => .undefined
    | .el1 =>
      if s.inp.nvx.getLsbD 0 then .trap .el2
      else .undefined
    | .el2 =>
      if s.undefPriority && s.mdcr3TDA then .undefined
      else if s.haveEL3 && s.mdcr3TDA then s.trapMonitor
      else .perform .mdcrEl2
    | .el3 => .perform .mdcrEl2

/-- `MSR_MDCR_EL2` (R1671). -/
def execMsrMdcrEl2 (t : Nat) (s : State) : Outcome := finishWrite (listingMsrMdcrEl2 s) t s

/-- `MRS MDCR_EL3`: the listing of R1696. -/
def listingMrsMdcrEl3 (s : State) : Access :=
  if !(s.haveEL3 && s.has .AA64) then .undefined
  else
    match s.inp.el with
    | .el0 => .undefined
    | .el1 => .undefined
    | .el2 => .undefined
    | .el3 => .perform .mdcrEl3

/-- `MRS_MDCR_EL3` (R1696). -/
def execMrsMdcrEl3 (t : Nat) (s : State) : Outcome := finishRead (listingMrsMdcrEl3 s) t s

/-- `MSR MDCR_EL3`: the listing of R1697. -/
def listingMsrMdcrEl3 (s : State) : Access :=
  if !(s.haveEL3 && s.has .AA64) then .undefined
  else
    match s.inp.el with
    | .el0 => .undefined
    | .el1 => .undefined
    | .el2 => .undefined
    | .el3 =>
      if s.has .FGWTE3 && s.inp.fgwte3Mdcr then .trap .el3
      else .perform .mdcrEl3

/-- `MSR_MDCR_EL3` (R1697). -/
def execMsrMdcrEl3 (t : Nat) (s : State) : Outcome := finishWrite (listingMsrMdcrEl3 s) t s

end Sys2Proof.Machine
end

