-- ==== Sys2Proof/Machine/Overflow.lean ====
section
/-! DEFINITION. The accesses to the overflow, select, snapshot, software increment and user access registers:
the access listings, and one meaning per instruction. -/

namespace Sys2Proof.Machine

/-- `MRS PMOVSCLR_EL0`: the listing of R810. -/
def listingMrsPmovsclrEl0 (s : State) : Access :=
  if !(s.has .PMUv3 && s.has .AA64) then .undefined
  else
    match s.inp.el with
    | .el0 =>
      if s.undefPriority && s.mdcr3TPM then .undefined
      else if s.userDisabled then s.trapUser
      else if !s.inp.inHostEL0 && s.fgtRead .PMOVS then .trap .el2
      else if s.el2Enabled && s.mdcr2TPM then .trap .el2
      else if s.haveEL3 && s.mdcr3TPM then s.trapMonitor
      else .perform .pmovsclr
    | .el1 =>
      if s.undefPriority && s.mdcr3TPM then .undefined
      else if s.fgtRead .PMOVS then .trap .el2
      else if s.el2Enabled && s.mdcr2TPM then .trap .el2
      else if s.haveEL3 && s.mdcr3TPM then s.trapMonitor
      else .perform .pmovsclr
    | .el2 =>
      if s.undefPriority && s.mdcr3TPM then .undefined
      else if s.haveEL3 && s.mdcr3TPM then s.trapMonitor
      else .perform .pmovsclr
    | .el3 => .perform .pmovsclr

/-- `MRS_PMOVSCLR_EL0` (R810). -/
def execMrsPmovsclrEl0 (t : Nat) (s : State) : Outcome := finishRead (listingMrsPmovsclrEl0 s) t s

/-- `MSR PMOVSCLR_EL0`: the listing of R811. -/
def listingMsrPmovsclrEl0 (s : State) : Access :=
  if !(s.has .PMUv3 && s.has .AA64) then .undefined
  else
    match s.inp.el with
    | .el0 =>
      if s.undefPriority && s.mdcr3TPM then .undefined
      else if s.userDisabled then s.trapUser
      else if !s.inp.inHostEL0 && s.fgtWrite .PMOVS then .trap .el2
      else if s.el2Enabled && s.mdcr2TPM then .trap .el2
      else if s.haveEL3 && s.mdcr3TPM then s.trapMonitor
      else .perform .pmovsclr
    | .el1 =>
      if s.undefPriority && s.mdcr3TPM then .undefined
      else if s.fgtWrite .PMOVS then .trap .el2
      else if s.el2Enabled && s.mdcr2TPM then .trap .el2
      else if s.haveEL3 && s.mdcr3TPM then s.trapMonitor
      else .perform .pmovsclr
    | .el2 =>
      if s.undefPriority && s.mdcr3TPM then .undefined
      else if s.haveEL3 && s.mdcr3TPM then s.trapMonitor
      else .perform .pmovsclr
    | .el3 => .perform .pmovsclr

/-- `MSR_PMOVSCLR_EL0` (R811). -/
def execMsrPmovsclrEl0 (t : Nat) (s : State) : Outcome := finishWrite (listingMsrPmovsclrEl0 s) t s

/-- `MRS PMOVSSET_EL0`: the listing of R828. -/
def listingMrsPmovssetEl0 (s : State) : Access :=
  if !(s.has .PMUv3 && s.has .AA64) then .undefined
  else
    match s.inp.el with
    | .el0 =>
      if s.undefPriority && s.mdcr3TPM then .undefined
      else if s.userDisabled then s.trapUser
      else if !s.inp.inHostEL0 && s.fgtRead .PMOVS then .trap .el2
      else if s.el2Enabled && s.mdcr2TPM then .trap .el2
      else if s.haveEL3 && s.mdcr3TPM then s.trapMonitor
      else .perform .pmovsset
    | .el1 =>
      if s.undefPriority && s.mdcr3TPM then .undefined
      else if s.fgtRead .PMOVS then .trap .el2
      else if s.el2Enabled && s.mdcr2TPM then .trap .el2
      else if s.haveEL3 && s.mdcr3TPM then s.trapMonitor
      else .perform .pmovsset
    | .el2 =>
      if s.undefPriority && s.mdcr3TPM then .undefined
      else if s.haveEL3 && s.mdcr3TPM then s.trapMonitor
      else .perform .pmovsset
    | .el3 => .perform .pmovsset

/-- `MRS_PMOVSSET_EL0` (R828). -/
def execMrsPmovssetEl0 (t : Nat) (s : State) : Outcome := finishRead (listingMrsPmovssetEl0 s) t s

/-- `MSR PMOVSSET_EL0`: the listing of R829. -/
def listingMsrPmovssetEl0 (s : State) : Access :=
  if !(s.has .PMUv3 && s.has .AA64) then .undefined
  else
    match s.inp.el with
    | .el0 =>
      if s.undefPriority && s.mdcr3TPM then .undefined
      else if s.userDisabled then s.trapUser
      else if !s.inp.inHostEL0 && s.fgtWrite .PMOVS then .trap .el2
      else if s.el2Enabled && s.mdcr2TPM then .trap .el2
      else if s.haveEL3 && s.mdcr3TPM then s.trapMonitor
      else .perform .pmovsset
    | .el1 =>
      if s.undefPriority && s.mdcr3TPM then .undefined
      else if s.fgtWrite .PMOVS then .trap .el2
      else if s.el2Enabled && s.mdcr2TPM then .trap .el2
      else if s.haveEL3 && s.mdcr3TPM then s.trapMonitor
      else .perform .pmovsset
    | .el2 =>
      if s.undefPriority && s.mdcr3TPM then .undefined
      else if s.haveEL3 && s.mdcr3TPM then s.trapMonitor
      else .perform .pmovsset
    | .el3 => .perform .pmovsset

/-- `MSR_PMOVSSET_EL0` (R829). -/
def execMsrPmovssetEl0 (t : Nat) (s : State) : Outcome := finishWrite (listingMsrPmovssetEl0 s) t s

/-- `MRS PMSELR_EL0`: the listing of R834. -/
def listingMrsPmselrEl0 (s : State) : Access :=
  if !(s.has .PMUv3 && s.has .AA64) then .undefined
  else
    match s.inp.el with
    | .el0 =>
      if s.undefPriority && s.mdcr3TPM then .undefined
      else if s.userDisabledBut s.userER then s.trapUser
      else if !s.inp.inHostEL0 && s.fgtRead .PMSELR_EL0 then .trap .el2
      else if s.el2Enabled && s.mdcr2TPM then .trap .el2
      else if s.haveEL3 && s.mdcr3TPM then s.trapMonitor
      else .perform .pmselr
    | .el1 =>
      if s.undefPriority && s.mdcr3TPM then .undefined
      else if s.fgtRead .PMSELR_EL0 then .trap .el2
      else if s.el2Enabled && s.mdcr2TPM then .trap .el2
      else if s.haveEL3 && s.mdcr3TPM then s.trapMonitor
      else .perform .pmselr
    | .el2 =>
      if s.undefPriority && s.mdcr3TPM then .undefined
      else if s.haveEL3 && s.mdcr3TPM then s.trapMonitor
      else .perform .pmselr
    | .el3 => .perform .pmselr

/-- `MRS_PMSELR_EL0` (R834). -/
def execMrsPmselrEl0 (t : Nat) (s : State) : Outcome := finishRead (listingMrsPmselrEl0 s) t s

/-- `MSR PMSELR_EL0`: the listing of R835. -/
def listingMsrPmselrEl0 (s : State) : Access :=
  if !(s.has .PMUv3 && s.has .AA64) then .undefined
  else
    match s.inp.el with
    | .el0 =>
      if s.undefPriority && s.mdcr3TPM then .undefined
      else if s.userDisabledBut s.userER then s.trapUser
      else if !s.inp.inHostEL0 && s.fgtWrite .PMSELR_EL0 then .trap .el2
      else if s.el2Enabled && s.mdcr2TPM then .trap .el2
      else if s.haveEL3 && s.mdcr3TPM then s.trapMonitor
      else .perform .pmselr
    | .el1 =>
      if s.undefPriority && s.mdcr3TPM then .undefined
      else if s.fgtWrite .PMSELR_EL0 then .trap .el2
      else if s.el2Enabled && s.mdcr2TPM then .trap .el2
      else if s.haveEL3 && s.mdcr3TPM then s.trapMonitor
      else .perform .pmselr
    | .el2 =>
      if s.undefPriority && s.mdcr3TPM then .undefined
      else if s.haveEL3 && s.mdcr3TPM then s.trapMonitor
      else .perform .pmselr
    | .el3 => .perform .pmselr

/-- `MSR_PMSELR_EL0` (R835). -/
def execMsrPmselrEl0 (t : Nat) (s : State) : Outcome := finishWrite (listingMsrPmselrEl0 s) t s

/-- `MRS PMSSCR_EL1`: the listing of R847. -/
def listingMrsPmsscrEl1 (s : State) : Access :=
  if !(s.has .PMUv3_SS && s.has .AA64) then .undefined
  else
    match s.inp.el with
    | .el0 => .undefined
    | .el1 =>
      if s.undefPriority && !s.mdcr3EnPMSS then .undefined
      else if s.fgt2Read .nPMSSCR_EL1 then .trap .el2
      else if s.haveEL3 && !s.mdcr3EnPMSS then s.trapMonitor
      else .perform .pmsscr
    | .el2 =>
      if s.undefPriority && !s.mdcr3EnPMSS then .undefined
      else if s.haveEL3 && !s.mdcr3EnPMSS then s.trapMonitor
      else .perform .pmsscr
    | .el3 => .perform .pmsscr

/-- `MRS_PMSSCR_EL1` (R847). -/
def execMrsPmsscrEl1 (t : Nat) (s : State) : Outcome := finishRead (listingMrsPmsscrEl1 s) t s

/-- `MSR PMSSCR_EL1`: the listing of R848. -/
def listingMsrPmsscrEl1 (s : State) : Access :=
  if !(s.has .PMUv3_SS && s.has .AA64) then .undefined
  else
    match s.inp.el with
    | .el0 => .undefined
    | .el1 =>
      if s.undefPriority && !s.mdcr3EnPMSS then .undefined
      else if s.fgt2Write .nPMSSCR_EL1 then .trap .el2
      else if s.haveEL3 && !s.mdcr3EnPMSS then s.trapMonitor
      else .perform .pmsscr
    | .el2 =>
      if s.undefPriority && !s.mdcr3EnPMSS then .undefined
      else if s.haveEL3 && !s.mdcr3EnPMSS then s.trapMonitor
      else .perform .pmsscr
    | .el3 => .perform .pmsscr

/-- `MSR_PMSSCR_EL1` (R848). -/
def execMsrPmsscrEl1 (t : Nat) (s : State) : Outcome := finishWrite (listingMsrPmsscrEl1 s) t s

/-- `MSR PMSWINC_EL0`: the listing of R864. -/
def listingMsrPmswincEl0 (s : State) : Access :=
  if !(s.has .PMUv3 && s.has .AA64) then .undefined
  else
    match s.inp.el with
    | .el0 =>
      if s.undefPriority && s.mdcr3TPM then .undefined
      else if s.userDisabledBut s.userSW then s.trapUser
      else if !s.inp.inHostEL0 && s.fgtWrite .PMSWINC_EL0 then .trap .el2
      else if s.el2Enabled && s.mdcr2TPM then .trap .el2
      else if s.haveEL3 && s.mdcr3TPM then s.trapMonitor
      else .perform .pmswinc
    | .el1 =>
      if s.undefPriority && s.mdcr3TPM then .undefined
      else if s.fgtWrite .PMSWINC_EL0 then .trap .el2
      else if s.el2Enabled && s.mdcr2TPM then .trap .el2
      else if s.haveEL3 && s.mdcr3TPM then s.trapMonitor
      else .perform .pmswinc
    | .el2 =>
      if s.undefPriority && s.mdcr3TPM then .undefined
      else if s.haveEL3 && s.mdcr3TPM then s.trapMonitor
      else .perform .pmswinc
    | .el3 => .perform .pmswinc

/-- `MSR_PMSWINC_EL0` (R864). -/
def execMsrPmswincEl0 (t : Nat) (s : State) : Outcome := finishWrite (listingMsrPmswincEl0 s) t s

/-- `MRS PMUACR_EL1`: the listing of R876. -/
def listingMrsPmuacrEl1 (s : State) : Access :=
  if !(s.has .PMUv3p9 && s.has .AA64) then .undefined
  else
    match s.inp.el with
    | .el0 => .undefined
    | .el1 =>
      if s.undefPriority && !s.mdcr3EnPM2 then .undefined
      else if s.undefPriority && s.mdcr3TPM then .undefined
      else if s.fgt2Read .nPMUACR_EL1 then .trap .el2
      else if s.el2Enabled && s.mdcr2TPM then .trap .el2
      else if s.haveEL3 && !s.mdcr3EnPM2 then s.trapMonitor
      else if s.haveEL3 && s.mdcr3TPM then s.trapMonitor
      else .perform .pmuacr
    | .el2 =>
      if s.undefPriority && !s.mdcr3EnPM2 then .undefined
      else if s.undefPriority && s.mdcr3TPM then .undefined
      else if s.haveEL3 && !s.mdcr3EnPM2 then s.trapMonitor
      else if s.haveEL3 && s.mdcr3TPM then s.trapMonitor
      else .perform .pmuacr
    | .el3 => .perform .pmuacr

/-- `MRS_PMUACR_EL1` (R876). -/
def execMrsPmuacrEl1 (t : Nat) (s : State) : Outcome := finishRead (listingMrsPmuacrEl1 s) t s

/-- `MSR PMUACR_EL1`: the listing of R877. -/
def listingMsrPmuacrEl1 (s : State) : Access :=
  if !(s.has .PMUv3p9 && s.has .AA64) then .undefined
  else
    match s.inp.el with
    | .el0 => .undefined
    | .el1 =>
      if s.undefPriority && !s.mdcr3EnPM2 then .undefined
      else if s.undefPriority && s.mdcr3TPM then .undefined
      else if s.fgt2Write .nPMUACR_EL1 then .trap .el2
      else if s.el2Enabled && s.mdcr2TPM then .trap .el2
      else if s.haveEL3 && !s.mdcr3EnPM2 then s.trapMonitor
      else if s.haveEL3 && s.mdcr3TPM then s.trapMonitor
      else .perform .pmuacr
    | .el2 =>
      if s.undefPriority && !s.mdcr3EnPM2 then .undefined
      else if s.undefPriority && s.mdcr3TPM then .undefined
      else if s.haveEL3 && !s.mdcr3EnPM2 then s.trapMonitor
      else if s.haveEL3 && s.mdcr3TPM then s.trapMonitor
      else .perform .pmuacr
    | .el3 => .perform .pmuacr

/-- `MSR_PMUACR_EL1` (R877). -/
def execMsrPmuacrEl1 (t : Nat) (s : State) : Outcome := finishWrite (listingMsrPmuacrEl1 s) t s

end Sys2Proof.Machine
end

