-- ==== Sys2Proof/Machine/SpmAccess.lean ====
section
/-! DEFINITION. The accesses to the System PMU access, configuration and count enable registers:
the access listings, and one meaning per instruction. -/

namespace Sys2Proof.Machine

/-- `MRS SPMACCESSR_EL1`: the listing of R1014. -/
def listingMrsSpmaccessrEl1 (s : State) : Access :=
  if !(s.has .SPMU && s.has .AA64) then .undefined
  else
    match s.inp.el with
    | .el0 => .undefined
    | .el1 =>
      if s.undefPriority && !s.mdcr3EnPM2 then .undefined
      else if s.fgt2Read .nSPMACCESSR_EL1 then .trap .el2
      else if s.el2Enabled && !s.mdcr2EnSPM then .trap .el2
      else if s.haveEL3 && !s.mdcr3EnPM2 then s.trapMonitor
      else if s.inp.nvx == 7 then .nvmem
      else .perform .spmaccessr1
    | .el2 =>
      if s.undefPriority && !s.mdcr3EnPM2 then .undefined
      else if s.haveEL3 && !s.mdcr3EnPM2 then s.trapMonitor
      else if s.inp.inHostEL2 then .perform .spmaccessr2
      else .perform .spmaccessr1
    | .el3 => .perform .spmaccessr1

/-- `MRS_SPMACCESSR_EL1` (R1014). -/
def execMrsSpmaccessrEl1 (t : Nat) (s : State) : Outcome := finishRead (listingMrsSpmaccessrEl1 s) t s

/-- `MSR SPMACCESSR_EL1`: the listing of R1015. -/
def listingMsrSpmaccessrEl1 (s : State) : Access :=
  if !(s.has .SPMU && s.has .AA64) then .undefined
  else
    match s.inp.el with
    | .el0 => .undefined
    | .el1 =>
      if s.undefPriority && !s.mdcr3EnPM2 then .undefined
      else if s.fgt2Write .nSPMACCESSR_EL1 then .trap .el2
      else if s.el2Enabled && !s.mdcr2EnSPM then .trap .el2
      else if s.haveEL3 && !s.mdcr3EnPM2 then s.trapMonitor
      else if s.inp.nvx == 7 then .nvmem
      else .perform .spmaccessr1
    | .el2 =>
      if s.undefPriority && !s.mdcr3EnPM2 then .undefined
      else if s.haveEL3 && !s.mdcr3EnPM2 then s.trapMonitor
      else if s.inp.inHostEL2 then .perform .spmaccessr2
      else .perform .spmaccessr1
    | .el3 => .perform .spmaccessr1

/-- `MSR_SPMACCESSR_EL1` (R1015). -/
def execMsrSpmaccessrEl1 (t : Nat) (s : State) : Outcome := finishWrite (listingMsrSpmaccessrEl1 s) t s

/-- `MRS SPMACCESSR_EL12`: the listing of R1016. -/
def listingMrsSpmaccessrEl12 (s : State) : Access :=
  if !(s.has .SPMU && s.has .AA64) then .undefined
  else
    match s.inp.el with
    | .el0 => .undefined
    | .el1 =>
      if s.inp.nvx == 5 then .nvmem
      else if s.inp.nvx.getLsbD 0 then .trap .el2
      else .undefined
    | .el2 =>
      if s.inp.inHostEL2 then
        if s.undefPriority && !s.mdcr3EnPM2 then .undefined
        else if s.haveEL3 && !s.mdcr3EnPM2 then s.trapMonitor
        else .perform .spmaccessr1
      else .undefined
    | .el3 =>
      if s.inp.inHostEL2 then .perform .spmaccessr1
      else .undefined

/-- `MRS_SPMACCESSR_EL12` (R1016). -/
def execMrsSpmaccessrEl12 (t : Nat) (s : State) : Outcome := finishRead (listingMrsSpmaccessrEl12 s) t s

/-- `MSR SPMACCESSR_EL12`: the listing of R1017. -/
def listingMsrSpmaccessrEl12 (s : State) : Access :=
  if !(s.has .SPMU && s.has .AA64) then .undefined
  else
    match s.inp.el with
    | .el0 => .undefined
    | .el1 =>
      if s.inp.nvx == 5 then .nvmem
      else if s.inp.nvx.getLsbD 0 then .trap .el2
      else .undefined
    | .el2 =>
      if s.inp.inHostEL2 then
        if s.undefPriority && !s.mdcr3EnPM2 then .undefined
        else if s.haveEL3 && !s.mdcr3EnPM2 then s.trapMonitor
        else .perform .spmaccessr1
      else .undefined
    | .el3 =>
      if s.inp.inHostEL2 then .perform .spmaccessr1
      else .undefined

/-- `MSR_SPMACCESSR_EL12` (R1017). -/
def execMsrSpmaccessrEl12 (t : Nat) (s : State) : Outcome := finishWrite (listingMsrSpmaccessrEl12 s) t s

/-- `MRS SPMACCESSR_EL2`: the listing of R1024. -/
def listingMrsSpmaccessrEl2 (s : State) : Access :=
  if !(s.has .SPMU && s.has .AA64) then .undefined
  else
    match s.inp.el with
    | .el0 => .undefined
    | .el1 =>
      if s.inp.nvx.getLsbD 0 then .trap .el2
      else .undefined
    | .el2 =>
      if s.undefPriority && !s.mdcr3EnPM2 then .undefined
      else if s.haveEL3 && !s.mdcr3EnPM2 then s.trapMonitor
      else .perform .spmaccessr2
    | .el3 => .perform .spmaccessr2

/-- `MRS_SPMACCESSR_EL2` (R1024). -/
def execMrsSpmaccessrEl2 (t : Nat) (s : State) : Outcome := finishRead (listingMrsSpmaccessrEl2 s) t s

/-- `MSR SPMACCESSR_EL2`: the listing of R1025. -/
def listingMsrSpmaccessrEl2 (s : State) : Access :=
  if !(s.has .SPMU && s.has .AA64) then .undefined
  else
    match s.inp.el with
    | .el0 => .undefined
    | .el1 =>
      if s.inp.nvx.getLsbD 0 then .trap .el2
      else .undefined
    | .el2 =>
      if s.undefPriority && !s.mdcr3EnPM2 then .undefined
      else if s.haveEL3 && !s.mdcr3EnPM2 then s.trapMonitor
      else .perform .spmaccessr2
    | .el3 => .perform .spmaccessr2

/-- `MSR_SPMACCESSR_EL2` (R1025). -/
def execMsrSpmaccessrEl2 (t : Nat) (s : State) : Outcome := finishWrite (listingMsrSpmaccessrEl2 s) t s

/-- `MRS SPMACCESSR_EL3`: the listing of R1034. -/
def listingMrsSpmaccessrEl3 (s : State) : Access :=
  if !(s.has .SPMU && s.has .AA64) then .undefined
  else
    match s.inp.el with
    | .el0 => .undefined
    | .el1 => .undefined
    | .el2 => .undefined
    | .el3 => .perform .spmaccessr3

/-- `MRS_SPMACCESSR_EL3` (R1034). -/
def execMrsSpmaccessrEl3 (t : Nat) (s : State) : Outcome := finishRead (listingMrsSpmaccessrEl3 s) t s

/-- `MSR SPMACCESSR_EL3`: the listing of R1035. -/
def listingMsrSpmaccessrEl3 (s : State) : Access :=
  if !(s.has .SPMU && s.has .AA64) then .undefined
  else
    match s.inp.el with
    | .el0 => .undefined
    | .el1 => .undefined
    | .el2 => .undefined
    | .el3 => .perform .spmaccessr3

/-- `MSR_SPMACCESSR_EL3` (R1035). -/
def execMsrSpmaccessrEl3 (t : Nat) (s : State) : Outcome := finishWrite (listingMsrSpmaccessrEl3 s) t s

/-- `MRS SPMCFGR_EL1`: the listing of R1055. -/
def listingMrsSpmcfgrEl1 (s : State) : Access :=
  if !(s.has .SPMU && s.has .AA64) then .undefined
  else
    match s.inp.el with
    | .el0 => .undefined
    | .el1 =>
      if s.undefPriority && !s.mdcr3EnPM2 then .undefined
      else if s.undefPriority && s.spmNoRead s.spm.spmaccessr3 then .undefined
      else if s.fgt2Read .nSPMID then .trap .el2
      else if s.el2Enabled && !s.mdcr2EnSPM then .trap .el2
      else if s.el2Enabled && s.spmNoRead s.spm.spmaccessr2 then .trap .el2
      else if s.haveEL3 && !s.mdcr3EnPM2 then s.trapMonitor
      else if s.haveEL3 && s.spmNoRead s.spm.spmaccessr3 then s.trapMonitor
      else .perform (.spmcfgr s.selectedSpmu)
    | .el2 =>
      if s.undefPriority && !s.mdcr3EnPM2 then .undefined
      else if s.undefPriority && s.spmNoRead s.spm.spmaccessr3 then .undefined
      else if s.haveEL3 && !s.mdcr3EnPM2 then s.trapMonitor
      else if s.haveEL3 && s.spmNoRead s.spm.spmaccessr3 then s.trapMonitor
      else .perform (.spmcfgr s.selectedSpmu)
    | .el3 => .perform (.spmcfgr s.selectedSpmu)

/-- `MRS_SPMCFGR_EL1` (R1055). -/
def execMrsSpmcfgrEl1 (t : Nat) (s : State) : Outcome := finishRead (listingMrsSpmcfgrEl1 s) t s

/-- `MRS SPMCGCR<m>_EL1`: the listing of R1063. -/
def listingMrsSpmcgcrEl1 (m : Nat) (s : State) : Access :=
  if !(s.has .SPMU && s.has .AA64) then .undefined
  else
    match s.inp.el with
    | .el0 => .undefined
    | .el1 =>
      if s.undefPriority && !s.mdcr3EnPM2 then .undefined
      else if s.undefPriority && s.spmNoRead s.spm.spmaccessr3 then .undefined
      else if s.fgt2Read .nSPMID then .trap .el2
      else if s.el2Enabled && !s.mdcr2EnSPM then .trap .el2
      else if s.el2Enabled && s.spmNoRead s.spm.spmaccessr2 then .trap .el2
      else if s.haveEL3 && !s.mdcr3EnPM2 then s.trapMonitor
      else if s.haveEL3 && s.spmNoRead s.spm.spmaccessr3 then s.trapMonitor
      else .perform (.spmcgcr s.selectedSpmu m)
    | .el2 =>
      if s.undefPriority && !s.mdcr3EnPM2 then .undefined
      else if s.undefPriority && s.spmNoRead s.spm.spmaccessr3 then .undefined
      else if s.haveEL3 && !s.mdcr3EnPM2 then s.trapMonitor
      else if s.haveEL3 && s.spmNoRead s.spm.spmaccessr3 then s.trapMonitor
      else .perform (.spmcgcr s.selectedSpmu m)
    | .el3 => .perform (.spmcgcr s.selectedSpmu m)

/-- `MRS_SPMCGCR0_EL1` (R1063). -/
def execMrsSpmcgcr0El1 (t : Nat) (s : State) : Outcome := finishRead (listingMrsSpmcgcrEl1 0 s) t s

/-- `MRS_SPMCGCR1_EL1` (R1063). -/
def execMrsSpmcgcr1El1 (t : Nat) (s : State) : Outcome := finishRead (listingMrsSpmcgcrEl1 1 s) t s

/-- `MRS SPMCNTENCLR_EL0`: the listing of R1108. -/
def listingMrsSpmcntenclrEl0 (s : State) : Access :=
  if !(s.has .SPMU && s.has .AA64) then .undefined
  else
    match s.inp.el with
    | .el0 =>
      if s.undefPriority && !s.mdcr3EnPM2 then .undefined
      else if s.undefPriority && s.spmNoRead s.spm.spmaccessr3 then .undefined
      else if !s.inp.mdscrEnSPM then s.trapUser
      else if !s.inp.inHostEL0 && s.spmNoRead s.spm.spmaccessr1 then s.trapUser
      else if !s.inp.inHostEL0 && s.fgt2Read .nSPMCNTEN then .trap .el2
      else if s.el2Enabled && !s.mdcr2EnSPM then .trap .el2
      else if s.el2Enabled && s.spmNoRead s.spm.spmaccessr2 then .trap .el2
      else if s.haveEL3 && !s.mdcr3EnPM2 then s.trapMonitor
      else if s.haveEL3 && s.spmNoRead s.spm.spmaccessr3 then s.trapMonitor
      else .perform (.spmcntenclr s.selectedSpmu)
    | .el1 =>
      if s.undefPriority && !s.mdcr3EnPM2 then .undefined
      else if s.undefPriority && s.spmNoRead s.spm.spmaccessr3 then .undefined
      else if s.fgt2Read .nSPMCNTEN then .trap .el2
      else if s.el2Enabled && !s.mdcr2EnSPM then .trap .el2
      else if s.el2Enabled && s.spmNoRead s.spm.spmaccessr2 then .trap .el2
      else if s.haveEL3 && !s.mdcr3EnPM2 then s.trapMonitor
      else if s.haveEL3 && s.spmNoRead s.spm.spmaccessr3 then s.trapMonitor
      else .perform (.spmcntenclr s.selectedSpmu)
    | .el2 =>
      if s.undefPriority && !s.mdcr3EnPM2 then .undefined
      else if s.undefPriority && s.spmNoRead s.spm.spmaccessr3 then .undefined
      else if s.haveEL3 && !s.mdcr3EnPM2 then s.trapMonitor
      else if s.haveEL3 && s.spmNoRead s.spm.spmaccessr3 then s.trapMonitor
      else .perform (.spmcntenclr s.selectedSpmu)
    | .el3 => .perform (.spmcntenclr s.selectedSpmu)

/-- `MRS_SPMCNTENCLR_EL0` (R1108). -/
def execMrsSpmcntenclrEl0 (t : Nat) (s : State) : Outcome := finishRead (listingMrsSpmcntenclrEl0 s) t s

/-- `MSR SPMCNTENCLR_EL0`: the listing of R1109. -/
def listingMsrSpmcntenclrEl0 (s : State) : Access :=
  if !(s.has .SPMU && s.has .AA64) then .undefined
  else
    match s.inp.el with
    | .el0 =>
      if s.undefPriority && !s.mdcr3EnPM2 then .undefined
      else if s.undefPriority && s.spmNoWrite s.spm.spmaccessr3 then .undefined
      else if !s.inp.mdscrEnSPM then s.trapUser
      else if !s.inp.inHostEL0 && s.spmNoWrite s.spm.spmaccessr1 then s.trapUser
      else if !s.inp.inHostEL0 && s.fgt2Write .nSPMCNTEN then .trap .el2
      else if s.el2Enabled && !s.mdcr2EnSPM then .trap .el2
      else if s.el2Enabled && s.spmNoWrite s.spm.spmaccessr2 then .trap .el2
      else if s.haveEL3 && !s.mdcr3EnPM2 then s.trapMonitor
      else if s.haveEL3 && s.spmNoWrite s.spm.spmaccessr3 then s.trapMonitor
      else .perform (.spmcntenclr s.selectedSpmu)
    | .el1 =>
      if s.undefPriority && !s.mdcr3EnPM2 then .undefined
      else if s.undefPriority && s.spmNoWrite s.spm.spmaccessr3 then .undefined
      else if s.fgt2Write .nSPMCNTEN then .trap .el2
      else if s.el2Enabled && !s.mdcr2EnSPM then .trap .el2
      else if s.el2Enabled && s.spmNoWrite s.spm.spmaccessr2 then .trap .el2
      else if s.haveEL3 && !s.mdcr3EnPM2 then s.trapMonitor
      else if s.haveEL3 && s.spmNoWrite s.spm.spmaccessr3 then s.trapMonitor
      else .perform (.spmcntenclr s.selectedSpmu)
    | .el2 =>
      if s.undefPriority && !s.mdcr3EnPM2 then .undefined
      else if s.undefPriority && s.spmNoWrite s.spm.spmaccessr3 then .undefined
      else if s.haveEL3 && !s.mdcr3EnPM2 then s.trapMonitor
      else if s.haveEL3 && s.spmNoWrite s.spm.spmaccessr3 then s.trapMonitor
      else .perform (.spmcntenclr s.selectedSpmu)
    | .el3 => .perform (.spmcntenclr s.selectedSpmu)

/-- `MSR_SPMCNTENCLR_EL0` (R1109). -/
def execMsrSpmcntenclrEl0 (t : Nat) (s : State) : Outcome := finishWrite (listingMsrSpmcntenclrEl0 s) t s

/-- `MRS SPMCNTENSET_EL0`: the listing of R1128. -/
def listingMrsSpmcntensetEl0 (s : State) : Access :=
  if !(s.has .SPMU && s.has .AA64) then .undefined
  else
    match s.inp.el with
    | .el0 =>
      if s.undefPriority && !s.mdcr3EnPM2 then .undefined
      else if s.undefPriority && s.spmNoRead s.spm.spmaccessr3 then .undefined
      else if !s.inp.mdscrEnSPM then s.trapUser
      else if !s.inp.inHostEL0 && s.spmNoRead s.spm.spmaccessr1 then s.trapUser
      else if !s.inp.inHostEL0 && s.fgt2Read .nSPMCNTEN then .trap .el2
      else if s.el2Enabled && !s.mdcr2EnSPM then .trap .el2
      else if s.el2Enabled && s.spmNoRead s.spm.spmaccessr2 then .trap .el2
      else if s.haveEL3 && !s.mdcr3EnPM2 then s.trapMonitor
      else if s.haveEL3 && s.spmNoRead s.spm.spmaccessr3 then s.trapMonitor
      else .perform (.spmcntenset s.selectedSpmu)
    | .el1 =>
      if s.undefPriority && !s.mdcr3EnPM2 then .undefined
      else if s.undefPriority && s.spmNoRead s.spm.spmaccessr3 then .undefined
      else if s.fgt2Read .nSPMCNTEN then .trap .el2
      else if s.el2Enabled && !s.mdcr2EnSPM then .trap .el2
      else if s.el2Enabled && s.spmNoRead s.spm.spmaccessr2 then .trap .el2
      else if s.haveEL3 && !s.mdcr3EnPM2 then s.trapMonitor
      else if s.haveEL3 && s.spmNoRead s.spm.spmaccessr3 then s.trapMonitor
      else .perform (.spmcntenset s.selectedSpmu)
    | .el2 =>
      if s.undefPriority && !s.mdcr3EnPM2 then .undefined
      else if s.undefPriority && s.spmNoRead s.spm.spmaccessr3 then .undefined
      else if s.haveEL3 && !s.mdcr3EnPM2 then s.trapMonitor
      else if s.haveEL3 && s.spmNoRead s.spm.spmaccessr3 then s.trapMonitor
      else .perform (.spmcntenset s.selectedSpmu)
    | .el3 => .perform (.spmcntenset s.selectedSpmu)

/-- `MRS_SPMCNTENSET_EL0` (R1128). -/
def execMrsSpmcntensetEl0 (t : Nat) (s : State) : Outcome := finishRead (listingMrsSpmcntensetEl0 s) t s

/-- `MSR SPMCNTENSET_EL0`: the listing of R1129. -/
def listingMsrSpmcntensetEl0 (s : State) : Access :=
  if !(s.has .SPMU && s.has .AA64) then .undefined
  else
    match s.inp.el with
    | .el0 =>
      if s.undefPriority && !s.mdcr3EnPM2 then .undefined
      else if s.undefPriority && s.spmNoWrite s.spm.spmaccessr3 then .undefined
      else if !s.inp.mdscrEnSPM then s.trapUser
      else if !s.inp.inHostEL0 && s.spmNoWrite s.spm.spmaccessr1 then s.trapUser
      else if !s.inp.inHostEL0 && s.fgt2Write .nSPMCNTEN then .trap .el2
      else if s.el2Enabled && !s.mdcr2EnSPM then .trap .el2
      else if s.el2Enabled && s.spmNoWrite s.spm.spmaccessr2 then .trap .el2
      else if s.haveEL3 && !s.mdcr3EnPM2 then s.trapMonitor
      else if s.haveEL3 && s.spmNoWrite s.spm.spmaccessr3 then s.trapMonitor
      else .perform (.spmcntenset s.selectedSpmu)
    | .el1 =>
      if s.undefPriority && !s.mdcr3EnPM2 then .undefined
      else if s.undefPriority && s.spmNoWrite s.spm.spmaccessr3 then .undefined
      else if s.fgt2Write .nSPMCNTEN then .trap .el2
      else if s.el2Enabled && !s.mdcr2EnSPM then .trap .el2
      else if s.el2Enabled && s.spmNoWrite s.spm.spmaccessr2 then .trap .el2
      else if s.haveEL3 && !s.mdcr3EnPM2 then s.trapMonitor
      else if s.haveEL3 && s.spmNoWrite s.spm.spmaccessr3 then s.trapMonitor
      else .perform (.spmcntenset s.selectedSpmu)
    | .el2 =>
      if s.undefPriority && !s.mdcr3EnPM2 then .undefined
      else if s.undefPriority && s.spmNoWrite s.spm.spmaccessr3 then .undefined
      else if s.haveEL3 && !s.mdcr3EnPM2 then s.trapMonitor
      else if s.haveEL3 && s.spmNoWrite s.spm.spmaccessr3 then s.trapMonitor
      else .perform (.spmcntenset s.selectedSpmu)
    | .el3 => .perform (.spmcntenset s.selectedSpmu)

/-- `MSR_SPMCNTENSET_EL0` (R1129). -/
def execMsrSpmcntensetEl0 (t : Nat) (s : State) : Outcome := finishWrite (listingMsrSpmcntensetEl0 s) t s

/-- `MRS SPMCR_EL0`: the listing of R1158. -/
def listingMrsSpmcrEl0 (s : State) : Access :=
  if !(s.has .SPMU && s.has .AA64) then .undefined
  else
    match s.inp.el with
    | .el0 =>
      if s.undefPriority && !s.mdcr3EnPM2 then .undefined
      else if s.undefPriority && s.spmNoRead s.spm.spmaccessr3 then .undefined
      else if !s.inp.mdscrEnSPM then s.trapUser
      else if !s.inp.inHostEL0 && s.spmNoRead s.spm.spmaccessr1 then s.trapUser
      else if !s.inp.inHostEL0 && s.fgt2Read .nSPMCR_EL0 then .trap .el2
      else if s.el2Enabled && !s.mdcr2EnSPM then .trap .el2
      else if s.el2Enabled && s.spmNoRead s.spm.spmaccessr2 then .trap .el2
      else if s.haveEL3 && !s.mdcr3EnPM2 then s.trapMonitor
      else if s.haveEL3 && s.spmNoRead s.spm.spmaccessr3 then s.trapMonitor
      else .perform (.spmcr s.selectedSpmu)
    | .el1 =>
      if s.undefPriority && !s.mdcr3EnPM2 then .undefined
      else if s.undefPriority && s.spmNoRead s.spm.spmaccessr3 then .undefined
      else if s.fgt2Read .nSPMCR_EL0 then .trap .el2
      else if s.el2Enabled && !s.mdcr2EnSPM then .trap .el2
      else if s.el2Enabled && s.spmNoRead s.spm.spmaccessr2 then .trap .el2
      else if s.haveEL3 && !s.mdcr3EnPM2 then s.trapMonitor
      else if s.haveEL3 && s.spmNoRead s.spm.spmaccessr3 then s.trapMonitor
      else .perform (.spmcr s.selectedSpmu)
    | .el2 =>
      if s.undefPriority && !s.mdcr3EnPM2 then .undefined
      else if s.undefPriority && s.spmNoRead s.spm.spmaccessr3 then .undefined
      else if s.haveEL3 && !s.mdcr3EnPM2 then s.trapMonitor
      else if s.haveEL3 && s.spmNoRead s.spm.spmaccessr3 then s.trapMonitor
      else .perform (.spmcr s.selectedSpmu)
    | .el3 => .perform (.spmcr s.selectedSpmu)

/-- `MRS_SPMCR_EL0` (R1158). -/
def execMrsSpmcrEl0 (t : Nat) (s : State) : Outcome := finishRead (listingMrsSpmcrEl0 s) t s

/-- `MSR SPMCR_EL0`: the listing of R1159. -/
def listingMsrSpmcrEl0 (s : State) : Access :=
  if !(s.has .SPMU && s.has .AA64) then .undefined
  else
    match s.inp.el with
    | .el0 =>
      if s.undefPriority && !s.mdcr3EnPM2 then .undefined
      else if s.undefPriority && s.spmNoWrite s.spm.spmaccessr3 then .undefined
      else if !s.inp.mdscrEnSPM then s.trapUser
      else if !s.inp.inHostEL0 && s.spmNoWrite s.spm.spmaccessr1 then s.trapUser
      else if !s.inp.inHostEL0 && s.fgt2Write .nSPMCR_EL0 then .trap .el2
      else if s.el2Enabled && !s.mdcr2EnSPM then .trap .el2
      else if s.el2Enabled && s.spmNoWrite s.spm.spmaccessr2 then .trap .el2
      else if s.haveEL3 && !s.mdcr3EnPM2 then s.trapMonitor
      else if s.haveEL3 && s.spmNoWrite s.spm.spmaccessr3 then s.trapMonitor
      else .perform (.spmcr s.selectedSpmu)
    | .el1 =>
      if s.undefPriority && !s.mdcr3EnPM2 then .undefined
      else if s.undefPriority && s.spmNoWrite s.spm.spmaccessr3 then .undefined
      else if s.fgt2Write .nSPMCR_EL0 then .trap .el2
      else if s.el2Enabled && !s.mdcr2EnSPM then .trap .el2
      else if s.el2Enabled && s.spmNoWrite s.spm.spmaccessr2 then .trap .el2
      else if s.haveEL3 && !s.mdcr3EnPM2 then s.trapMonitor
      else if s.haveEL3 && s.spmNoWrite s.spm.spmaccessr3 then s.trapMonitor
      else .perform (.spmcr s.selectedSpmu)
    | .el2 =>
      if s.undefPriority && !s.mdcr3EnPM2 then .undefined
      else if s.undefPriority && s.spmNoWrite s.spm.spmaccessr3 then .undefined
      else if s.haveEL3 && !s.mdcr3EnPM2 then s.trapMonitor
      else if s.haveEL3 && s.spmNoWrite s.spm.spmaccessr3 then s.trapMonitor
      else .perform (.spmcr s.selectedSpmu)
    | .el3 => .perform (.spmcr s.selectedSpmu)

/-- `MSR_SPMCR_EL0` (R1159). -/
def execMsrSpmcrEl0 (t : Nat) (s : State) : Outcome := finishWrite (listingMsrSpmcrEl0 s) t s

end Sys2Proof.Machine
end

