-- ==== Sys2Proof/Machine/SpmControl.lean ====
section
/-! DEFINITION. The accesses to the System PMU interrupt enable, overflow, root, secure and select registers:
the access listings, and one meaning per instruction. -/

namespace Sys2Proof.Machine

/-- `MRS SPMINTENCLR_EL1`: the listing of R1308. -/
def listingMrsSpmintenclrEl1 (s : State) : Access :=
  if !(s.has .SPMU && s.has .AA64) then .undefined
  else
    match s.inp.el with
    | .el0 => .undefined
    | .el1 =>
      if s.undefPriority && !s.mdcr3EnPM2 then .undefined
      else if s.undefPriority && s.spmNoRead s.spm.spmaccessr3 then .undefined
      else if s.fgt2Read .nSPMINTEN then .trap .el2
      else if s.el2Enabled && !s.mdcr2EnSPM then .trap .el2
      else if s.el2Enabled && s.spmNoRead s.spm.spmaccessr2 then .trap .el2
      else if s.haveEL3 && !s.mdcr3EnPM2 then s.trapMonitor
      else if s.haveEL3 && s.spmNoRead s.spm.spmaccessr3 then s.trapMonitor
      else .perform (.spmintenclr s.selectedSpmu)
    | .el2 =>
      if s.undefPriority && !s.mdcr3EnPM2 then .undefined
      else if s.undefPriority && s.spmNoRead s.spm.spmaccessr3 then .undefined
      else if s.haveEL3 && !s.mdcr3EnPM2 then s.trapMonitor
      else if s.haveEL3 && s.spmNoRead s.spm.spmaccessr3 then s.trapMonitor
      else .perform (.spmintenclr s.selectedSpmu)
    | .el3 => .perform (.spmintenclr s.selectedSpmu)

/-- `MRS_SPMINTENCLR_EL1` (R1308). -/
def execMrsSpmintenclrEl1 (t : Nat) (s : State) : Outcome := finishRead (listingMrsSpmintenclrEl1 s) t s

/-- `MSR SPMINTENCLR_EL1`: the listing of R1309. -/
def listingMsrSpmintenclrEl1 (s : State) : Access :=
  if !(s.has .SPMU && s.has .AA64) then .undefined
  else
    match s.inp.el with
    | .el0 => .undefined
    | .el1 =>
      if s.undefPriority && !s.mdcr3EnPM2 then .undefined
      else if s.undefPriority && s.spmNoWrite s.spm.spmaccessr3 then .undefined
      else if s.fgt2Write .nSPMINTEN then .trap .el2
      else if s.el2Enabled && !s.mdcr2EnSPM then .trap .el2
      else if s.el2Enabled && s.spmNoWrite s.spm.spmaccessr2 then .trap .el2
      else if s.haveEL3 && !s.mdcr3EnPM2 then s.trapMonitor
      else if s.haveEL3 && s.spmNoWrite s.spm.spmaccessr3 then s.trapMonitor
      else .perform (.spmintenclr s.selectedSpmu)
    | .el2 =>
      if s.undefPriority && !s.mdcr3EnPM2 then .undefined
      else if s.undefPriority && s.spmNoWrite s.spm.spmaccessr3 then .undefined
      else if s.haveEL3 && !s.mdcr3EnPM2 then s.trapMonitor
      else if s.haveEL3 && s.spmNoWrite s.spm.spmaccessr3 then s.trapMonitor
      else .perform (.spmintenclr s.selectedSpmu)
    | .el3 => .perform (.spmintenclr s.selectedSpmu)

/-- `MSR_SPMINTENCLR_EL1` (R1309). -/
def execMsrSpmintenclrEl1 (t : Nat) (s : State) : Outcome := finishWrite (listingMsrSpmintenclrEl1 s) t s

/-- `MRS SPMINTENSET_EL1`: the listing of R1328. -/
def listingMrsSpmintensetEl1 (s : State) : Access :=
  if !(s.has .SPMU && s.has .AA64) then .undefined
  else
    match s.inp.el with
    | .el0 => .undefined
    | .el1 =>
      if s.undefPriority && !s.mdcr3EnPM2 then .undefined
      else if s.undefPriority && s.spmNoRead s.spm.spmaccessr3 then .undefined
      else if s.fgt2Read .nSPMINTEN then .trap .el2
      else if s.el2Enabled && !s.mdcr2EnSPM then .trap .el2
      else if s.el2Enabled && s.spmNoRead s.spm.spmaccessr2 then .trap .el2
      else if s.haveEL3 && !s.mdcr3EnPM2 then s.trapMonitor
      else if s.haveEL3 && s.spmNoRead s.spm.spmaccessr3 then s.trapMonitor
      else .perform (.spmintenset s.selectedSpmu)
    | .el2 =>
      if s.undefPriority && !s.mdcr3EnPM2 then .undefined
      else if s.undefPriority && s.spmNoRead s.spm.spmaccessr3 then .undefined
      else if s.haveEL3 && !s.mdcr3EnPM2 then s.trapMonitor
      else if s.haveEL3 && s.spmNoRead s.spm.spmaccessr3 then s.trapMonitor
      else .perform (.spmintenset s.selectedSpmu)
    | .el3 => .perform (.spmintenset s.selectedSpmu)

/-- `MRS_SPMINTENSET_EL1` (R1328). -/
def execMrsSpmintensetEl1 (t : Nat) (s : State) : Outcome := finishRead (listingMrsSpmintensetEl1 s) t s

/-- `MSR SPMINTENSET_EL1`: the listing of R1329. -/
def listingMsrSpmintensetEl1 (s : State) : Access :=
  if !(s.has .SPMU && s.has .AA64) then .undefined
  else
    match s.inp.el with
    | .el0 => .undefined
    | .el1 =>
      if s.undefPriority && !s.mdcr3EnPM2 then .undefined
      else if s.undefPriority && s.spmNoWrite s.spm.spmaccessr3 then .undefined
      else if s.fgt2Write .nSPMINTEN then .trap .el2
      else if s.el2Enabled && !s.mdcr2EnSPM then .trap .el2
      else if s.el2Enabled && s.spmNoWrite s.spm.spmaccessr2 then .trap .el2
      else if s.haveEL3 && !s.mdcr3EnPM2 then s.trapMonitor
      else if s.haveEL3 && s.spmNoWrite s.spm.spmaccessr3 then s.trapMonitor
      else .perform (.spmintenset s.selectedSpmu)
    | .el2 =>
      if s.undefPriority && !s.mdcr3EnPM2 then .undefined
      else if s.undefPriority && s.spmNoWrite s.spm.spmaccessr3 then .undefined
      else if s.haveEL3 && !s.mdcr3EnPM2 then s.trapMonitor
      else if s.haveEL3 && s.spmNoWrite s.spm.spmaccessr3 then s.trapMonitor
      else .perform (.spmintenset s.selectedSpmu)
    | .el3 => .perform (.spmintenset s.selectedSpmu)

/-- `MSR_SPMINTENSET_EL1` (R1329). -/
def execMsrSpmintensetEl1 (t : Nat) (s : State) : Outcome := finishWrite (listingMsrSpmintensetEl1 s) t s

/-- `MRS SPMOVSCLR_EL0`: the listing of R1348. -/
def listingMrsSpmovsclrEl0 (s : State) : Access :=
  if !(s.has .SPMU && s.has .AA64) then .undefined
  else
    match s.inp.el with
    | .el0 =>
      if s.undefPriority && !s.mdcr3EnPM2 then .undefined
      else if s.undefPriority && s.spmNoRead s.spm.spmaccessr3 then .undefined
      else if !s.inp.mdscrEnSPM then s.trapUser
      else if !s.inp.inHostEL0 && s.spmNoRead s.spm.spmaccessr1 then s.trapUser
      else if !s.inp.inHostEL0 && s.fgt2Read .nSPMOVS then .trap .el2
      else if s.el2Enabled && !s.mdcr2EnSPM then .trap .el2
      else if s.el2Enabled && s.spmNoRead s.spm.spmaccessr2 then .trap .el2
      else if s.haveEL3 && !s.mdcr3EnPM2 then s.trapMonitor
      else if s.haveEL3 && s.spmNoRead s.spm.spmaccessr3 then s.trapMonitor
      else .perform (.spmovsclr s.selectedSpmu)
    | .el1 =>
      if s.undefPriority && !s.mdcr3EnPM2 then .undefined
      else if s.undefPriority && s.spmNoRead s.spm.spmaccessr3 then .undefined
      else if s.fgt2Read .nSPMOVS then .trap .el2
      else if s.el2Enabled && !s.mdcr2EnSPM then .trap .el2
      else if s.el2Enabled && s.spmNoRead s.spm.spmaccessr2 then .trap .el2
      else if s.haveEL3 && !s.mdcr3EnPM2 then s.trapMonitor
      else if s.haveEL3 && s.spmNoRead s.spm.spmaccessr3 then s.trapMonitor
      else .perform (.spmovsclr s.selectedSpmu)
    | .el2 =>
      if s.undefPriority && !s.mdcr3EnPM2 then .undefined
      else if s.undefPriority && s.spmNoRead s.spm.spmaccessr3 then .undefined
      else if s.haveEL3 && !s.mdcr3EnPM2 then s.trapMonitor
      else if s.haveEL3 && s.spmNoRead s.spm.spmaccessr3 then s.trapMonitor
      else .perform (.spmovsclr s.selectedSpmu)
    | .el3 => .perform (.spmovsclr s.selectedSpmu)

/-- `MRS_SPMOVSCLR_EL0` (R1348). -/
def execMrsSpmovsclrEl0 (t : Nat) (s : State) : Outcome := finishRead (listingMrsSpmovsclrEl0 s) t s

/-- `MSR SPMOVSCLR_EL0`: the listing of R1349. -/
def listingMsrSpmovsclrEl0 (s : State) : Access :=
  if !(s.has .SPMU && s.has .AA64) then .undefined
  else
    match s.inp.el with
    | .el0 =>
      if s.undefPriority && !s.mdcr3EnPM2 then .undefined
      else if s.undefPriority && s.spmNoWrite s.spm.spmaccessr3 then .undefined
      else if !s.inp.mdscrEnSPM then s.trapUser
      else if !s.inp.inHostEL0 && s.spmNoWrite s.spm.spmaccessr1 then s.trapUser
      else if !s.inp.inHostEL0 && s.fgt2Write .nSPMOVS then .trap .el2
      else if s.el2Enabled && !s.mdcr2EnSPM then .trap .el2
      else if s.el2Enabled && s.spmNoWrite s.spm.spmaccessr2 then .trap .el2
      else if s.haveEL3 && !s.mdcr3EnPM2 then s.trapMonitor
      else if s.haveEL3 && s.spmNoWrite s.spm.spmaccessr3 then s.trapMonitor
      else .perform (.spmovsclr s.selectedSpmu)
    | .el1 =>
      if s.undefPriority && !s.mdcr3EnPM2 then .undefined
      else if s.undefPriority && s.spmNoWrite s.spm.spmaccessr3 then .undefined
      else if s.fgt2Write .nSPMOVS then .trap .el2
      else if s.el2Enabled && !s.mdcr2EnSPM then .trap .el2
      else if s.el2Enabled && s.spmNoWrite s.spm.spmaccessr2 then .trap .el2
      else if s.haveEL3 && !s.mdcr3EnPM2 then s.trapMonitor
      else if s.haveEL3 && s.spmNoWrite s.spm.spmaccessr3 then s.trapMonitor
      else .perform (.spmovsclr s.selectedSpmu)
    | .el2 =>
      if s.undefPriority && !s.mdcr3EnPM2 then .undefined
      else if s.undefPriority && s.spmNoWrite s.spm.spmaccessr3 then .undefined
      else if s.haveEL3 && !s.mdcr3EnPM2 then s.trapMonitor
      else if s.haveEL3 && s.spmNoWrite s.spm.spmaccessr3 then s.trapMonitor
      else .perform (.spmovsclr s.selectedSpmu)
    | .el3 => .perform (.spmovsclr s.selectedSpmu)

/-- `MSR_SPMOVSCLR_EL0` (R1349). -/
def execMsrSpmovsclrEl0 (t : Nat) (s : State) : Outcome := finishWrite (listingMsrSpmovsclrEl0 s) t s

/-- `MRS SPMOVSSET_EL0`: the listing of R1368. -/
def listingMrsSpmovssetEl0 (s : State) : Access :=
  if !(s.has .SPMU && s.has .AA64) then .undefined
  else
    match s.inp.el with
    | .el0 =>
      if s.undefPriority && !s.mdcr3EnPM2 then .undefined
      else if s.undefPriority && s.spmNoRead s.spm.spmaccessr3 then .undefined
      else if !s.inp.mdscrEnSPM then s.trapUser
      else if !s.inp.inHostEL0 && s.spmNoRead s.spm.spmaccessr1 then s.trapUser
      else if !s.inp.inHostEL0 && s.fgt2Read .nSPMOVS then .trap .el2
      else if s.el2Enabled && !s.mdcr2EnSPM then .trap .el2
      else if s.el2Enabled && s.spmNoRead s.spm.spmaccessr2 then .trap .el2
      else if s.haveEL3 && !s.mdcr3EnPM2 then s.trapMonitor
      else if s.haveEL3 && s.spmNoRead s.spm.spmaccessr3 then s.trapMonitor
      else .perform (.spmovsset s.selectedSpmu)
    | .el1 =>
      if s.undefPriority && !s.mdcr3EnPM2 then .undefined
      else if s.undefPriority && s.spmNoRead s.spm.spmaccessr3 then .undefined
      else if s.fgt2Read .nSPMOVS then .trap .el2
      else if s.el2Enabled && !s.mdcr2EnSPM then .trap .el2
      else if s.el2Enabled && s.spmNoRead s.spm.spmaccessr2 then .trap .el2
      else if s.haveEL3 && !s.mdcr3EnPM2 then s.trapMonitor
      else if s.haveEL3 && s.spmNoRead s.spm.spmaccessr3 then s.trapMonitor
      else .perform (.spmovsset s.selectedSpmu)
    | .el2 =>
      if s.undefPriority && !s.mdcr3EnPM2 then .undefined
      else if s.undefPriority && s.spmNoRead s.spm.spmaccessr3 then .undefined
      else if s.haveEL3 && !s.mdcr3EnPM2 then s.trapMonitor
      else if s.haveEL3 && s.spmNoRead s.spm.spmaccessr3 then s.trapMonitor
      else .perform (.spmovsset s.selectedSpmu)
    | .el3 => .perform (.spmovsset s.selectedSpmu)

/-- `MRS_SPMOVSSET_EL0` (R1368). -/
def execMrsSpmovssetEl0 (t : Nat) (s : State) : Outcome := finishRead (listingMrsSpmovssetEl0 s) t s

/-- `MSR SPMOVSSET_EL0`: the listing of R1369. -/
def listingMsrSpmovssetEl0 (s : State) : Access :=
  if !(s.has .SPMU && s.has .AA64) then .undefined
  else
    match s.inp.el with
    | .el0 =>
      if s.undefPriority && !s.mdcr3EnPM2 then .undefined
      else if s.undefPriority && s.spmNoWrite s.spm.spmaccessr3 then .undefined
      else if !s.inp.mdscrEnSPM then s.trapUser
      else if !s.inp.inHostEL0 && s.spmNoWrite s.spm.spmaccessr1 then s.trapUser
      else if !s.inp.inHostEL0 && s.fgt2Write .nSPMOVS then .trap .el2
      else if s.el2Enabled && !s.mdcr2EnSPM then .trap .el2
      else if s.el2Enabled && s.spmNoWrite s.spm.spmaccessr2 then .trap .el2
      else if s.haveEL3 && !s.mdcr3EnPM2 then s.trapMonitor
      else if s.haveEL3 && s.spmNoWrite s.spm.spmaccessr3 then s.trapMonitor
      else .perform (.spmovsset s.selectedSpmu)
    | .el1 =>
      if s.undefPriority && !s.mdcr3EnPM2 then .undefined
      else if s.undefPriority && s.spmNoWrite s.spm.spmaccessr3 then .undefined
      else if s.fgt2Write .nSPMOVS then .trap .el2
      else if s.el2Enabled && !s.mdcr2EnSPM then .trap .el2
      else if s.el2Enabled && s.spmNoWrite s.spm.spmaccessr2 then .trap .el2
      else if s.haveEL3 && !s.mdcr3EnPM2 then s.trapMonitor
      else if s.haveEL3 && s.spmNoWrite s.spm.spmaccessr3 then s.trapMonitor
      else .perform (.spmovsset s.selectedSpmu)
    | .el2 =>
      if s.undefPriority && !s.mdcr3EnPM2 then .undefined
      else if s.undefPriority && s.spmNoWrite s.spm.spmaccessr3 then .undefined
      else if s.haveEL3 && !s.mdcr3EnPM2 then s.trapMonitor
      else if s.haveEL3 && s.spmNoWrite s.spm.spmaccessr3 then s.trapMonitor
      else .perform (.spmovsset s.selectedSpmu)
    | .el3 => .perform (.spmovsset s.selectedSpmu)

/-- `MSR_SPMOVSSET_EL0` (R1369). -/
def execMsrSpmovssetEl0 (t : Nat) (s : State) : Outcome := finishWrite (listingMsrSpmovssetEl0 s) t s

/-- `MRS SPMROOTCR_EL3`: the listing of R1420. -/
def listingMrsSpmrootcrEl3 (s : State) : Access :=
  if !(s.has .RME && s.has .SPMU && s.has .AA64) then .undefined
  else
    match s.inp.el with
    | .el0 => .undefined
    | .el1 => .undefined
    | .el2 => .undefined
    | .el3 => .perform (.spmrootcr s.selectedSpmu)

/-- `MRS_SPMROOTCR_EL3` (R1420). -/
def execMrsSpmrootcrEl3 (t : Nat) (s : State) : Outcome := finishRead (listingMrsSpmrootcrEl3 s) t s

/-- `MSR SPMROOTCR_EL3`: the listing of R1421. -/
def listingMsrSpmrootcrEl3 (s : State) : Access :=
  if !(s.has .RME && s.has .SPMU && s.has .AA64) then .undefined
  else
    match s.inp.el with
    | .el0 => .undefined
    | .el1 => .undefined
    | .el2 => .undefined
    | .el3 =>
      if s.has .FGWTE3 && s.inp.fgwte3Spmrootcr then .trap .el3
      else .perform (.spmrootcr s.selectedSpmu)

/-- `MSR_SPMROOTCR_EL3` (R1421). -/
def execMsrSpmrootcrEl3 (t : Nat) (s : State) : Outcome := finishWrite (listingMsrSpmrootcrEl3 s) t s

/-- `MRS SPMSCR_EL1`: the listing of R1440. -/
def listingMrsSpmscrEl1 (s : State) : Access :=
  if !(s.cfg.haveSecureEL1 && s.has .SPMU && s.has .AA64) then .undefined
  else if s.inp.ss == .nonSecure || (s.has .RME && s.inp.ss == .realm) then .undefined
  else
    match s.inp.el with
    | .el0 => .undefined
    | .el1 =>
      if s.undefPriority && !s.mdcr3EnPM2 then .undefined
      else if s.undefPriority && s.spmNoRead s.spm.spmaccessr3 then .undefined
      else if s.fgt2Read .nSPMSCR_EL1 then .trap .el2
      else if s.el2Enabled && !s.mdcr2EnSPM then .trap .el2
      else if s.el2Enabled && s.spmNoRead s.spm.spmaccessr2 then .trap .el2
      else if s.haveEL3 && !s.mdcr3EnPM2 then s.trapMonitor
      else if s.haveEL3 && s.spmNoRead s.spm.spmaccessr3 then s.trapMonitor
      else .perform (.spmscr s.selectedSpmu)
    | .el2 =>
      if s.undefPriority && !s.mdcr3EnPM2 then .undefined
      else if s.undefPriority && s.spmNoRead s.spm.spmaccessr3 then .undefined
      else if s.haveEL3 && !s.mdcr3EnPM2 then s.trapMonitor
      else if s.haveEL3 && s.spmNoRead s.spm.spmaccessr3 then s.trapMonitor
      else .perform (.spmscr s.selectedSpmu)
    | .el3 => .perform (.spmscr s.selectedSpmu)

/-- `MRS_SPMSCR_EL1` (R1440). -/
def execMrsSpmscrEl1 (t : Nat) (s : State) : Outcome := finishRead (listingMrsSpmscrEl1 s) t s

/-- `MSR SPMSCR_EL1`: the listing of R1441. -/
def listingMsrSpmscrEl1 (s : State) : Access :=
  if !(s.cfg.haveSecureEL1 && s.has .SPMU && s.has .AA64) then .undefined
  else if s.inp.ss == .nonSecure || (s.has .RME && s.inp.ss == .realm) then .undefined
  else
    match s.inp.el with
    | .el0 => .undefined
    | .el1 =>
      if s.undefPriority && !s.mdcr3EnPM2 then .undefined
      else if s.undefPriority && s.spmNoWrite s.spm.spmaccessr3 then .undefined
      else if s.fgt2Write .nSPMSCR_EL1 then .trap .el2
      else if s.el2Enabled && !s.mdcr2EnSPM then .trap .el2
      else if s.el2Enabled && s.spmNoWrite s.spm.spmaccessr2 then .trap .el2
      else if s.haveEL3 && !s.mdcr3EnPM2 then s.trapMonitor
      else if s.haveEL3 && s.spmNoWrite s.spm.spmaccessr3 then s.trapMonitor
      else .perform (.spmscr s.selectedSpmu)
    | .el2 =>
      if s.undefPriority && !s.mdcr3EnPM2 then .undefined
      else if s.undefPriority && s.spmNoWrite s.spm.spmaccessr3 then .undefined
      else if s.haveEL3 && !s.mdcr3EnPM2 then s.trapMonitor
      else if s.haveEL3 && s.spmNoWrite s.spm.spmaccessr3 then s.trapMonitor
      else .perform (.spmscr s.selectedSpmu)
    | .el3 => .perform (.spmscr s.selectedSpmu)

/-- `MSR_SPMSCR_EL1` (R1441). -/
def execMsrSpmscrEl1 (t : Nat) (s : State) : Outcome := finishWrite (listingMsrSpmscrEl1 s) t s

/-- `MRS SPMSELR_EL0`: the listing of R1468. -/
def listingMrsSpmselrEl0 (s : State) : Access :=
  if !(s.has .SPMU && s.has .AA64) then .undefined
  else
    match s.inp.el with
    | .el0 =>
      if s.undefPriority && !s.mdcr3EnPM2 then .undefined
      else if !s.inp.mdscrEnSPM then s.trapUser
      else if !s.inp.inHostEL0 && s.fgt2Read .nSPMSELR_EL0 then .trap .el2
      else if s.el2Enabled && !s.mdcr2EnSPM then .trap .el2
      else if s.haveEL3 && !s.mdcr3EnPM2 then s.trapMonitor
      else .perform .spmselr
    | .el1 =>
      if s.undefPriority && !s.mdcr3EnPM2 then .undefined
      else if s.fgt2Read .nSPMSELR_EL0 then .trap .el2
      else if s.el2Enabled && !s.mdcr2EnSPM then .trap .el2
      else if s.haveEL3 && !s.mdcr3EnPM2 then s.trapMonitor
      else .perform .spmselr
    | .el2 =>
      if s.undefPriority && !s.mdcr3EnPM2 then .undefined
      else if s.haveEL3 && !s.mdcr3EnPM2 then s.trapMonitor
      else .perform .spmselr
    | .el3 => .perform .spmselr

/-- `MRS_SPMSELR_EL0` (R1468). -/
def execMrsSpmselrEl0 (t : Nat) (s : State) : Outcome := finishRead (listingMrsSpmselrEl0 s) t s

/-- `MSR SPMSELR_EL0`: the listing of R1469. -/
def listingMsrSpmselrEl0 (s : State) : Access :=
  if !(s.has .SPMU && s.has .AA64) then .undefined
  else
    match s.inp.el with
    | .el0 =>
      if s.undefPriority && !s.mdcr3EnPM2 then .undefined
      else if !s.inp.mdscrEnSPM then s.trapUser
      else if !s.inp.inHostEL0 && s.fgt2Write .nSPMSELR_EL0 then .trap .el2
      else if s.el2Enabled && !s.mdcr2EnSPM then .trap .el2
      else if s.haveEL3 && !s.mdcr3EnPM2 then s.trapMonitor
      else .perform .spmselr
    | .el1 =>
      if s.undefPriority && !s.mdcr3EnPM2 then .undefined
      else if s.fgt2Write .nSPMSELR_EL0 then .trap .el2
      else if s.el2Enabled && !s.mdcr2EnSPM then .trap .el2
      else if s.haveEL3 && !s.mdcr3EnPM2 then s.trapMonitor
      else .perform .spmselr
    | .el2 =>
      if s.undefPriority && !s.mdcr3EnPM2 then .undefined
      else if s.haveEL3 && !s.mdcr3EnPM2 then s.trapMonitor
      else .perform .spmselr
    | .el3 => .perform .spmselr

/-- `MSR_SPMSELR_EL0` (R1469). -/
def execMsrSpmselrEl0 (t : Nat) (s : State) : Outcome := finishWrite (listingMsrSpmselrEl0 s) t s

/-- `MSR SPMZR_EL0`: the listing of R1476. -/
def listingMsrSpmzrEl0 (s : State) : Access :=
  if !(s.has .SPMU2 && s.has .AA64) then .undefined
  else
    match s.inp.el with
    | .el0 =>
      if s.undefPriority && !s.mdcr3EnPM2 then .undefined
      else if s.undefPriority && s.spmNoWrite s.spm.spmaccessr3 then .undefined
      else if !s.inp.mdscrEnSPM then s.trapUser
      else if !s.inp.inHostEL0 && s.spmNoWrite s.spm.spmaccessr1 then s.trapUser
      else if !s.inp.inHostEL0 && s.fgt2Write .nSPMEVCNTRn_EL0 then .trap .el2
      else if s.el2Enabled && !s.mdcr2EnSPM then .trap .el2
      else if s.el2Enabled && s.spmNoWrite s.spm.spmaccessr2 then .trap .el2
      else if s.haveEL3 && !s.mdcr3EnPM2 then s.trapMonitor
      else if s.haveEL3 && s.spmNoWrite s.spm.spmaccessr3 then s.trapMonitor
      else .perform (.spmzr s.selectedSpmu)
    | .el1 =>
      if s.undefPriority && !s.mdcr3EnPM2 then .undefined
      else if s.undefPriority && s.spmNoWrite s.spm.spmaccessr3 then .undefined
      else if s.fgt2Write .nSPMEVCNTRn_EL0 then .trap .el2
      else if s.el2Enabled && !s.mdcr2EnSPM then .trap .el2
      else if s.el2Enabled && s.spmNoWrite s.spm.spmaccessr2 then .trap .el2
      else if s.haveEL3 && !s.mdcr3EnPM2 then s.trapMonitor
      else if s.haveEL3 && s.spmNoWrite s.spm.spmaccessr3 then s.trapMonitor
      else .perform (.spmzr s.selectedSpmu)
    | .el2 =>
      if s.undefPriority && !s.mdcr3EnPM2 then .undefined
      else if s.undefPriority && s.spmNoWrite s.spm.spmaccessr3 then .undefined
      else if s.haveEL3 && !s.mdcr3EnPM2 then s.trapMonitor
      else if s.haveEL3 && s.spmNoWrite s.spm.spmaccessr3 then s.trapMonitor
      else .perform (.spmzr s.selectedSpmu)
    | .el3 => .perform (.spmzr s.selectedSpmu)

/-- `MSR_SPMZR_EL0` (R1476). -/
def execMsrSpmzrEl0 (t : Nat) (s : State) : Outcome := finishWrite (listingMsrSpmzrEl0 s) t s

end Sys2Proof.Machine
end

