-- ==== Sys2Proof/Machine/SpmEvents.lean ====
section
/-! DEFINITION. The accesses to the System PMU control, identification and event registers:
the access listings, and one meaning per instruction. -/

namespace Sys2Proof.Machine

/-- `MRS SPMDEVAFF_EL1`: the listing of R1175. -/
def listingMrsSpmdevaffEl1 (s : State) : Access :=
  if !(s.has .SPMU && s.has .AA64) then .undefined
  else
    match s.inp.el with
    | .el0 => .undefined
    | .el1 =>
      if s.undefPriority && !s.mdcr3EnPM2 then .undefined
      else if s.undefPriority && s.spmNoRead s.spm.spmaccessr3 then .undefined
      else if s.fgt2Read .nSPMDEVAFF_EL1 then .trap .el2
      else if s.el2Enabled && !s.mdcr2EnSPM then .trap .el2
      else if s.el2Enabled && s.spmNoRead s.spm.spmaccessr2 then .trap .el2
      else if s.haveEL3 && !s.mdcr3EnPM2 then s.trapMonitor
      else if s.haveEL3 && s.spmNoRead s.spm.spmaccessr3 then s.trapMonitor
      else .perform (.spmdevaff s.selectedSpmu)
    | .el2 =>
      if s.undefPriority && !s.mdcr3EnPM2 then .undefined
      else if s.undefPriority && s.spmNoRead s.spm.spmaccessr3 then .undefined
      else if s.haveEL3 && !s.mdcr3EnPM2 then s.trapMonitor
      else if s.haveEL3 && s.spmNoRead s.spm.spmaccessr3 then s.trapMonitor
      else .perform (.spmdevaff s.selectedSpmu)
    | .el3 => .perform (.spmdevaff s.selectedSpmu)

/-- `MRS_SPMDEVAFF_EL1` (R1175). -/
def execMrsSpmdevaffEl1 (t : Nat) (s : State) : Outcome := finishRead (listingMrsSpmdevaffEl1 s) t s

/-- `MRS SPMDEVARCH_EL1`: the listing of R1190. -/
def listingMrsSpmdevarchEl1 (s : State) : Access :=
  if !(s.has .SPMU && s.has .AA64) then .undefined
  else
    match s.inp.el with
    | .el0 => .undefined
    | .el1 =>
      if s.undefPriority && !s.mdcr3EnPM2 then .undefined
      else if s.undefPriority && s.spmNoRead s.spm.spmaccessr3 then .undefined
      else if s.fgt2Read .nSPMID then .trap .el2
      else if s.el2Enabled && !s.mdcr2EnSPM then .trap .el2
      else if s.el2Enabled && s.spmNoRead s.spm.spmaccessr2 then .trap .el2
      else if s.haveEL3 && !s.mdcr3EnPM2 then s.trapMonitor
      else if s.haveEL3 && s.spmNoRead s.spm.spmaccessr3 then s.trapMonitor
      else .perform (.spmdevarch s.selectedSpmu)
    | .el2 =>
      if s.undefPriority && !s.mdcr3EnPM2 then .undefined
      else if s.undefPriority && s.spmNoRead s.spm.spmaccessr3 then .undefined
      else if s.haveEL3 && !s.mdcr3EnPM2 then s.trapMonitor
      else if s.haveEL3 && s.spmNoRead s.spm.spmaccessr3 then s.trapMonitor
      else .perform (.spmdevarch s.selectedSpmu)
    | .el3 => .perform (.spmdevarch s.selectedSpmu)

/-- `MRS_SPMDEVARCH_EL1` (R1190). -/
def execMrsSpmdevarchEl1 (t : Nat) (s : State) : Outcome := finishRead (listingMrsSpmdevarchEl1 s) t s

/-- `MRS SPMEVCNTR<m>_EL0`: the listing of R1206. -/
def listingMrsSpmevcntrEl0 (m : Nat) (s : State) : Access :=
  if !(s.has .SPMU && s.has .AA64) then .undefined
  else
    match s.inp.el with
    | .el0 =>
      if s.undefPriority && !s.mdcr3EnPM2 then .undefined
      else if s.undefPriority && s.spmNoRead s.spm.spmaccessr3 then .undefined
      else if !s.inp.mdscrEnSPM then s.trapUser
      else if !s.inp.inHostEL0 && s.spmNoRead s.spm.spmaccessr1 then s.trapUser
      else if !s.inp.inHostEL0 && s.fgt2Read .nSPMEVCNTRn_EL0 then .trap .el2
      else if s.el2Enabled && !s.mdcr2EnSPM then .trap .el2
      else if s.el2Enabled && s.spmNoRead s.spm.spmaccessr2 then .trap .el2
      else if s.haveEL3 && !s.mdcr3EnPM2 then s.trapMonitor
      else if s.haveEL3 && s.spmNoRead s.spm.spmaccessr3 then s.trapMonitor
      else if !s.cfg.spmuCounterImplemented s.selectedSpmu (s.bankIndex m) then .razWi
      else .perform (.spmevcntr s.selectedSpmu (s.bankIndex m))
    | .el1 =>
      if s.undefPriority && !s.mdcr3EnPM2 then .undefined
      else if s.undefPriority && s.spmNoRead s.spm.spmaccessr3 then .undefined
      else if s.fgt2Read .nSPMEVCNTRn_EL0 then .trap .el2
      else if s.el2Enabled && !s.mdcr2EnSPM then .trap .el2
      else if s.el2Enabled && s.spmNoRead s.spm.spmaccessr2 then .trap .el2
      else if s.haveEL3 && !s.mdcr3EnPM2 then s.trapMonitor
      else if s.haveEL3 && s.spmNoRead s.spm.spmaccessr3 then s.trapMonitor
      else if !s.cfg.spmuCounterImplemented s.selectedSpmu (s.bankIndex m) then .razWi
      else .perform (.spmevcntr s.selectedSpmu (s.bankIndex m))
    | .el2 =>
      if s.undefPriority && !s.mdcr3EnPM2 then .undefined
      else if s.undefPriority && s.spmNoRead s.spm.spmaccessr3 then .undefined
      else if s.haveEL3 && !s.mdcr3EnPM2 then s.trapMonitor
      else if s.haveEL3 && s.spmNoRead s.spm.spmaccessr3 then s.trapMonitor
      else if !s.cfg.spmuCounterImplemented s.selectedSpmu (s.bankIndex m) then .razWi
      else .perform (.spmevcntr s.selectedSpmu (s.bankIndex m))
    | .el3 =>
      if !s.cfg.spmuCounterImplemented s.selectedSpmu (s.bankIndex m) then .razWi
      else .perform (.spmevcntr s.selectedSpmu (s.bankIndex m))

/-- `MRS_SPMEVCNTR0_EL0` (R1206). -/
def execMrsSpmevcntr0El0 (t : Nat) (s : State) : Outcome := finishRead (listingMrsSpmevcntrEl0 0 s) t s

/-- `MRS_SPMEVCNTR1_EL0` (R1206). -/
def execMrsSpmevcntr1El0 (t : Nat) (s : State) : Outcome := finishRead (listingMrsSpmevcntrEl0 1 s) t s

/-- `MRS_SPMEVCNTR2_EL0` (R1206). -/
def execMrsSpmevcntr2El0 (t : Nat) (s : State) : Outcome := finishRead (listingMrsSpmevcntrEl0 2 s) t s

/-- `MRS_SPMEVCNTR3_EL0` (R1206). -/
def execMrsSpmevcntr3El0 (t : Nat) (s : State) : Outcome := finishRead (listingMrsSpmevcntrEl0 3 s) t s

/-- `MRS_SPMEVCNTR4_EL0` (R1206). -/
def execMrsSpmevcntr4El0 (t : Nat) (s : State) : Outcome := finishRead (listingMrsSpmevcntrEl0 4 s) t s

/-- `MRS_SPMEVCNTR5_EL0` (R1206). -/
def execMrsSpmevcntr5El0 (t : Nat) (s : State) : Outcome := finishRead (listingMrsSpmevcntrEl0 5 s) t s

/-- `MRS_SPMEVCNTR6_EL0` (R1206). -/
def execMrsSpmevcntr6El0 (t : Nat) (s : State) : Outcome := finishRead (listingMrsSpmevcntrEl0 6 s) t s

/-- `MRS_SPMEVCNTR7_EL0` (R1206). -/
def execMrsSpmevcntr7El0 (t : Nat) (s : State) : Outcome := finishRead (listingMrsSpmevcntrEl0 7 s) t s

/-- `MRS_SPMEVCNTR8_EL0` (R1206). -/
def execMrsSpmevcntr8El0 (t : Nat) (s : State) : Outcome := finishRead (listingMrsSpmevcntrEl0 8 s) t s

/-- `MRS_SPMEVCNTR9_EL0` (R1206). -/
def execMrsSpmevcntr9El0 (t : Nat) (s : State) : Outcome := finishRead (listingMrsSpmevcntrEl0 9 s) t s

/-- `MRS_SPMEVCNTR10_EL0` (R1206). -/
def execMrsSpmevcntr10El0 (t : Nat) (s : State) : Outcome := finishRead (listingMrsSpmevcntrEl0 10 s) t s

/-- `MRS_SPMEVCNTR11_EL0` (R1206). -/
def execMrsSpmevcntr11El0 (t : Nat) (s : State) : Outcome := finishRead (listingMrsSpmevcntrEl0 11 s) t s

/-- `MRS_SPMEVCNTR12_EL0` (R1206). -/
def execMrsSpmevcntr12El0 (t : Nat) (s : State) : Outcome := finishRead (listingMrsSpmevcntrEl0 12 s) t s

/-- `MRS_SPMEVCNTR13_EL0` (R1206). -/
def execMrsSpmevcntr13El0 (t : Nat) (s : State) : Outcome := finishRead (listingMrsSpmevcntrEl0 13 s) t s

/-- `MRS_SPMEVCNTR14_EL0` (R1206). -/
def execMrsSpmevcntr14El0 (t : Nat) (s : State) : Outcome := finishRead (listingMrsSpmevcntrEl0 14 s) t s

/-- `MRS_SPMEVCNTR15_EL0` (R1206). -/
def execMrsSpmevcntr15El0 (t : Nat) (s : State) : Outcome := finishRead (listingMrsSpmevcntrEl0 15 s) t s

/-- `MSR SPMEVCNTR<m>_EL0`: the listing of R1207. The listing's last line, the write at EL3, is missing in the source:
it is restored from the arm of EL2. DEDUCED. -/
def listingMsrSpmevcntrEl0 (m : Nat) (s : State) : Access :=
  if !(s.has .SPMU && s.has .AA64) then .undefined
  else
    match s.inp.el with
    | .el0 =>
      if s.undefPriority && !s.mdcr3EnPM2 then .undefined
      else if s.undefPriority && s.spmNoWrite s.spm.spmaccessr3 then .undefined
      else if !s.inp.mdscrEnSPM then s.trapUser
      else if !s.inp.inHostEL0 && s.spmNoWrite s.spm.spmaccessr1 then s.trapUser
      else if !s.inp.inHostEL0 && s.fgt2Write .nSPMEVCNTRn_EL0 then .trap .el2
      else if s.el2Enabled && !s.mdcr2EnSPM then .trap .el2
      else if s.el2Enabled && s.spmNoWrite s.spm.spmaccessr2 then .trap .el2
      else if s.haveEL3 && !s.mdcr3EnPM2 then s.trapMonitor
      else if s.haveEL3 && s.spmNoWrite s.spm.spmaccessr3 then s.trapMonitor
      else if !s.cfg.spmuCounterImplemented s.selectedSpmu (s.bankIndex m) then .razWi
      else .perform (.spmevcntr s.selectedSpmu (s.bankIndex m))
    | .el1 =>
      if s.undefPriority && !s.mdcr3EnPM2 then .undefined
      else if s.undefPriority && s.spmNoWrite s.spm.spmaccessr3 then .undefined
      else if s.fgt2Write .nSPMEVCNTRn_EL0 then .trap .el2
      else if s.el2Enabled && !s.mdcr2EnSPM then .trap .el2
      else if s.el2Enabled && s.spmNoWrite s.spm.spmaccessr2 then .trap .el2
      else if s.haveEL3 && !s.mdcr3EnPM2 then s.trapMonitor
      else if s.haveEL3 && s.spmNoWrite s.spm.spmaccessr3 then s.trapMonitor
      else if !s.cfg.spmuCounterImplemented s.selectedSpmu (s.bankIndex m) then .razWi
      else .perform (.spmevcntr s.selectedSpmu (s.bankIndex m))
    | .el2 =>
      if s.undefPriority && !s.mdcr3EnPM2 then .undefined
      else if s.undefPriority && s.spmNoWrite s.spm.spmaccessr3 then .undefined
      else if s.haveEL3 && !s.mdcr3EnPM2 then s.trapMonitor
      else if s.haveEL3 && s.spmNoWrite s.spm.spmaccessr3 then s.trapMonitor
      else if !s.cfg.spmuCounterImplemented s.selectedSpmu (s.bankIndex m) then .razWi
      else .perform (.spmevcntr s.selectedSpmu (s.bankIndex m))
    | .el3 =>
      if !s.cfg.spmuCounterImplemented s.selectedSpmu (s.bankIndex m) then .razWi
      else .perform (.spmevcntr s.selectedSpmu (s.bankIndex m))

/-- `MSR_SPMEVCNTR0_EL0` (R1207). -/
def execMsrSpmevcntr0El0 (t : Nat) (s : State) : Outcome := finishWrite (listingMsrSpmevcntrEl0 0 s) t s

/-- `MSR_SPMEVCNTR1_EL0` (R1207). -/
def execMsrSpmevcntr1El0 (t : Nat) (s : State) : Outcome := finishWrite (listingMsrSpmevcntrEl0 1 s) t s

/-- `MSR_SPMEVCNTR2_EL0` (R1207). -/
def execMsrSpmevcntr2El0 (t : Nat) (s : State) : Outcome := finishWrite (listingMsrSpmevcntrEl0 2 s) t s

/-- `MSR_SPMEVCNTR3_EL0` (R1207). -/
def execMsrSpmevcntr3El0 (t : Nat) (s : State) : Outcome := finishWrite (listingMsrSpmevcntrEl0 3 s) t s

/-- `MSR_SPMEVCNTR4_EL0` (R1207). -/
def execMsrSpmevcntr4El0 (t : Nat) (s : State) : Outcome := finishWrite (listingMsrSpmevcntrEl0 4 s) t s

/-- `MSR_SPMEVCNTR5_EL0` (R1207). -/
def execMsrSpmevcntr5El0 (t : Nat) (s : State) : Outcome := finishWrite (listingMsrSpmevcntrEl0 5 s) t s

/-- `MSR_SPMEVCNTR6_EL0` (R1207). -/
def execMsrSpmevcntr6El0 (t : Nat) (s : State) : Outcome := finishWrite (listingMsrSpmevcntrEl0 6 s) t s

/-- `MSR_SPMEVCNTR7_EL0` (R1207). -/
def execMsrSpmevcntr7El0 (t : Nat) (s : State) : Outcome := finishWrite (listingMsrSpmevcntrEl0 7 s) t s

/-- `MSR_SPMEVCNTR8_EL0` (R1207). -/
def execMsrSpmevcntr8El0 (t : Nat) (s : State) : Outcome := finishWrite (listingMsrSpmevcntrEl0 8 s) t s

/-- `MSR_SPMEVCNTR9_EL0` (R1207). -/
def execMsrSpmevcntr9El0 (t : Nat) (s : State) : Outcome := finishWrite (listingMsrSpmevcntrEl0 9 s) t s

/-- `MSR_SPMEVCNTR10_EL0` (R1207). -/
def execMsrSpmevcntr10El0 (t : Nat) (s : State) : Outcome := finishWrite (listingMsrSpmevcntrEl0 10 s) t s

/-- `MSR_SPMEVCNTR11_EL0` (R1207). -/
def execMsrSpmevcntr11El0 (t : Nat) (s : State) : Outcome := finishWrite (listingMsrSpmevcntrEl0 11 s) t s

/-- `MSR_SPMEVCNTR12_EL0` (R1207). -/
def execMsrSpmevcntr12El0 (t : Nat) (s : State) : Outcome := finishWrite (listingMsrSpmevcntrEl0 12 s) t s

/-- `MSR_SPMEVCNTR13_EL0` (R1207). -/
def execMsrSpmevcntr13El0 (t : Nat) (s : State) : Outcome := finishWrite (listingMsrSpmevcntrEl0 13 s) t s

/-- `MSR_SPMEVCNTR14_EL0` (R1207). -/
def execMsrSpmevcntr14El0 (t : Nat) (s : State) : Outcome := finishWrite (listingMsrSpmevcntrEl0 14 s) t s

/-- `MSR_SPMEVCNTR15_EL0` (R1207). -/
def execMsrSpmevcntr15El0 (t : Nat) (s : State) : Outcome := finishWrite (listingMsrSpmevcntrEl0 15 s) t s

/-- `MRS SPMEVFILT2R<m>_EL0`: the listing of R1226. -/
def listingMrsSpmevfilt2rEl0 (m : Nat) (s : State) : Access :=
  if !(s.has .SPMU && s.has .AA64) then .undefined
  else
    match s.inp.el with
    | .el0 =>
      if s.undefPriority && !s.mdcr3EnPM2 then .undefined
      else if s.undefPriority && s.spmNoRead s.spm.spmaccessr3 then .undefined
      else if !s.inp.mdscrEnSPM then s.trapUser
      else if !s.inp.inHostEL0 && s.spmNoRead s.spm.spmaccessr1 then s.trapUser
      else if !s.inp.inHostEL0 && s.fgt2Read .nSPMEVTYPERn_EL0 then .trap .el2
      else if s.el2Enabled && !s.mdcr2EnSPM then .trap .el2
      else if s.el2Enabled && s.spmNoRead s.spm.spmaccessr2 then .trap .el2
      else if s.haveEL3 && !s.mdcr3EnPM2 then s.trapMonitor
      else if s.haveEL3 && s.spmNoRead s.spm.spmaccessr3 then s.trapMonitor
      else if !s.cfg.spmuCounterImplemented s.selectedSpmu (s.bankIndex m) then .razWi
      else .perform (.spmevfilt2r s.selectedSpmu (s.bankIndex m))
    | .el1 =>
      if s.undefPriority && !s.mdcr3EnPM2 then .undefined
      else if s.undefPriority && s.spmNoRead s.spm.spmaccessr3 then .undefined
      else if s.fgt2Read .nSPMEVTYPERn_EL0 then .trap .el2
      else if s.el2Enabled && !s.mdcr2EnSPM then .trap .el2
      else if s.el2Enabled && s.spmNoRead s.spm.spmaccessr2 then .trap .el2
      else if s.haveEL3 && !s.mdcr3EnPM2 then s.trapMonitor
      else if s.haveEL3 && s.spmNoRead s.spm.spmaccessr3 then s.trapMonitor
      else if !s.cfg.spmuCounterImplemented s.selectedSpmu (s.bankIndex m) then .razWi
      else .perform (.spmevfilt2r s.selectedSpmu (s.bankIndex m))
    | .el2 =>
      if s.undefPriority && !s.mdcr3EnPM2 then .undefined
      else if s.undefPriority && s.spmNoRead s.spm.spmaccessr3 then .undefined
      else if s.haveEL3 && !s.mdcr3EnPM2 then s.trapMonitor
      else if s.haveEL3 && s.spmNoRead s.spm.spmaccessr3 then s.trapMonitor
      else if !s.cfg.spmuCounterImplemented s.selectedSpmu (s.bankIndex m) then .razWi
      else .perform (.spmevfilt2r s.selectedSpmu (s.bankIndex m))
    | .el3 =>
      if !s.cfg.spmuCounterImplemented s.selectedSpmu (s.bankIndex m) then .razWi
      else .perform (.spmevfilt2r s.selectedSpmu (s.bankIndex m))

/-- `MRS_SPMEVFILT2R0_EL0` (R1226). -/
def execMrsSpmevfilt2r0El0 (t : Nat) (s : State) : Outcome := finishRead (listingMrsSpmevfilt2rEl0 0 s) t s

/-- `MRS_SPMEVFILT2R1_EL0` (R1226). -/
def execMrsSpmevfilt2r1El0 (t : Nat) (s : State) : Outcome := finishRead (listingMrsSpmevfilt2rEl0 1 s) t s

/-- `MRS_SPMEVFILT2R2_EL0` (R1226). -/
def execMrsSpmevfilt2r2El0 (t : Nat) (s : State) : Outcome := finishRead (listingMrsSpmevfilt2rEl0 2 s) t s

/-- `MRS_SPMEVFILT2R3_EL0` (R1226). -/
def execMrsSpmevfilt2r3El0 (t : Nat) (s : State) : Outcome := finishRead (listingMrsSpmevfilt2rEl0 3 s) t s

/-- `MRS_SPMEVFILT2R4_EL0` (R1226). -/
def execMrsSpmevfilt2r4El0 (t : Nat) (s : State) : Outcome := finishRead (listingMrsSpmevfilt2rEl0 4 s) t s

/-- `MRS_SPMEVFILT2R5_EL0` (R1226). -/
def execMrsSpmevfilt2r5El0 (t : Nat) (s : State) : Outcome := finishRead (listingMrsSpmevfilt2rEl0 5 s) t s

/-- `MRS_SPMEVFILT2R6_EL0` (R1226). -/
def execMrsSpmevfilt2r6El0 (t : Nat) (s : State) : Outcome := finishRead (listingMrsSpmevfilt2rEl0 6 s) t s

/-- `MRS_SPMEVFILT2R7_EL0` (R1226). -/
def execMrsSpmevfilt2r7El0 (t : Nat) (s : State) : Outcome := finishRead (listingMrsSpmevfilt2rEl0 7 s) t s

/-- `MRS_SPMEVFILT2R8_EL0` (R1226). -/
def execMrsSpmevfilt2r8El0 (t : Nat) (s : State) : Outcome := finishRead (listingMrsSpmevfilt2rEl0 8 s) t s

/-- `MRS_SPMEVFILT2R9_EL0` (R1226). -/
def execMrsSpmevfilt2r9El0 (t : Nat) (s : State) : Outcome := finishRead (listingMrsSpmevfilt2rEl0 9 s) t s

/-- `MRS_SPMEVFILT2R10_EL0` (R1226). -/
def execMrsSpmevfilt2r10El0 (t : Nat) (s : State) : Outcome := finishRead (listingMrsSpmevfilt2rEl0 10 s) t s

/-- `MRS_SPMEVFILT2R11_EL0` (R1226). -/
def execMrsSpmevfilt2r11El0 (t : Nat) (s : State) : Outcome := finishRead (listingMrsSpmevfilt2rEl0 11 s) t s

/-- `MRS_SPMEVFILT2R12_EL0` (R1226). -/
def execMrsSpmevfilt2r12El0 (t : Nat) (s : State) : Outcome := finishRead (listingMrsSpmevfilt2rEl0 12 s) t s

/-- `MRS_SPMEVFILT2R13_EL0` (R1226). -/
def execMrsSpmevfilt2r13El0 (t : Nat) (s : State) : Outcome := finishRead (listingMrsSpmevfilt2rEl0 13 s) t s

/-- `MRS_SPMEVFILT2R14_EL0` (R1226). -/
def execMrsSpmevfilt2r14El0 (t : Nat) (s : State) : Outcome := finishRead (listingMrsSpmevfilt2rEl0 14 s) t s

/-- `MRS_SPMEVFILT2R15_EL0` (R1226). -/
def execMrsSpmevfilt2r15El0 (t : Nat) (s : State) : Outcome := finishRead (listingMrsSpmevfilt2rEl0 15 s) t s

/-- `MSR SPMEVFILT2R<m>_EL0`: the listing of R1227. The listing's last line, the write at EL3, is missing in the source:
it is restored from the arm of EL2. DEDUCED. -/
def listingMsrSpmevfilt2rEl0 (m : Nat) (s : State) : Access :=
  if !(s.has .SPMU && s.has .AA64) then .undefined
  else
    match s.inp.el with
    | .el0 =>
      if s.undefPriority && !s.mdcr3EnPM2 then .undefined
      else if s.undefPriority && s.spmNoWrite s.spm.spmaccessr3 then .undefined
      else if !s.inp.mdscrEnSPM then s.trapUser
      else if !s.inp.inHostEL0 && s.spmNoWrite s.spm.spmaccessr1 then s.trapUser
      else if !s.inp.inHostEL0 && s.fgt2Write .nSPMEVTYPERn_EL0 then .trap .el2
      else if s.el2Enabled && !s.mdcr2EnSPM then .trap .el2
      else if s.el2Enabled && s.spmNoWrite s.spm.spmaccessr2 then .trap .el2
      else if s.haveEL3 && !s.mdcr3EnPM2 then s.trapMonitor
      else if s.haveEL3 && s.spmNoWrite s.spm.spmaccessr3 then s.trapMonitor
      else if !s.cfg.spmuCounterImplemented s.selectedSpmu (s.bankIndex m) then .razWi
      else .perform (.spmevfilt2r s.selectedSpmu (s.bankIndex m))
    | .el1 =>
      if s.undefPriority && !s.mdcr3EnPM2 then .undefined
      else if s.undefPriority && s.spmNoWrite s.spm.spmaccessr3 then .undefined
      else if s.fgt2Write .nSPMEVTYPERn_EL0 then .trap .el2
      else if s.el2Enabled && !s.mdcr2EnSPM then .trap .el2
      else if s.el2Enabled && s.spmNoWrite s.spm.spmaccessr2 then .trap .el2
      else if s.haveEL3 && !s.mdcr3EnPM2 then s.trapMonitor
      else if s.haveEL3 && s.spmNoWrite s.spm.spmaccessr3 then s.trapMonitor
      else if !s.cfg.spmuCounterImplemented s.selectedSpmu (s.bankIndex m) then .razWi
      else .perform (.spmevfilt2r s.selectedSpmu (s.bankIndex m))
    | .el2 =>
      if s.undefPriority && !s.mdcr3EnPM2 then .undefined
      else if s.undefPriority && s.spmNoWrite s.spm.spmaccessr3 then .undefined
      else if s.haveEL3 && !s.mdcr3EnPM2 then s.trapMonitor
      else if s.haveEL3 && s.spmNoWrite s.spm.spmaccessr3 then s.trapMonitor
      else if !s.cfg.spmuCounterImplemented s.selectedSpmu (s.bankIndex m) then .razWi
      else .perform (.spmevfilt2r s.selectedSpmu (s.bankIndex m))
    | .el3 =>
      if !s.cfg.spmuCounterImplemented s.selectedSpmu (s.bankIndex m) then .razWi
      else .perform (.spmevfilt2r s.selectedSpmu (s.bankIndex m))

/-- `MSR_SPMEVFILT2R0_EL0` (R1227). -/
def execMsrSpmevfilt2r0El0 (t : Nat) (s : State) : Outcome := finishWrite (listingMsrSpmevfilt2rEl0 0 s) t s

/-- `MSR_SPMEVFILT2R1_EL0` (R1227). -/
def execMsrSpmevfilt2r1El0 (t : Nat) (s : State) : Outcome := finishWrite (listingMsrSpmevfilt2rEl0 1 s) t s

/-- `MSR_SPMEVFILT2R2_EL0` (R1227). -/
def execMsrSpmevfilt2r2El0 (t : Nat) (s : State) : Outcome := finishWrite (listingMsrSpmevfilt2rEl0 2 s) t s

/-- `MSR_SPMEVFILT2R3_EL0` (R1227). -/
def execMsrSpmevfilt2r3El0 (t : Nat) (s : State) : Outcome := finishWrite (listingMsrSpmevfilt2rEl0 3 s) t s

/-- `MSR_SPMEVFILT2R4_EL0` (R1227). -/
def execMsrSpmevfilt2r4El0 (t : Nat) (s : State) : Outcome := finishWrite (listingMsrSpmevfilt2rEl0 4 s) t s

/-- `MSR_SPMEVFILT2R5_EL0` (R1227). -/
def execMsrSpmevfilt2r5El0 (t : Nat) (s : State) : Outcome := finishWrite (listingMsrSpmevfilt2rEl0 5 s) t s

/-- `MSR_SPMEVFILT2R6_EL0` (R1227). -/
def execMsrSpmevfilt2r6El0 (t : Nat) (s : State) : Outcome := finishWrite (listingMsrSpmevfilt2rEl0 6 s) t s

/-- `MSR_SPMEVFILT2R7_EL0` (R1227). -/
def execMsrSpmevfilt2r7El0 (t : Nat) (s : State) : Outcome := finishWrite (listingMsrSpmevfilt2rEl0 7 s) t s

/-- `MSR_SPMEVFILT2R8_EL0` (R1227). -/
def execMsrSpmevfilt2r8El0 (t : Nat) (s : State) : Outcome := finishWrite (listingMsrSpmevfilt2rEl0 8 s) t s

/-- `MSR_SPMEVFILT2R9_EL0` (R1227). -/
def execMsrSpmevfilt2r9El0 (t : Nat) (s : State) : Outcome := finishWrite (listingMsrSpmevfilt2rEl0 9 s) t s

/-- `MSR_SPMEVFILT2R10_EL0` (R1227). -/
def execMsrSpmevfilt2r10El0 (t : Nat) (s : State) : Outcome := finishWrite (listingMsrSpmevfilt2rEl0 10 s) t s

/-- `MSR_SPMEVFILT2R11_EL0` (R1227). -/
def execMsrSpmevfilt2r11El0 (t : Nat) (s : State) : Outcome := finishWrite (listingMsrSpmevfilt2rEl0 11 s) t s

/-- `MSR_SPMEVFILT2R12_EL0` (R1227). -/
def execMsrSpmevfilt2r12El0 (t : Nat) (s : State) : Outcome := finishWrite (listingMsrSpmevfilt2rEl0 12 s) t s

/-- `MSR_SPMEVFILT2R13_EL0` (R1227). -/
def execMsrSpmevfilt2r13El0 (t : Nat) (s : State) : Outcome := finishWrite (listingMsrSpmevfilt2rEl0 13 s) t s

/-- `MSR_SPMEVFILT2R14_EL0` (R1227). -/
def execMsrSpmevfilt2r14El0 (t : Nat) (s : State) : Outcome := finishWrite (listingMsrSpmevfilt2rEl0 14 s) t s

/-- `MSR_SPMEVFILT2R15_EL0` (R1227). -/
def execMsrSpmevfilt2r15El0 (t : Nat) (s : State) : Outcome := finishWrite (listingMsrSpmevfilt2rEl0 15 s) t s

/-- `MRS SPMEVFILTR<m>_EL0`: the listing of R1246. -/
def listingMrsSpmevfiltrEl0 (m : Nat) (s : State) : Access :=
  if !(s.has .SPMU && s.has .AA64) then .undefined
  else
    match s.inp.el with
    | .el0 =>
      if s.undefPriority && !s.mdcr3EnPM2 then .undefined
      else if s.undefPriority && s.spmNoRead s.spm.spmaccessr3 then .undefined
      else if !s.inp.mdscrEnSPM then s.trapUser
      else if !s.inp.inHostEL0 && s.spmNoRead s.spm.spmaccessr1 then s.trapUser
      else if !s.inp.inHostEL0 && s.fgt2Read .nSPMEVTYPERn_EL0 then .trap .el2
      else if s.el2Enabled && !s.mdcr2EnSPM then .trap .el2
      else if s.el2Enabled && s.spmNoRead s.spm.spmaccessr2 then .trap .el2
      else if s.haveEL3 && !s.mdcr3EnPM2 then s.trapMonitor
      else if s.haveEL3 && s.spmNoRead s.spm.spmaccessr3 then s.trapMonitor
      else if !s.cfg.spmuCounterImplemented s.selectedSpmu (s.bankIndex m) then .razWi
      else .perform (.spmevfiltr s.selectedSpmu (s.bankIndex m))
    | .el1 =>
      if s.undefPriority && !s.mdcr3EnPM2 then .undefined
      else if s.undefPriority && s.spmNoRead s.spm.spmaccessr3 then .undefined
      else if s.fgt2Read .nSPMEVTYPERn_EL0 then .trap .el2
      else if s.el2Enabled && !s.mdcr2EnSPM then .trap .el2
      else if s.el2Enabled && s.spmNoRead s.spm.spmaccessr2 then .trap .el2
      else if s.haveEL3 && !s.mdcr3EnPM2 then s.trapMonitor
      else if s.haveEL3 && s.spmNoRead s.spm.spmaccessr3 then s.trapMonitor
      else if !s.cfg.spmuCounterImplemented s.selectedSpmu (s.bankIndex m) then .razWi
      else .perform (.spmevfiltr s.selectedSpmu (s.bankIndex m))
    | .el2 =>
      if s.undefPriority && !s.mdcr3EnPM2 then .undefined
      else if s.undefPriority && s.spmNoRead s.spm.spmaccessr3 then .undefined
      else if s.haveEL3 && !s.mdcr3EnPM2 then s.trapMonitor
      else if s.haveEL3 && s.spmNoRead s.spm.spmaccessr3 then s.trapMonitor
      else if !s.cfg.spmuCounterImplemented s.selectedSpmu (s.bankIndex m) then .razWi
      else .perform (.spmevfiltr s.selectedSpmu (s.bankIndex m))
    | .el3 =>
      if !s.cfg.spmuCounterImplemented s.selectedSpmu (s.bankIndex m) then .razWi
      else .perform (.spmevfiltr s.selectedSpmu (s.bankIndex m))

/-- `MRS_SPMEVFILTR0_EL0` (R1246). -/
def execMrsSpmevfiltr0El0 (t : Nat) (s : State) : Outcome := finishRead (listingMrsSpmevfiltrEl0 0 s) t s

/-- `MRS_SPMEVFILTR1_EL0` (R1246). -/
def execMrsSpmevfiltr1El0 (t : Nat) (s : State) : Outcome := finishRead (listingMrsSpmevfiltrEl0 1 s) t s

/-- `MRS_SPMEVFILTR2_EL0` (R1246). -/
def execMrsSpmevfiltr2El0 (t : Nat) (s : State) : Outcome := finishRead (listingMrsSpmevfiltrEl0 2 s) t s

/-- `MRS_SPMEVFILTR3_EL0` (R1246). -/
def execMrsSpmevfiltr3El0 (t : Nat) (s : State) : Outcome := finishRead (listingMrsSpmevfiltrEl0 3 s) t s

/-- `MRS_SPMEVFILTR4_EL0` (R1246). -/
def execMrsSpmevfiltr4El0 (t : Nat) (s : State) : Outcome := finishRead (listingMrsSpmevfiltrEl0 4 s) t s

/-- `MRS_SPMEVFILTR5_EL0` (R1246). -/
def execMrsSpmevfiltr5El0 (t : Nat) (s : State) : Outcome := finishRead (listingMrsSpmevfiltrEl0 5 s) t s

/-- `MRS_SPMEVFILTR6_EL0` (R1246). -/
def execMrsSpmevfiltr6El0 (t : Nat) (s : State) : Outcome := finishRead (listingMrsSpmevfiltrEl0 6 s) t s

/-- `MRS_SPMEVFILTR7_EL0` (R1246). -/
def execMrsSpmevfiltr7El0 (t : Nat) (s : State) : Outcome := finishRead (listingMrsSpmevfiltrEl0 7 s) t s

/-- `MRS_SPMEVFILTR8_EL0` (R1246). -/
def execMrsSpmevfiltr8El0 (t : Nat) (s : State) : Outcome := finishRead (listingMrsSpmevfiltrEl0 8 s) t s

/-- `MRS_SPMEVFILTR9_EL0` (R1246). -/
def execMrsSpmevfiltr9El0 (t : Nat) (s : State) : Outcome := finishRead (listingMrsSpmevfiltrEl0 9 s) t s

/-- `MRS_SPMEVFILTR10_EL0` (R1246). -/
def execMrsSpmevfiltr10El0 (t : Nat) (s : State) : Outcome := finishRead (listingMrsSpmevfiltrEl0 10 s) t s

/-- `MRS_SPMEVFILTR11_EL0` (R1246). -/
def execMrsSpmevfiltr11El0 (t : Nat) (s : State) : Outcome := finishRead (listingMrsSpmevfiltrEl0 11 s) t s

/-- `MRS_SPMEVFILTR12_EL0` (R1246). -/
def execMrsSpmevfiltr12El0 (t : Nat) (s : State) : Outcome := finishRead (listingMrsSpmevfiltrEl0 12 s) t s

/-- `MRS_SPMEVFILTR13_EL0` (R1246). -/
def execMrsSpmevfiltr13El0 (t : Nat) (s : State) : Outcome := finishRead (listingMrsSpmevfiltrEl0 13 s) t s

/-- `MRS_SPMEVFILTR14_EL0` (R1246). -/
def execMrsSpmevfiltr14El0 (t : Nat) (s : State) : Outcome := finishRead (listingMrsSpmevfiltrEl0 14 s) t s

/-- `MRS_SPMEVFILTR15_EL0` (R1246). -/
def execMrsSpmevfiltr15El0 (t : Nat) (s : State) : Outcome := finishRead (listingMrsSpmevfiltrEl0 15 s) t s

/-- `MSR SPMEVFILTR<m>_EL0`: the listing of R1247. The listing's last line, the write at EL3, is missing in the source:
it is restored from the arm of EL2. DEDUCED. -/
def listingMsrSpmevfiltrEl0 (m : Nat) (s : State) : Access :=
  if !(s.has .SPMU && s.has .AA64) then .undefined
  else
    match s.inp.el with
    | .el0 =>
      if s.undefPriority && !s.mdcr3EnPM2 then .undefined
      else if s.undefPriority && s.spmNoWrite s.spm.spmaccessr3 then .undefined
      else if !s.inp.mdscrEnSPM then s.trapUser
      else if !s.inp.inHostEL0 && s.spmNoWrite s.spm.spmaccessr1 then s.trapUser
      else if !s.inp.inHostEL0 && s.fgt2Write .nSPMEVTYPERn_EL0 then .trap .el2
      else if s.el2Enabled && !s.mdcr2EnSPM then .trap .el2
      else if s.el2Enabled && s.spmNoWrite s.spm.spmaccessr2 then .trap .el2
      else if s.haveEL3 && !s.mdcr3EnPM2 then s.trapMonitor
      else if s.haveEL3 && s.spmNoWrite s.spm.spmaccessr3 then s.trapMonitor
      else if !s.cfg.spmuCounterImplemented s.selectedSpmu (s.bankIndex m) then .razWi
      else .perform (.spmevfiltr s.selectedSpmu (s.bankIndex m))
    | .el1 =>
      if s.undefPriority && !s.mdcr3EnPM2 then .undefined
      else if s.undefPriority && s.spmNoWrite s.spm.spmaccessr3 then .undefined
      else if s.fgt2Write .nSPMEVTYPERn_EL0 then .trap .el2
      else if s.el2Enabled && !s.mdcr2EnSPM then .trap .el2
      else if s.el2Enabled && s.spmNoWrite s.spm.spmaccessr2 then .trap .el2
      else if s.haveEL3 && !s.mdcr3EnPM2 then s.trapMonitor
      else if s.haveEL3 && s.spmNoWrite s.spm.spmaccessr3 then s.trapMonitor
      else if !s.cfg.spmuCounterImplemented s.selectedSpmu (s.bankIndex m) then .razWi
      else .perform (.spmevfiltr s.selectedSpmu (s.bankIndex m))
    | .el2 =>
      if s.undefPriority && !s.mdcr3EnPM2 then .undefined
      else if s.undefPriority && s.spmNoWrite s.spm.spmaccessr3 then .undefined
      else if s.haveEL3 && !s.mdcr3EnPM2 then s.trapMonitor
      else if s.haveEL3 && s.spmNoWrite s.spm.spmaccessr3 then s.trapMonitor
      else if !s.cfg.spmuCounterImplemented s.selectedSpmu (s.bankIndex m) then .razWi
      else .perform (.spmevfiltr s.selectedSpmu (s.bankIndex m))
    | .el3 =>
      if !s.cfg.spmuCounterImplemented s.selectedSpmu (s.bankIndex m) then .razWi
      else .perform (.spmevfiltr s.selectedSpmu (s.bankIndex m))

/-- `MSR_SPMEVFILTR0_EL0` (R1247). -/
def execMsrSpmevfiltr0El0 (t : Nat) (s : State) : Outcome := finishWrite (listingMsrSpmevfiltrEl0 0 s) t s

/-- `MSR_SPMEVFILTR1_EL0` (R1247). -/
def execMsrSpmevfiltr1El0 (t : Nat) (s : State) : Outcome := finishWrite (listingMsrSpmevfiltrEl0 1 s) t s

/-- `MSR_SPMEVFILTR2_EL0` (R1247). -/
def execMsrSpmevfiltr2El0 (t : Nat) (s : State) : Outcome := finishWrite (listingMsrSpmevfiltrEl0 2 s) t s

/-- `MSR_SPMEVFILTR3_EL0` (R1247). -/
def execMsrSpmevfiltr3El0 (t : Nat) (s : State) : Outcome := finishWrite (listingMsrSpmevfiltrEl0 3 s) t s

/-- `MSR_SPMEVFILTR4_EL0` (R1247). -/
def execMsrSpmevfiltr4El0 (t : Nat) (s : State) : Outcome := finishWrite (listingMsrSpmevfiltrEl0 4 s) t s

/-- `MSR_SPMEVFILTR5_EL0` (R1247). -/
def execMsrSpmevfiltr5El0 (t : Nat) (s : State) : Outcome := finishWrite (listingMsrSpmevfiltrEl0 5 s) t s

/-- `MSR_SPMEVFILTR6_EL0` (R1247). -/
def execMsrSpmevfiltr6El0 (t : Nat) (s : State) : Outcome := finishWrite (listingMsrSpmevfiltrEl0 6 s) t s

/-- `MSR_SPMEVFILTR7_EL0` (R1247). -/
def execMsrSpmevfiltr7El0 (t : Nat) (s : State) : Outcome := finishWrite (listingMsrSpmevfiltrEl0 7 s) t s

/-- `MSR_SPMEVFILTR8_EL0` (R1247). -/
def execMsrSpmevfiltr8El0 (t : Nat) (s : State) : Outcome := finishWrite (listingMsrSpmevfiltrEl0 8 s) t s

/-- `MSR_SPMEVFILTR9_EL0` (R1247). -/
def execMsrSpmevfiltr9El0 (t : Nat) (s : State) : Outcome := finishWrite (listingMsrSpmevfiltrEl0 9 s) t s

/-- `MSR_SPMEVFILTR10_EL0` (R1247). -/
def execMsrSpmevfiltr10El0 (t : Nat) (s : State) : Outcome := finishWrite (listingMsrSpmevfiltrEl0 10 s) t s

/-- `MSR_SPMEVFILTR11_EL0` (R1247). -/
def execMsrSpmevfiltr11El0 (t : Nat) (s : State) : Outcome := finishWrite (listingMsrSpmevfiltrEl0 11 s) t s

/-- `MSR_SPMEVFILTR12_EL0` (R1247). -/
def execMsrSpmevfiltr12El0 (t : Nat) (s : State) : Outcome := finishWrite (listingMsrSpmevfiltrEl0 12 s) t s

/-- `MSR_SPMEVFILTR13_EL0` (R1247). -/
def execMsrSpmevfiltr13El0 (t : Nat) (s : State) : Outcome := finishWrite (listingMsrSpmevfiltrEl0 13 s) t s

/-- `MSR_SPMEVFILTR14_EL0` (R1247). -/
def execMsrSpmevfiltr14El0 (t : Nat) (s : State) : Outcome := finishWrite (listingMsrSpmevfiltrEl0 14 s) t s

/-- `MSR_SPMEVFILTR15_EL0` (R1247). -/
def execMsrSpmevfiltr15El0 (t : Nat) (s : State) : Outcome := finishWrite (listingMsrSpmevfiltrEl0 15 s) t s

/-- `MRS SPMEVTYPER<m>_EL0`: the listing of R1266. -/
def listingMrsSpmevtyperEl0 (m : Nat) (s : State) : Access :=
  if !(s.has .SPMU && s.has .AA64) then .undefined
  else
    match s.inp.el with
    | .el0 =>
      if s.undefPriority && !s.mdcr3EnPM2 then .undefined
      else if s.undefPriority && s.spmNoRead s.spm.spmaccessr3 then .undefined
      else if !s.inp.mdscrEnSPM then s.trapUser
      else if !s.inp.inHostEL0 && s.spmNoRead s.spm.spmaccessr1 then s.trapUser
      else if !s.inp.inHostEL0 && s.fgt2Read .nSPMEVTYPERn_EL0 then .trap .el2
      else if s.el2Enabled && !s.mdcr2EnSPM then .trap .el2
      else if s.el2Enabled && s.spmNoRead s.spm.spmaccessr2 then .trap .el2
      else if s.haveEL3 && !s.mdcr3EnPM2 then s.trapMonitor
      else if s.haveEL3 && s.spmNoRead s.spm.spmaccessr3 then s.trapMonitor
      else if !s.cfg.spmuCounterImplemented s.selectedSpmu (s.bankIndex m) then .razWi
      else .perform (.spmevtyper s.selectedSpmu (s.bankIndex m))
    | .el1 =>
      if s.undefPriority && !s.mdcr3EnPM2 then .undefined
      else if s.undefPriority && s.spmNoRead s.spm.spmaccessr3 then .undefined
      else if s.fgt2Read .nSPMEVTYPERn_EL0 then .trap .el2
      else if s.el2Enabled && !s.mdcr2EnSPM then .trap .el2
      else if s.el2Enabled && s.spmNoRead s.spm.spmaccessr2 then .trap .el2
      else if s.haveEL3 && !s.mdcr3EnPM2 then s.trapMonitor
      else if s.haveEL3 && s.spmNoRead s.spm.spmaccessr3 then s.trapMonitor
      else if !s.cfg.spmuCounterImplemented s.selectedSpmu (s.bankIndex m) then .razWi
      else .perform (.spmevtyper s.selectedSpmu (s.bankIndex m))
    | .el2 =>
      if s.undefPriority && !s.mdcr3EnPM2 then .undefined
      else if s.undefPriority && s.spmNoRead s.spm.spmaccessr3 then .undefined
      else if s.haveEL3 && !s.mdcr3EnPM2 then s.trapMonitor
      else if s.haveEL3 && s.spmNoRead s.spm.spmaccessr3 then s.trapMonitor
      else if !s.cfg.spmuCounterImplemented s.selectedSpmu (s.bankIndex m) then .razWi
      else .perform (.spmevtyper s.selectedSpmu (s.bankIndex m))
    | .el3 =>
      if !s.cfg.spmuCounterImplemented s.selectedSpmu (s.bankIndex m) then .razWi
      else .perform (.spmevtyper s.selectedSpmu (s.bankIndex m))

/-- `MRS_SPMEVTYPER0_EL0` (R1266). -/
def execMrsSpmevtyper0El0 (t : Nat) (s : State) : Outcome := finishRead (listingMrsSpmevtyperEl0 0 s) t s

/-- `MRS_SPMEVTYPER1_EL0` (R1266). -/
def execMrsSpmevtyper1El0 (t : Nat) (s : State) : Outcome := finishRead (listingMrsSpmevtyperEl0 1 s) t s

/-- `MRS_SPMEVTYPER2_EL0` (R1266). -/
def execMrsSpmevtyper2El0 (t : Nat) (s : State) : Outcome := finishRead (listingMrsSpmevtyperEl0 2 s) t s

/-- `MRS_SPMEVTYPER3_EL0` (R1266). -/
def execMrsSpmevtyper3El0 (t : Nat) (s : State) : Outcome := finishRead (listingMrsSpmevtyperEl0 3 s) t s

/-- `MRS_SPMEVTYPER4_EL0` (R1266). -/
def execMrsSpmevtyper4El0 (t : Nat) (s : State) : Outcome := finishRead (listingMrsSpmevtyperEl0 4 s) t s

/-- `MRS_SPMEVTYPER5_EL0` (R1266). -/
def execMrsSpmevtyper5El0 (t : Nat) (s : State) : Outcome := finishRead (listingMrsSpmevtyperEl0 5 s) t s

/-- `MRS_SPMEVTYPER6_EL0` (R1266). -/
def execMrsSpmevtyper6El0 (t : Nat) (s : State) : Outcome := finishRead (listingMrsSpmevtyperEl0 6 s) t s

/-- `MRS_SPMEVTYPER7_EL0` (R1266). -/
def execMrsSpmevtyper7El0 (t : Nat) (s : State) : Outcome := finishRead (listingMrsSpmevtyperEl0 7 s) t s

/-- `MRS_SPMEVTYPER8_EL0` (R1266). -/
def execMrsSpmevtyper8El0 (t : Nat) (s : State) : Outcome := finishRead (listingMrsSpmevtyperEl0 8 s) t s

/-- `MRS_SPMEVTYPER9_EL0` (R1266). -/
def execMrsSpmevtyper9El0 (t : Nat) (s : State) : Outcome := finishRead (listingMrsSpmevtyperEl0 9 s) t s

/-- `MRS_SPMEVTYPER10_EL0` (R1266). -/
def execMrsSpmevtyper10El0 (t : Nat) (s : State) : Outcome := finishRead (listingMrsSpmevtyperEl0 10 s) t s

/-- `MRS_SPMEVTYPER11_EL0` (R1266). -/
def execMrsSpmevtyper11El0 (t : Nat) (s : State) : Outcome := finishRead (listingMrsSpmevtyperEl0 11 s) t s

/-- `MRS_SPMEVTYPER12_EL0` (R1266). -/
def execMrsSpmevtyper12El0 (t : Nat) (s : State) : Outcome := finishRead (listingMrsSpmevtyperEl0 12 s) t s

/-- `MRS_SPMEVTYPER13_EL0` (R1266). -/
def execMrsSpmevtyper13El0 (t : Nat) (s : State) : Outcome := finishRead (listingMrsSpmevtyperEl0 13 s) t s

/-- `MRS_SPMEVTYPER14_EL0` (R1266). -/
def execMrsSpmevtyper14El0 (t : Nat) (s : State) : Outcome := finishRead (listingMrsSpmevtyperEl0 14 s) t s

/-- `MRS_SPMEVTYPER15_EL0` (R1266). -/
def execMrsSpmevtyper15El0 (t : Nat) (s : State) : Outcome := finishRead (listingMrsSpmevtyperEl0 15 s) t s

/-- `MSR SPMEVTYPER<m>_EL0`: the listing of R1267. The listing's last line, the write at EL3, is missing in the source:
it is restored from the arm of EL2. DEDUCED. -/
def listingMsrSpmevtyperEl0 (m : Nat) (s : State) : Access :=
  if !(s.has .SPMU && s.has .AA64) then .undefined
  else
    match s.inp.el with
    | .el0 =>
      if s.undefPriority && !s.mdcr3EnPM2 then .undefined
      else if s.undefPriority && s.spmNoWrite s.spm.spmaccessr3 then .undefined
      else if !s.inp.mdscrEnSPM then s.trapUser
      else if !s.inp.inHostEL0 && s.spmNoWrite s.spm.spmaccessr1 then s.trapUser
      else if !s.inp.inHostEL0 && s.fgt2Write .nSPMEVTYPERn_EL0 then .trap .el2
      else if s.el2Enabled && !s.mdcr2EnSPM then .trap .el2
      else if s.el2Enabled && s.spmNoWrite s.spm.spmaccessr2 then .trap .el2
      else if s.haveEL3 && !s.mdcr3EnPM2 then s.trapMonitor
      else if s.haveEL3 && s.spmNoWrite s.spm.spmaccessr3 then s.trapMonitor
      else if !s.cfg.spmuCounterImplemented s.selectedSpmu (s.bankIndex m) then .razWi
      else .perform (.spmevtyper s.selectedSpmu (s.bankIndex m))
    | .el1 =>
      if s.undefPriority && !s.mdcr3EnPM2 then .undefined
      else if s.undefPriority && s.spmNoWrite s.spm.spmaccessr3 then .undefined
      else if s.fgt2Write .nSPMEVTYPERn_EL0 then .trap .el2
      else if s.el2Enabled && !s.mdcr2EnSPM then .trap .el2
      else if s.el2Enabled && s.spmNoWrite s.spm.spmaccessr2 then .trap .el2
      else if s.haveEL3 && !s.mdcr3EnPM2 then s.trapMonitor
      else if s.haveEL3 && s.spmNoWrite s.spm.spmaccessr3 then s.trapMonitor
      else if !s.cfg.spmuCounterImplemented s.selectedSpmu (s.bankIndex m) then .razWi
      else .perform (.spmevtyper s.selectedSpmu (s.bankIndex m))
    | .el2 =>
      if s.undefPriority && !s.mdcr3EnPM2 then .undefined
      else if s.undefPriority && s.spmNoWrite s.spm.spmaccessr3 then .undefined
      else if s.haveEL3 && !s.mdcr3EnPM2 then s.trapMonitor
      else if s.haveEL3 && s.spmNoWrite s.spm.spmaccessr3 then s.trapMonitor
      else if !s.cfg.spmuCounterImplemented s.selectedSpmu (s.bankIndex m) then .razWi
      else .perform (.spmevtyper s.selectedSpmu (s.bankIndex m))
    | .el3 =>
      if !s.cfg.spmuCounterImplemented s.selectedSpmu (s.bankIndex m) then .razWi
      else .perform (.spmevtyper s.selectedSpmu (s.bankIndex m))

/-- `MSR_SPMEVTYPER0_EL0` (R1267). -/
def execMsrSpmevtyper0El0 (t : Nat) (s : State) : Outcome := finishWrite (listingMsrSpmevtyperEl0 0 s) t s

/-- `MSR_SPMEVTYPER1_EL0` (R1267). -/
def execMsrSpmevtyper1El0 (t : Nat) (s : State) : Outcome := finishWrite (listingMsrSpmevtyperEl0 1 s) t s

/-- `MSR_SPMEVTYPER2_EL0` (R1267). -/
def execMsrSpmevtyper2El0 (t : Nat) (s : State) : Outcome := finishWrite (listingMsrSpmevtyperEl0 2 s) t s

/-- `MSR_SPMEVTYPER3_EL0` (R1267). -/
def execMsrSpmevtyper3El0 (t : Nat) (s : State) : Outcome := finishWrite (listingMsrSpmevtyperEl0 3 s) t s

/-- `MSR_SPMEVTYPER4_EL0` (R1267). -/
def execMsrSpmevtyper4El0 (t : Nat) (s : State) : Outcome := finishWrite (listingMsrSpmevtyperEl0 4 s) t s

/-- `MSR_SPMEVTYPER5_EL0` (R1267). -/
def execMsrSpmevtyper5El0 (t : Nat) (s : State) : Outcome := finishWrite (listingMsrSpmevtyperEl0 5 s) t s

/-- `MSR_SPMEVTYPER6_EL0` (R1267). -/
def execMsrSpmevtyper6El0 (t : Nat) (s : State) : Outcome := finishWrite (listingMsrSpmevtyperEl0 6 s) t s

/-- `MSR_SPMEVTYPER7_EL0` (R1267). -/
def execMsrSpmevtyper7El0 (t : Nat) (s : State) : Outcome := finishWrite (listingMsrSpmevtyperEl0 7 s) t s

/-- `MSR_SPMEVTYPER8_EL0` (R1267). -/
def execMsrSpmevtyper8El0 (t : Nat) (s : State) : Outcome := finishWrite (listingMsrSpmevtyperEl0 8 s) t s

/-- `MSR_SPMEVTYPER9_EL0` (R1267). -/
def execMsrSpmevtyper9El0 (t : Nat) (s : State) : Outcome := finishWrite (listingMsrSpmevtyperEl0 9 s) t s

/-- `MSR_SPMEVTYPER10_EL0` (R1267). -/
def execMsrSpmevtyper10El0 (t : Nat) (s : State) : Outcome := finishWrite (listingMsrSpmevtyperEl0 10 s) t s

/-- `MSR_SPMEVTYPER11_EL0` (R1267). -/
def execMsrSpmevtyper11El0 (t : Nat) (s : State) : Outcome := finishWrite (listingMsrSpmevtyperEl0 11 s) t s

/-- `MSR_SPMEVTYPER12_EL0` (R1267). -/
def execMsrSpmevtyper12El0 (t : Nat) (s : State) : Outcome := finishWrite (listingMsrSpmevtyperEl0 12 s) t s

/-- `MSR_SPMEVTYPER13_EL0` (R1267). -/
def execMsrSpmevtyper13El0 (t : Nat) (s : State) : Outcome := finishWrite (listingMsrSpmevtyperEl0 13 s) t s

/-- `MSR_SPMEVTYPER14_EL0` (R1267). -/
def execMsrSpmevtyper14El0 (t : Nat) (s : State) : Outcome := finishWrite (listingMsrSpmevtyperEl0 14 s) t s

/-- `MSR_SPMEVTYPER15_EL0` (R1267). -/
def execMsrSpmevtyper15El0 (t : Nat) (s : State) : Outcome := finishWrite (listingMsrSpmevtyperEl0 15 s) t s

/-- `MRS SPMIIDR_EL1`: the listing of R1290. -/
def listingMrsSpmiidrEl1 (s : State) : Access :=
  if !(s.has .SPMU && s.has .AA64) then .undefined
  else
    match s.inp.el with
    | .el0 => .undefined
    | .el1 =>
      if s.undefPriority && !s.mdcr3EnPM2 then .undefined
      else if s.undefPriority && s.spmNoRead s.spm.spmaccessr3 then .undefined
      else if s.fgt2Read .nSPMID then .trap .el2
      else if s.el2Enabled && !s.mdcr2EnSPM then .trap .el2
      else if s.el2Enabled && s.spmNoRead s.spm.spmaccessr2 then .trap .el2
      else if s.haveEL3 && !s.mdcr3EnPM2 then s.trapMonitor
      else if s.haveEL3 && s.spmNoRead s.spm.spmaccessr3 then s.trapMonitor
      else .perform (.spmiidr s.selectedSpmu)
    | .el2 =>
      if s.undefPriority && !s.mdcr3EnPM2 then .undefined
      else if s.undefPriority && s.spmNoRead s.spm.spmaccessr3 then .undefined
      else if s.haveEL3 && !s.mdcr3EnPM2 then s.trapMonitor
      else if s.haveEL3 && s.spmNoRead s.spm.spmaccessr3 then s.trapMonitor
      else .perform (.spmiidr s.selectedSpmu)
    | .el3 => .perform (.spmiidr s.selectedSpmu)

/-- `MRS_SPMIIDR_EL1` (R1290). -/
def execMrsSpmiidrEl1 (t : Nat) (s : State) : Outcome := finishRead (listingMrsSpmiidrEl1 s) t s

end Sys2Proof.Machine
end

