-- ==== Sys2Proof/Machine/User.lean ====
section
/-! DEFINITION. The accesses to PMUSERENR_EL0, the PMXEV* windows and PMZR_EL0:
the access listings, and one meaning per instruction. -/

namespace Sys2Proof.Machine

/-- `MRS PMUSERENR_EL0`: the listing of R893. -/
def listingMrsPmuserenrEl0 (s : State) : Access :=
  if !(s.has .PMUv3 && s.has .AA64) then .undefined
  else
    match s.inp.el with
    | .el0 =>
      if s.undefPriority && s.mdcr3TPM then .undefined
      else if !s.inp.inHostEL0 && s.fgtRead .PMUSERENR_EL0 then .trap .el2
      else if s.el2Enabled && s.mdcr2TPM then .trap .el2
      else if s.haveEL3 && s.mdcr3TPM then s.trapMonitor
      else .perform .pmuserenr
    | .el1 =>
      if s.undefPriority && s.mdcr3TPM then .undefined
      else if s.fgtRead .PMUSERENR_EL0 then .trap .el2
      else if s.el2Enabled && s.mdcr2TPM then .trap .el2
      else if s.haveEL3 && s.mdcr3TPM then s.trapMonitor
      else .perform .pmuserenr
    | .el2 =>
      if s.undefPriority && s.mdcr3TPM then .undefined
      else if s.haveEL3 && s.mdcr3TPM then s.trapMonitor
      else .perform .pmuserenr
    | .el3 => .perform .pmuserenr

/-- `MRS_PMUSERENR_EL0` (R893). -/
def execMrsPmuserenrEl0 (t : Nat) (s : State) : Outcome := finishRead (listingMrsPmuserenrEl0 s) t s

/-- `MSR PMUSERENR_EL0`: the listing of R894. -/
def listingMsrPmuserenrEl0 (s : State) : Access :=
  if !(s.has .PMUv3 && s.has .AA64) then .undefined
  else
    match s.inp.el with
    | .el0 => .undefined
    | .el1 =>
      if s.undefPriority && s.mdcr3TPM then .undefined
      else if s.fgtWrite .PMUSERENR_EL0 then .trap .el2
      else if s.el2Enabled && s.mdcr2TPM then .trap .el2
      else if s.haveEL3 && s.mdcr3TPM then s.trapMonitor
      else .perform .pmuserenr
    | .el2 =>
      if s.undefPriority && s.mdcr3TPM then .undefined
      else if s.haveEL3 && s.mdcr3TPM then s.trapMonitor
      else .perform .pmuserenr
    | .el3 => .perform .pmuserenr

/-- `MSR_PMUSERENR_EL0` (R894). -/
def execMsrPmuserenrEl0 (t : Nat) (s : State) : Outcome := finishWrite (listingMsrPmuserenrEl0 s) t s

/-- `MRS PMXEVCNTR_EL0`: the listing of R950. `i` is PMSELR_EL0.SEL. -/
def listingMrsPmxevcntrEl0 (i : Nat) (s : State) : Access :=
  if !(s.has .PMUv3 && s.has .AA64) then .undefined
  else if decide (s.numSelfHosted ≤ i) then
    if s.has .FGT then .undefined
    else .constrained .unimplemented
  else
    match s.inp.el with
    | .el0 =>
      if s.undefPriority && s.mdcr3TPM then .undefined
      else if s.userDisabledBut s.userER then s.trapUser
      else if !s.inp.inHostEL0 && s.fgtRead .PMEVCNTRn_EL0 then .trap .el2
      else if s.el2Enabled && s.mdcr2TPM then .trap .el2
      else if s.el2Enabled && decide (s.numAccessible ≤ i) then
        if !s.has .FGT then .constrained .reservedForEL2
        else .trap .el2
      else if s.haveEL3 && s.mdcr3TPM then s.trapMonitor
      else if s.userUENOn && !s.uacrP i then .razWi
      else .perform (.pmevcntr i)
    | .el1 =>
      if s.undefPriority && s.mdcr3TPM then .undefined
      else if s.fgtRead .PMEVCNTRn_EL0 then .trap .el2
      else if s.el2Enabled && s.mdcr2TPM then .trap .el2
      else if s.el2Enabled && decide (s.numAccessible ≤ i) then
        if !s.has .FGT then .constrained .reservedForEL2
        else .trap .el2
      else if s.haveEL3 && s.mdcr3TPM then s.trapMonitor
      else .perform (.pmevcntr i)
    | .el2 =>
      if s.undefPriority && s.mdcr3TPM then .undefined
      else if s.haveEL3 && s.mdcr3TPM then s.trapMonitor
      else .perform (.pmevcntr i)
    | .el3 => .perform (.pmevcntr i)

/-- `MRS_PMXEVCNTR_EL0` (R950). -/
def execMrsPmxevcntrEl0 (t : Nat) (s : State) : Outcome := finishIndexedRead .pmxevcntr listingMrsPmxevcntrEl0 s.sel t s

/-- `MSR PMXEVCNTR_EL0`: the listing of R951. `i` is PMSELR_EL0.SEL. -/
def listingMsrPmxevcntrEl0 (i : Nat) (s : State) : Access :=
  if !(s.has .PMUv3 && s.has .AA64) then .undefined
  else if decide (s.numSelfHosted ≤ i) then
    if s.has .FGT then .undefined
    else .constrained .unimplemented
  else
    match s.inp.el with
    | .el0 =>
      if s.undefPriority && s.mdcr3TPM then .undefined
      else if s.userDisabled then s.trapUser
      else if !s.inp.inHostEL0 && s.fgtWrite .PMEVCNTRn_EL0 then .trap .el2
      else if s.el2Enabled && s.mdcr2TPM then .trap .el2
      else if s.el2Enabled && decide (s.numAccessible ≤ i) then
        if !s.has .FGT then .constrained .reservedForEL2
        else .trap .el2
      else if s.haveEL3 && s.mdcr3TPM then s.trapMonitor
      else if s.userUENOn && (!s.uacrP i || s.userER) then .razWi
      else .perform (.pmevcntr i)
    | .el1 =>
      if s.undefPriority && s.mdcr3TPM then .undefined
      else if s.fgtWrite .PMEVCNTRn_EL0 then .trap .el2
      else if s.el2Enabled && s.mdcr2TPM then .trap .el2
      else if s.el2Enabled && decide (s.numAccessible ≤ i) then
        if !s.has .FGT then .constrained .reservedForEL2
        else .trap .el2
      else if s.haveEL3 && s.mdcr3TPM then s.trapMonitor
      else .perform (.pmevcntr i)
    | .el2 =>
      if s.undefPriority && s.mdcr3TPM then .undefined
      else if s.haveEL3 && s.mdcr3TPM then s.trapMonitor
      else .perform (.pmevcntr i)
    | .el3 => .perform (.pmevcntr i)

/-- `MSR_PMXEVCNTR_EL0` (R951). -/
def execMsrPmxevcntrEl0 (t : Nat) (s : State) : Outcome :=
  finishIndexedWrite .pmxevcntr listingMsrPmxevcntrEl0 s.sel t s

/-- `MRS PMXEVTYPER_EL0`: the listing of R960. `i` is PMSELR_EL0.SEL. -/
def listingMrsPmxevtyperEl0 (i : Nat) (s : State) : Access :=
  if !(s.has .PMUv3 && s.has .AA64) then .undefined
  else if i != 31 && decide (s.numSelfHosted ≤ i) then
    if s.has .FGT then .undefined
    else .constrained .unimplemented
  else
    match s.inp.el with
    | .el0 =>
      if s.undefPriority && s.mdcr3TPM then .undefined
      else if s.userDisabled then s.trapUser
      else if !s.inp.inHostEL0 && s.fgtRead .PMEVTYPERn_EL0 then .trap .el2
      else if s.el2Enabled && s.mdcr2TPM then .trap .el2
      else if s.el2Enabled && i != 31 && decide (s.numAccessible ≤ i) then
        if !s.has .FGT then .constrained .reservedForEL2
        else .trap .el2
      else if s.haveEL3 && s.mdcr3TPM then s.trapMonitor
      else if s.userUENOn && ((i != 31 && !s.uacrP i) || (i == 31 && !s.uacrC)) then .razWi
      else if i == 31 then .perform .pmccfiltr
      else .perform (.pmevtyper i)
    | .el1 =>
      if s.undefPriority && s.mdcr3TPM then .undefined
      else if s.fgtRead .PMEVTYPERn_EL0 then .trap .el2
      else if s.el2Enabled && s.mdcr2TPM then .trap .el2
      else if s.el2Enabled && i != 31 && decide (s.numAccessible ≤ i) then
        if !s.has .FGT then .constrained .reservedForEL2
        else .trap .el2
      else if s.haveEL3 && s.mdcr3TPM then s.trapMonitor
      else if i == 31 then .perform .pmccfiltr
      else .perform (.pmevtyper i)
    | .el2 =>
      if s.undefPriority && s.mdcr3TPM then .undefined
      else if s.haveEL3 && s.mdcr3TPM then s.trapMonitor
      else if i == 31 then .perform .pmccfiltr
      else .perform (.pmevtyper i)
    | .el3 =>
      if i == 31 then .perform .pmccfiltr
      else .perform (.pmevtyper i)

/-- `MRS_PMXEVTYPER_EL0` (R960). -/
def execMrsPmxevtyperEl0 (t : Nat) (s : State) : Outcome :=
  finishIndexedRead .pmxevtyper listingMrsPmxevtyperEl0 s.sel t s

/-- `MSR PMXEVTYPER_EL0`: the listing of R961. `i` is PMSELR_EL0.SEL. -/
def listingMsrPmxevtyperEl0 (i : Nat) (s : State) : Access :=
  if !(s.has .PMUv3 && s.has .AA64) then .undefined
  else if i != 31 && decide (s.numSelfHosted ≤ i) then
    if s.has .FGT then .undefined
    else .constrained .unimplemented
  else
    match s.inp.el with
    | .el0 =>
      if s.undefPriority && s.mdcr3TPM then .undefined
      else if s.userDisabled then s.trapUser
      else if !s.inp.inHostEL0 && s.fgtWrite .PMEVTYPERn_EL0 then .trap .el2
      else if s.el2Enabled && s.mdcr2TPM then .trap .el2
      else if s.el2Enabled && i != 31 && decide (s.numAccessible ≤ i) then
        if !s.has .FGT then .constrained .reservedForEL2
        else .trap .el2
      else if s.haveEL3 && s.mdcr3TPM then s.trapMonitor
      else if s.userUENOn && ((i != 31 && (!s.uacrP i || s.userER)) || (i == 31 && (!s.uacrC || s.userCR))) then
        .razWi
      else if i == 31 then .perform .pmccfiltr
      else .perform (.pmevtyper i)
    | .el1 =>
      if s.undefPriority && s.mdcr3TPM then .undefined
      else if s.fgtWrite .PMEVTYPERn_EL0 then .trap .el2
      else if s.el2Enabled && s.mdcr2TPM then .trap .el2
      else if s.el2Enabled && i != 31 && decide (s.numAccessible ≤ i) then
        if !s.has .FGT then .constrained .reservedForEL2
        else .trap .el2
      else if s.haveEL3 && s.mdcr3TPM then s.trapMonitor
      else if i == 31 then .perform .pmccfiltr
      else .perform (.pmevtyper i)
    | .el2 =>
      if s.undefPriority && s.mdcr3TPM then .undefined
      else if s.haveEL3 && s.mdcr3TPM then s.trapMonitor
      else if i == 31 then .perform .pmccfiltr
      else .perform (.pmevtyper i)
    | .el3 =>
      if i == 31 then .perform .pmccfiltr
      else .perform (.pmevtyper i)

/-- `MSR_PMXEVTYPER_EL0` (R961). -/
def execMsrPmxevtyperEl0 (t : Nat) (s : State) : Outcome :=
  finishIndexedWrite .pmxevtyper listingMsrPmxevtyperEl0 s.sel t s

/-- `MSR PMZR_EL0`: the listing of R976. -/
def listingMsrPmzrEl0 (s : State) : Access :=
  if !(s.has .PMUv3p9 && s.has .AA64) then .undefined
  else
    match s.inp.el with
    | .el0 =>
      if s.undefPriority && s.mdcr3TPM then .undefined
      else if s.userDisabled then s.trapUser
      else if !s.inp.inHostEL0 && s.fgt2Write .nPMZR_EL0 then .trap .el2
      else if s.el2Enabled && s.mdcr2TPM then .trap .el2
      else if s.haveEL3 && s.mdcr3TPM then s.trapMonitor
      else .perform .pmzr
    | .el1 =>
      if s.undefPriority && s.mdcr3TPM then .undefined
      else if s.fgt2Write .nPMZR_EL0 then .trap .el2
      else if s.el2Enabled && s.mdcr2TPM then .trap .el2
      else if s.haveEL3 && s.mdcr3TPM then s.trapMonitor
      else .perform .pmzr
    | .el2 =>
      if s.undefPriority && s.mdcr3TPM then .undefined
      else if s.haveEL3 && s.mdcr3TPM then s.trapMonitor
      else .perform .pmzr
    | .el3 => .perform .pmzr

/-- `MSR_PMZR_EL0` (R976). -/
def execMsrPmzrEl0 (t : Nat) (s : State) : Outcome := finishWrite (listingMsrPmzrEl0 s) t s

end Sys2Proof.Machine
end

