-- ==== Sys2Proof/Machine/Dispatch.lean ====
section
/-! DEFINITION. The dispatcher: one arm per instruction, one direct call of its meaning each. -/

namespace Sys2Proof.Machine

def exec (i : Instr) (s : State) : Host.Outcome State Fault Refusal :=
  match i with
  | .mrsPmccfiltrEl0 t => Sys2Proof.Machine.execMrsPmccfiltrEl0 t s
  | .msrPmccfiltrEl0 t => Sys2Proof.Machine.execMsrPmccfiltrEl0 t s
  | .mrsPmccntrEl0 t => Sys2Proof.Machine.execMrsPmccntrEl0 t s
  | .msrPmccntrEl0 t => Sys2Proof.Machine.execMsrPmccntrEl0 t s
  | .mrsPmccntsvrEl1 t => Sys2Proof.Machine.execMrsPmccntsvrEl1 t s
  | .mrsPmceid0El0 t => Sys2Proof.Machine.execMrsPmceid0El0 t s
  | .mrsPmceid1El0 t => Sys2Proof.Machine.execMrsPmceid1El0 t s
  | .mrsPmcntenclrEl0 t => Sys2Proof.Machine.execMrsPmcntenclrEl0 t s
  | .msrPmcntenclrEl0 t => Sys2Proof.Machine.execMsrPmcntenclrEl0 t s
  | .mrsPmcntensetEl0 t => Sys2Proof.Machine.execMrsPmcntensetEl0 t s
  | .msrPmcntensetEl0 t => Sys2Proof.Machine.execMsrPmcntensetEl0 t s
  | .mrsPmcrEl0 t => Sys2Proof.Machine.execMrsPmcrEl0 t s
  | .msrPmcrEl0 t => Sys2Proof.Machine.execMsrPmcrEl0 t s
  | .mrsPmecrEl1 t => Sys2Proof.Machine.execMrsPmecrEl1 t s
  | .msrPmecrEl1 t => Sys2Proof.Machine.execMsrPmecrEl1 t s
  | .mrsPmevcntr0El0 t => Sys2Proof.Machine.execMrsPmevcntr0El0 t s
  | .mrsPmevcntr1El0 t => Sys2Proof.Machine.execMrsPmevcntr1El0 t s
  | .mrsPmevcntr2El0 t => Sys2Proof.Machine.execMrsPmevcntr2El0 t s
  | .mrsPmevcntr3El0 t => Sys2Proof.Machine.execMrsPmevcntr3El0 t s
  | .mrsPmevcntr4El0 t => Sys2Proof.Machine.execMrsPmevcntr4El0 t s
  | .mrsPmevcntr5El0 t => Sys2Proof.Machine.execMrsPmevcntr5El0 t s
  | .mrsPmevcntr6El0 t => Sys2Proof.Machine.execMrsPmevcntr6El0 t s
  | .mrsPmevcntr7El0 t => Sys2Proof.Machine.execMrsPmevcntr7El0 t s
  | .mrsPmevcntr8El0 t => Sys2Proof.Machine.execMrsPmevcntr8El0 t s
  | .mrsPmevcntr9El0 t => Sys2Proof.Machine.execMrsPmevcntr9El0 t s
  | .mrsPmevcntr10El0 t => Sys2Proof.Machine.execMrsPmevcntr10El0 t s
  | .mrsPmevcntr11El0 t => Sys2Proof.Machine.execMrsPmevcntr11El0 t s
  | .mrsPmevcntr12El0 t => Sys2Proof.Machine.execMrsPmevcntr12El0 t s
  | .mrsPmevcntr13El0 t => Sys2Proof.Machine.execMrsPmevcntr13El0 t s
  | .mrsPmevcntr14El0 t => Sys2Proof.Machine.execMrsPmevcntr14El0 t s
  | .mrsPmevcntr15El0 t => Sys2Proof.Machine.execMrsPmevcntr15El0 t s
  | .mrsPmevcntr16El0 t => Sys2Proof.Machine.execMrsPmevcntr16El0 t s
  | .mrsPmevcntr17El0 t => Sys2Proof.Machine.execMrsPmevcntr17El0 t s
  | .mrsPmevcntr18El0 t => Sys2Proof.Machine.execMrsPmevcntr18El0 t s
  | .mrsPmevcntr19El0 t => Sys2Proof.Machine.execMrsPmevcntr19El0 t s
  | .mrsPmevcntr20El0 t => Sys2Proof.Machine.execMrsPmevcntr20El0 t s
  | .mrsPmevcntr21El0 t => Sys2Proof.Machine.execMrsPmevcntr21El0 t s
  | .mrsPmevcntr22El0 t => Sys2Proof.Machine.execMrsPmevcntr22El0 t s
  | .mrsPmevcntr23El0 t => Sys2Proof.Machine.execMrsPmevcntr23El0 t s
  | .mrsPmevcntr24El0 t => Sys2Proof.Machine.execMrsPmevcntr24El0 t s
  | .mrsPmevcntr25El0 t => Sys2Proof.Machine.execMrsPmevcntr25El0 t s
  | .mrsPmevcntr26El0 t => Sys2Proof.Machine.execMrsPmevcntr26El0 t s
  | .mrsPmevcntr27El0 t => Sys2Proof.Machine.execMrsPmevcntr27El0 t s
  | .mrsPmevcntr28El0 t => Sys2Proof.Machine.execMrsPmevcntr28El0 t s
  | .mrsPmevcntr29El0 t => Sys2Proof.Machine.execMrsPmevcntr29El0 t s
  | .mrsPmevcntr30El0 t => Sys2Proof.Machine.execMrsPmevcntr30El0 t s
  | .msrPmevcntr0El0 t => Sys2Proof.Machine.execMsrPmevcntr0El0 t s
  | .msrPmevcntr1El0 t => Sys2Proof.Machine.execMsrPmevcntr1El0 t s
  | .msrPmevcntr2El0 t => Sys2Proof.Machine.execMsrPmevcntr2El0 t s
  | .msrPmevcntr3El0 t => Sys2Proof.Machine.execMsrPmevcntr3El0 t s
  | .msrPmevcntr4El0 t => Sys2Proof.Machine.execMsrPmevcntr4El0 t s
  | .msrPmevcntr5El0 t => Sys2Proof.Machine.execMsrPmevcntr5El0 t s
  | .msrPmevcntr6El0 t => Sys2Proof.Machine.execMsrPmevcntr6El0 t s
  | .msrPmevcntr7El0 t => Sys2Proof.Machine.execMsrPmevcntr7El0 t s
  | .msrPmevcntr8El0 t => Sys2Proof.Machine.execMsrPmevcntr8El0 t s
  | .msrPmevcntr9El0 t => Sys2Proof.Machine.execMsrPmevcntr9El0 t s
  | .msrPmevcntr10El0 t => Sys2Proof.Machine.execMsrPmevcntr10El0 t s
  | .msrPmevcntr11El0 t => Sys2Proof.Machine.execMsrPmevcntr11El0 t s
  | .msrPmevcntr12El0 t => Sys2Proof.Machine.execMsrPmevcntr12El0 t s
  | .msrPmevcntr13El0 t => Sys2Proof.Machine.execMsrPmevcntr13El0 t s
  | .msrPmevcntr14El0 t => Sys2Proof.Machine.execMsrPmevcntr14El0 t s
  | .msrPmevcntr15El0 t => Sys2Proof.Machine.execMsrPmevcntr15El0 t s
  | .msrPmevcntr16El0 t => Sys2Proof.Machine.execMsrPmevcntr16El0 t s
  | .msrPmevcntr17El0 t => Sys2Proof.Machine.execMsrPmevcntr17El0 t s
  | .msrPmevcntr18El0 t => Sys2Proof.Machine.execMsrPmevcntr18El0 t s
  | .msrPmevcntr19El0 t => Sys2Proof.Machine.execMsrPmevcntr19El0 t s
  | .msrPmevcntr20El0 t => Sys2Proof.Machine.execMsrPmevcntr20El0 t s
  | .msrPmevcntr21El0 t => Sys2Proof.Machine.execMsrPmevcntr21El0 t s
  | .msrPmevcntr22El0 t => Sys2Proof.Machine.execMsrPmevcntr22El0 t s
  | .msrPmevcntr23El0 t => Sys2Proof.Machine.execMsrPmevcntr23El0 t s
  | .msrPmevcntr24El0 t => Sys2Proof.Machine.execMsrPmevcntr24El0 t s
  | .msrPmevcntr25El0 t => Sys2Proof.Machine.execMsrPmevcntr25El0 t s
  | .msrPmevcntr26El0 t => Sys2Proof.Machine.execMsrPmevcntr26El0 t s
  | .msrPmevcntr27El0 t => Sys2Proof.Machine.execMsrPmevcntr27El0 t s
  | .msrPmevcntr28El0 t => Sys2Proof.Machine.execMsrPmevcntr28El0 t s
  | .msrPmevcntr29El0 t => Sys2Proof.Machine.execMsrPmevcntr29El0 t s
  | .msrPmevcntr30El0 t => Sys2Proof.Machine.execMsrPmevcntr30El0 t s
  | .mrsPmevcntsvr0El1 t => Sys2Proof.Machine.execMrsPmevcntsvr0El1 t s
  | .mrsPmevcntsvr1El1 t => Sys2Proof.Machine.execMrsPmevcntsvr1El1 t s
  | .mrsPmevcntsvr2El1 t => Sys2Proof.Machine.execMrsPmevcntsvr2El1 t s
  | .mrsPmevcntsvr3El1 t => Sys2Proof.Machine.execMrsPmevcntsvr3El1 t s
  | .mrsPmevcntsvr4El1 t => Sys2Proof.Machine.execMrsPmevcntsvr4El1 t s
  | .mrsPmevcntsvr5El1 t => Sys2Proof.Machine.execMrsPmevcntsvr5El1 t s
  | .mrsPmevcntsvr6El1 t => Sys2Proof.Machine.execMrsPmevcntsvr6El1 t s
  | .mrsPmevcntsvr7El1 t => Sys2Proof.Machine.execMrsPmevcntsvr7El1 t s
  | .mrsPmevcntsvr8El1 t => Sys2Proof.Machine.execMrsPmevcntsvr8El1 t s
  | .mrsPmevcntsvr9El1 t => Sys2Proof.Machine.execMrsPmevcntsvr9El1 t s
  | .mrsPmevcntsvr10El1 t => Sys2Proof.Machine.execMrsPmevcntsvr10El1 t s
  | .mrsPmevcntsvr11El1 t => Sys2Proof.Machine.execMrsPmevcntsvr11El1 t s
  | .mrsPmevcntsvr12El1 t => Sys2Proof.Machine.execMrsPmevcntsvr12El1 t s
  | .mrsPmevcntsvr13El1 t => Sys2Proof.Machine.execMrsPmevcntsvr13El1 t s
  | .mrsPmevcntsvr14El1 t => Sys2Proof.Machine.execMrsPmevcntsvr14El1 t s
  | .mrsPmevcntsvr15El1 t => Sys2Proof.Machine.execMrsPmevcntsvr15El1 t s
  | .mrsPmevcntsvr16El1 t => Sys2Proof.Machine.execMrsPmevcntsvr16El1 t s
  | .mrsPmevcntsvr17El1 t => Sys2Proof.Machine.execMrsPmevcntsvr17El1 t s
  | .mrsPmevcntsvr18El1 t => Sys2Proof.Machine.execMrsPmevcntsvr18El1 t s
  | .mrsPmevcntsvr19El1 t => Sys2Proof.Machine.execMrsPmevcntsvr19El1 t s
  | .mrsPmevcntsvr20El1 t => Sys2Proof.Machine.execMrsPmevcntsvr20El1 t s
  | .mrsPmevcntsvr21El1 t => Sys2Proof.Machine.execMrsPmevcntsvr21El1 t s
  | .mrsPmevcntsvr22El1 t => Sys2Proof.Machine.execMrsPmevcntsvr22El1 t s
  | .mrsPmevcntsvr23El1 t => Sys2Proof.Machine.execMrsPmevcntsvr23El1 t s
  | .mrsPmevcntsvr24El1 t => Sys2Proof.Machine.execMrsPmevcntsvr24El1 t s
  | .mrsPmevcntsvr25El1 t => Sys2Proof.Machine.execMrsPmevcntsvr25El1 t s
  | .mrsPmevcntsvr26El1 t => Sys2Proof.Machine.execMrsPmevcntsvr26El1 t s
  | .mrsPmevcntsvr27El1 t => Sys2Proof.Machine.execMrsPmevcntsvr27El1 t s
  | .mrsPmevcntsvr28El1 t => Sys2Proof.Machine.execMrsPmevcntsvr28El1 t s
  | .mrsPmevcntsvr29El1 t => Sys2Proof.Machine.execMrsPmevcntsvr29El1 t s
  | .mrsPmevcntsvr30El1 t => Sys2Proof.Machine.execMrsPmevcntsvr30El1 t s
  | .mrsPmevtyper0El0 t => Sys2Proof.Machine.execMrsPmevtyper0El0 t s
  | .mrsPmevtyper1El0 t => Sys2Proof.Machine.execMrsPmevtyper1El0 t s
  | .mrsPmevtyper2El0 t => Sys2Proof.Machine.execMrsPmevtyper2El0 t s
  | .mrsPmevtyper3El0 t => Sys2Proof.Machine.execMrsPmevtyper3El0 t s
  | .mrsPmevtyper4El0 t => Sys2Proof.Machine.execMrsPmevtyper4El0 t s
  | .mrsPmevtyper5El0 t => Sys2Proof.Machine.execMrsPmevtyper5El0 t s
  | .mrsPmevtyper6El0 t => Sys2Proof.Machine.execMrsPmevtyper6El0 t s
  | .mrsPmevtyper7El0 t => Sys2Proof.Machine.execMrsPmevtyper7El0 t s
  | .mrsPmevtyper8El0 t => Sys2Proof.Machine.execMrsPmevtyper8El0 t s
  | .mrsPmevtyper9El0 t => Sys2Proof.Machine.execMrsPmevtyper9El0 t s
  | .mrsPmevtyper10El0 t => Sys2Proof.Machine.execMrsPmevtyper10El0 t s
  | .mrsPmevtyper11El0 t => Sys2Proof.Machine.execMrsPmevtyper11El0 t s
  | .mrsPmevtyper12El0 t => Sys2Proof.Machine.execMrsPmevtyper12El0 t s
  | .mrsPmevtyper13El0 t => Sys2Proof.Machine.execMrsPmevtyper13El0 t s
  | .mrsPmevtyper14El0 t => Sys2Proof.Machine.execMrsPmevtyper14El0 t s
  | .mrsPmevtyper15El0 t => Sys2Proof.Machine.execMrsPmevtyper15El0 t s
  | .mrsPmevtyper16El0 t => Sys2Proof.Machine.execMrsPmevtyper16El0 t s
  | .mrsPmevtyper17El0 t => Sys2Proof.Machine.execMrsPmevtyper17El0 t s
  | .mrsPmevtyper18El0 t => Sys2Proof.Machine.execMrsPmevtyper18El0 t s
  | .mrsPmevtyper19El0 t => Sys2Proof.Machine.execMrsPmevtyper19El0 t s
  | .mrsPmevtyper20El0 t => Sys2Proof.Machine.execMrsPmevtyper20El0 t s
  | .mrsPmevtyper21El0 t => Sys2Proof.Machine.execMrsPmevtyper21El0 t s
  | .mrsPmevtyper22El0 t => Sys2Proof.Machine.execMrsPmevtyper22El0 t s
  | .mrsPmevtyper23El0 t => Sys2Proof.Machine.execMrsPmevtyper23El0 t s
  | .mrsPmevtyper24El0 t => Sys2Proof.Machine.execMrsPmevtyper24El0 t s
  | .mrsPmevtyper25El0 t => Sys2Proof.Machine.execMrsPmevtyper25El0 t s
  | .mrsPmevtyper26El0 t => Sys2Proof.Machine.execMrsPmevtyper26El0 t s
  | .mrsPmevtyper27El0 t => Sys2Proof.Machine.execMrsPmevtyper27El0 t s
  | .mrsPmevtyper28El0 t => Sys2Proof.Machine.execMrsPmevtyper28El0 t s
  | .mrsPmevtyper29El0 t => Sys2Proof.Machine.execMrsPmevtyper29El0 t s
  | .mrsPmevtyper30El0 t => Sys2Proof.Machine.execMrsPmevtyper30El0 t s
  | .msrPmevtyper0El0 t => Sys2Proof.Machine.execMsrPmevtyper0El0 t s
  | .msrPmevtyper1El0 t => Sys2Proof.Machine.execMsrPmevtyper1El0 t s
  | .msrPmevtyper2El0 t => Sys2Proof.Machine.execMsrPmevtyper2El0 t s
  | .msrPmevtyper3El0 t => Sys2Proof.Machine.execMsrPmevtyper3El0 t s
  | .msrPmevtyper4El0 t => Sys2Proof.Machine.execMsrPmevtyper4El0 t s
  | .msrPmevtyper5El0 t => Sys2Proof.Machine.execMsrPmevtyper5El0 t s
  | .msrPmevtyper6El0 t => Sys2Proof.Machine.execMsrPmevtyper6El0 t s
  | .msrPmevtyper7El0 t => Sys2Proof.Machine.execMsrPmevtyper7El0 t s
  | .msrPmevtyper8El0 t => Sys2Proof.Machine.execMsrPmevtyper8El0 t s
  | .msrPmevtyper9El0 t => Sys2Proof.Machine.execMsrPmevtyper9El0 t s
  | .msrPmevtyper10El0 t => Sys2Proof.Machine.execMsrPmevtyper10El0 t s
  | .msrPmevtyper11El0 t => Sys2Proof.Machine.execMsrPmevtyper11El0 t s
  | .msrPmevtyper12El0 t => Sys2Proof.Machine.execMsrPmevtyper12El0 t s
  | .msrPmevtyper13El0 t => Sys2Proof.Machine.execMsrPmevtyper13El0 t s
  | .msrPmevtyper14El0 t => Sys2Proof.Machine.execMsrPmevtyper14El0 t s
  | .msrPmevtyper15El0 t => Sys2Proof.Machine.execMsrPmevtyper15El0 t s
  | .msrPmevtyper16El0 t => Sys2Proof.Machine.execMsrPmevtyper16El0 t s
  | .msrPmevtyper17El0 t => Sys2Proof.Machine.execMsrPmevtyper17El0 t s
  | .msrPmevtyper18El0 t => Sys2Proof.Machine.execMsrPmevtyper18El0 t s
  | .msrPmevtyper19El0 t => Sys2Proof.Machine.execMsrPmevtyper19El0 t s
  | .msrPmevtyper20El0 t => Sys2Proof.Machine.execMsrPmevtyper20El0 t s
  | .msrPmevtyper21El0 t => Sys2Proof.Machine.execMsrPmevtyper21El0 t s
  | .msrPmevtyper22El0 t => Sys2Proof.Machine.execMsrPmevtyper22El0 t s
  | .msrPmevtyper23El0 t => Sys2Proof.Machine.execMsrPmevtyper23El0 t s
  | .msrPmevtyper24El0 t => Sys2Proof.Machine.execMsrPmevtyper24El0 t s
  | .msrPmevtyper25El0 t => Sys2Proof.Machine.execMsrPmevtyper25El0 t s
  | .msrPmevtyper26El0 t => Sys2Proof.Machine.execMsrPmevtyper26El0 t s
  | .msrPmevtyper27El0 t => Sys2Proof.Machine.execMsrPmevtyper27El0 t s
  | .msrPmevtyper28El0 t => Sys2Proof.Machine.execMsrPmevtyper28El0 t s
  | .msrPmevtyper29El0 t => Sys2Proof.Machine.execMsrPmevtyper29El0 t s
  | .msrPmevtyper30El0 t => Sys2Proof.Machine.execMsrPmevtyper30El0 t s
  | .mrsPmiarEl1 t => Sys2Proof.Machine.execMrsPmiarEl1 t s
  | .msrPmiarEl1 t => Sys2Proof.Machine.execMsrPmiarEl1 t s
  | .mrsPmicfiltrEl0 t => Sys2Proof.Machine.execMrsPmicfiltrEl0 t s
  | .msrPmicfiltrEl0 t => Sys2Proof.Machine.execMsrPmicfiltrEl0 t s
  | .mrsPmicntrEl0 t => Sys2Proof.Machine.execMrsPmicntrEl0 t s
  | .msrPmicntrEl0 t => Sys2Proof.Machine.execMsrPmicntrEl0 t s
  | .mrsPmicntsvrEl1 t => Sys2Proof.Machine.execMrsPmicntsvrEl1 t s
  | .mrsPmintenclrEl1 t => Sys2Proof.Machine.execMrsPmintenclrEl1 t s
  | .msrPmintenclrEl1 t => Sys2Proof.Machine.execMsrPmintenclrEl1 t s
  | .mrsPmintensetEl1 t => Sys2Proof.Machine.execMrsPmintensetEl1 t s
  | .msrPmintensetEl1 t => Sys2Proof.Machine.execMsrPmintensetEl1 t s
  | .mrsPmmirEl1 t => Sys2Proof.Machine.execMrsPmmirEl1 t s
  | .mrsPmovsclrEl0 t => Sys2Proof.Machine.execMrsPmovsclrEl0 t s
  | .msrPmovsclrEl0 t => Sys2Proof.Machine.execMsrPmovsclrEl0 t s
  | .mrsPmovssetEl0 t => Sys2Proof.Machine.execMrsPmovssetEl0 t s
  | .msrPmovssetEl0 t => Sys2Proof.Machine.execMsrPmovssetEl0 t s
  | .mrsPmselrEl0 t => Sys2Proof.Machine.execMrsPmselrEl0 t s
  | .msrPmselrEl0 t => Sys2Proof.Machine.execMsrPmselrEl0 t s
  | .mrsPmsscrEl1 t => Sys2Proof.Machine.execMrsPmsscrEl1 t s
  | .msrPmsscrEl1 t => Sys2Proof.Machine.execMsrPmsscrEl1 t s
  | .msrPmswincEl0 t => Sys2Proof.Machine.execMsrPmswincEl0 t s
  | .mrsPmuacrEl1 t => Sys2Proof.Machine.execMrsPmuacrEl1 t s
  | .msrPmuacrEl1 t => Sys2Proof.Machine.execMsrPmuacrEl1 t s
  | .mrsPmuserenrEl0 t => Sys2Proof.Machine.execMrsPmuserenrEl0 t s
  | .msrPmuserenrEl0 t => Sys2Proof.Machine.execMsrPmuserenrEl0 t s
  | .mrsPmxevcntrEl0 t => Sys2Proof.Machine.execMrsPmxevcntrEl0 t s
  | .msrPmxevcntrEl0 t => Sys2Proof.Machine.execMsrPmxevcntrEl0 t s
  | .mrsPmxevtyperEl0 t => Sys2Proof.Machine.execMrsPmxevtyperEl0 t s
  | .msrPmxevtyperEl0 t => Sys2Proof.Machine.execMsrPmxevtyperEl0 t s
  | .msrPmzrEl0 t => Sys2Proof.Machine.execMsrPmzrEl0 t s
  | .mrsSpmaccessrEl1 t => Sys2Proof.Machine.execMrsSpmaccessrEl1 t s
  | .msrSpmaccessrEl1 t => Sys2Proof.Machine.execMsrSpmaccessrEl1 t s
  | .mrsSpmaccessrEl12 t => Sys2Proof.Machine.execMrsSpmaccessrEl12 t s
  | .msrSpmaccessrEl12 t => Sys2Proof.Machine.execMsrSpmaccessrEl12 t s
  | .mrsSpmaccessrEl2 t => Sys2Proof.Machine.execMrsSpmaccessrEl2 t s
  | .msrSpmaccessrEl2 t => Sys2Proof.Machine.execMsrSpmaccessrEl2 t s
  | .mrsSpmaccessrEl3 t => Sys2Proof.Machine.execMrsSpmaccessrEl3 t s
  | .msrSpmaccessrEl3 t => Sys2Proof.Machine.execMsrSpmaccessrEl3 t s
  | .mrsSpmcfgrEl1 t => Sys2Proof.Machine.execMrsSpmcfgrEl1 t s
  | .mrsSpmcgcr0El1 t => Sys2Proof.Machine.execMrsSpmcgcr0El1 t s
  | .mrsSpmcgcr1El1 t => Sys2Proof.Machine.execMrsSpmcgcr1El1 t s
  | .mrsSpmcntenclrEl0 t => Sys2Proof.Machine.execMrsSpmcntenclrEl0 t s
  | .msrSpmcntenclrEl0 t => Sys2Proof.Machine.execMsrSpmcntenclrEl0 t s
  | .mrsSpmcntensetEl0 t => Sys2Proof.Machine.execMrsSpmcntensetEl0 t s
  | .msrSpmcntensetEl0 t => Sys2Proof.Machine.execMsrSpmcntensetEl0 t s
  | .mrsSpmcrEl0 t => Sys2Proof.Machine.execMrsSpmcrEl0 t s
  | .msrSpmcrEl0 t => Sys2Proof.Machine.execMsrSpmcrEl0 t s
  | .mrsSpmdevaffEl1 t => Sys2Proof.Machine.execMrsSpmdevaffEl1 t s
  | .mrsSpmdevarchEl1 t => Sys2Proof.Machine.execMrsSpmdevarchEl1 t s
  | .mrsSpmevcntr0El0 t => Sys2Proof.Machine.execMrsSpmevcntr0El0 t s
  | .mrsSpmevcntr1El0 t => Sys2Proof.Machine.execMrsSpmevcntr1El0 t s
  | .mrsSpmevcntr2El0 t => Sys2Proof.Machine.execMrsSpmevcntr2El0 t s
  | .mrsSpmevcntr3El0 t => Sys2Proof.Machine.execMrsSpmevcntr3El0 t s
  | .mrsSpmevcntr4El0 t => Sys2Proof.Machine.execMrsSpmevcntr4El0 t s
  | .mrsSpmevcntr5El0 t => Sys2Proof.Machine.execMrsSpmevcntr5El0 t s
  | .mrsSpmevcntr6El0 t => Sys2Proof.Machine.execMrsSpmevcntr6El0 t s
  | .mrsSpmevcntr7El0 t => Sys2Proof.Machine.execMrsSpmevcntr7El0 t s
  | .mrsSpmevcntr8El0 t => Sys2Proof.Machine.execMrsSpmevcntr8El0 t s
  | .mrsSpmevcntr9El0 t => Sys2Proof.Machine.execMrsSpmevcntr9El0 t s
  | .mrsSpmevcntr10El0 t => Sys2Proof.Machine.execMrsSpmevcntr10El0 t s
  | .mrsSpmevcntr11El0 t => Sys2Proof.Machine.execMrsSpmevcntr11El0 t s
  | .mrsSpmevcntr12El0 t => Sys2Proof.Machine.execMrsSpmevcntr12El0 t s
  | .mrsSpmevcntr13El0 t => Sys2Proof.Machine.execMrsSpmevcntr13El0 t s
  | .mrsSpmevcntr14El0 t => Sys2Proof.Machine.execMrsSpmevcntr14El0 t s
  | .mrsSpmevcntr15El0 t => Sys2Proof.Machine.execMrsSpmevcntr15El0 t s
  | .msrSpmevcntr0El0 t => Sys2Proof.Machine.execMsrSpmevcntr0El0 t s
  | .msrSpmevcntr1El0 t => Sys2Proof.Machine.execMsrSpmevcntr1El0 t s
  | .msrSpmevcntr2El0 t => Sys2Proof.Machine.execMsrSpmevcntr2El0 t s
  | .msrSpmevcntr3El0 t => Sys2Proof.Machine.execMsrSpmevcntr3El0 t s
  | .msrSpmevcntr4El0 t => Sys2Proof.Machine.execMsrSpmevcntr4El0 t s
  | .msrSpmevcntr5El0 t => Sys2Proof.Machine.execMsrSpmevcntr5El0 t s
  | .msrSpmevcntr6El0 t => Sys2Proof.Machine.execMsrSpmevcntr6El0 t s
  | .msrSpmevcntr7El0 t => Sys2Proof.Machine.execMsrSpmevcntr7El0 t s
  | .msrSpmevcntr8El0 t => Sys2Proof.Machine.execMsrSpmevcntr8El0 t s
  | .msrSpmevcntr9El0 t => Sys2Proof.Machine.execMsrSpmevcntr9El0 t s
  | .msrSpmevcntr10El0 t => Sys2Proof.Machine.execMsrSpmevcntr10El0 t s
  | .msrSpmevcntr11El0 t => Sys2Proof.Machine.execMsrSpmevcntr11El0 t s
  | .msrSpmevcntr12El0 t => Sys2Proof.Machine.execMsrSpmevcntr12El0 t s
  | .msrSpmevcntr13El0 t => Sys2Proof.Machine.execMsrSpmevcntr13El0 t s
  | .msrSpmevcntr14El0 t => Sys2Proof.Machine.execMsrSpmevcntr14El0 t s
  | .msrSpmevcntr15El0 t => Sys2Proof.Machine.execMsrSpmevcntr15El0 t s
  | .mrsSpmevfilt2r0El0 t => Sys2Proof.Machine.execMrsSpmevfilt2r0El0 t s
  | .mrsSpmevfilt2r1El0 t => Sys2Proof.Machine.execMrsSpmevfilt2r1El0 t s
  | .mrsSpmevfilt2r2El0 t => Sys2Proof.Machine.execMrsSpmevfilt2r2El0 t s
  | .mrsSpmevfilt2r3El0 t => Sys2Proof.Machine.execMrsSpmevfilt2r3El0 t s
  | .mrsSpmevfilt2r4El0 t => Sys2Proof.Machine.execMrsSpmevfilt2r4El0 t s
  | .mrsSpmevfilt2r5El0 t => Sys2Proof.Machine.execMrsSpmevfilt2r5El0 t s
  | .mrsSpmevfilt2r6El0 t => Sys2Proof.Machine.execMrsSpmevfilt2r6El0 t s
  | .mrsSpmevfilt2r7El0 t => Sys2Proof.Machine.execMrsSpmevfilt2r7El0 t s
  | .mrsSpmevfilt2r8El0 t => Sys2Proof.Machine.execMrsSpmevfilt2r8El0 t s
  | .mrsSpmevfilt2r9El0 t => Sys2Proof.Machine.execMrsSpmevfilt2r9El0 t s
  | .mrsSpmevfilt2r10El0 t => Sys2Proof.Machine.execMrsSpmevfilt2r10El0 t s
  | .mrsSpmevfilt2r11El0 t => Sys2Proof.Machine.execMrsSpmevfilt2r11El0 t s
  | .mrsSpmevfilt2r12El0 t => Sys2Proof.Machine.execMrsSpmevfilt2r12El0 t s
  | .mrsSpmevfilt2r13El0 t => Sys2Proof.Machine.execMrsSpmevfilt2r13El0 t s
  | .mrsSpmevfilt2r14El0 t => Sys2Proof.Machine.execMrsSpmevfilt2r14El0 t s
  | .mrsSpmevfilt2r15El0 t => Sys2Proof.Machine.execMrsSpmevfilt2r15El0 t s
  | .msrSpmevfilt2r0El0 t => Sys2Proof.Machine.execMsrSpmevfilt2r0El0 t s
  | .msrSpmevfilt2r1El0 t => Sys2Proof.Machine.execMsrSpmevfilt2r1El0 t s
  | .msrSpmevfilt2r2El0 t => Sys2Proof.Machine.execMsrSpmevfilt2r2El0 t s
  | .msrSpmevfilt2r3El0 t => Sys2Proof.Machine.execMsrSpmevfilt2r3El0 t s
  | .msrSpmevfilt2r4El0 t => Sys2Proof.Machine.execMsrSpmevfilt2r4El0 t s
  | .msrSpmevfilt2r5El0 t => Sys2Proof.Machine.execMsrSpmevfilt2r5El0 t s
  | .msrSpmevfilt2r6El0 t => Sys2Proof.Machine.execMsrSpmevfilt2r6El0 t s
  | .msrSpmevfilt2r7El0 t => Sys2Proof.Machine.execMsrSpmevfilt2r7El0 t s
  | .msrSpmevfilt2r8El0 t => Sys2Proof.Machine.execMsrSpmevfilt2r8El0 t s
  | .msrSpmevfilt2r9El0 t => Sys2Proof.Machine.execMsrSpmevfilt2r9El0 t s
  | .msrSpmevfilt2r10El0 t => Sys2Proof.Machine.execMsrSpmevfilt2r10El0 t s
  | .msrSpmevfilt2r11El0 t => Sys2Proof.Machine.execMsrSpmevfilt2r11El0 t s
  | .msrSpmevfilt2r12El0 t => Sys2Proof.Machine.execMsrSpmevfilt2r12El0 t s
  | .msrSpmevfilt2r13El0 t => Sys2Proof.Machine.execMsrSpmevfilt2r13El0 t s
  | .msrSpmevfilt2r14El0 t => Sys2Proof.Machine.execMsrSpmevfilt2r14El0 t s
  | .msrSpmevfilt2r15El0 t => Sys2Proof.Machine.execMsrSpmevfilt2r15El0 t s
  | .mrsSpmevfiltr0El0 t => Sys2Proof.Machine.execMrsSpmevfiltr0El0 t s
  | .mrsSpmevfiltr1El0 t => Sys2Proof.Machine.execMrsSpmevfiltr1El0 t s
  | .mrsSpmevfiltr2El0 t => Sys2Proof.Machine.execMrsSpmevfiltr2El0 t s
  | .mrsSpmevfiltr3El0 t => Sys2Proof.Machine.execMrsSpmevfiltr3El0 t s
  | .mrsSpmevfiltr4El0 t => Sys2Proof.Machine.execMrsSpmevfiltr4El0 t s
  | .mrsSpmevfiltr5El0 t => Sys2Proof.Machine.execMrsSpmevfiltr5El0 t s
  | .mrsSpmevfiltr6El0 t => Sys2Proof.Machine.execMrsSpmevfiltr6El0 t s
  | .mrsSpmevfiltr7El0 t => Sys2Proof.Machine.execMrsSpmevfiltr7El0 t s
  | .mrsSpmevfiltr8El0 t => Sys2Proof.Machine.execMrsSpmevfiltr8El0 t s
  | .mrsSpmevfiltr9El0 t => Sys2Proof.Machine.execMrsSpmevfiltr9El0 t s
  | .mrsSpmevfiltr10El0 t => Sys2Proof.Machine.execMrsSpmevfiltr10El0 t s
  | .mrsSpmevfiltr11El0 t => Sys2Proof.Machine.execMrsSpmevfiltr11El0 t s
  | .mrsSpmevfiltr12El0 t => Sys2Proof.Machine.execMrsSpmevfiltr12El0 t s
  | .mrsSpmevfiltr13El0 t => Sys2Proof.Machine.execMrsSpmevfiltr13El0 t s
  | .mrsSpmevfiltr14El0 t => Sys2Proof.Machine.execMrsSpmevfiltr14El0 t s
  | .mrsSpmevfiltr15El0 t => Sys2Proof.Machine.execMrsSpmevfiltr15El0 t s
  | .msrSpmevfiltr0El0 t => Sys2Proof.Machine.execMsrSpmevfiltr0El0 t s
  | .msrSpmevfiltr1El0 t => Sys2Proof.Machine.execMsrSpmevfiltr1El0 t s
  | .msrSpmevfiltr2El0 t => Sys2Proof.Machine.execMsrSpmevfiltr2El0 t s
  | .msrSpmevfiltr3El0 t => Sys2Proof.Machine.execMsrSpmevfiltr3El0 t s
  | .msrSpmevfiltr4El0 t => Sys2Proof.Machine.execMsrSpmevfiltr4El0 t s
  | .msrSpmevfiltr5El0 t => Sys2Proof.Machine.execMsrSpmevfiltr5El0 t s
  | .msrSpmevfiltr6El0 t => Sys2Proof.Machine.execMsrSpmevfiltr6El0 t s
  | .msrSpmevfiltr7El0 t => Sys2Proof.Machine.execMsrSpmevfiltr7El0 t s
  | .msrSpmevfiltr8El0 t => Sys2Proof.Machine.execMsrSpmevfiltr8El0 t s
  | .msrSpmevfiltr9El0 t => Sys2Proof.Machine.execMsrSpmevfiltr9El0 t s
  | .msrSpmevfiltr10El0 t => Sys2Proof.Machine.execMsrSpmevfiltr10El0 t s
  | .msrSpmevfiltr11El0 t => Sys2Proof.Machine.execMsrSpmevfiltr11El0 t s
  | .msrSpmevfiltr12El0 t => Sys2Proof.Machine.execMsrSpmevfiltr12El0 t s
  | .msrSpmevfiltr13El0 t => Sys2Proof.Machine.execMsrSpmevfiltr13El0 t s
  | .msrSpmevfiltr14El0 t => Sys2Proof.Machine.execMsrSpmevfiltr14El0 t s
  | .msrSpmevfiltr15El0 t => Sys2Proof.Machine.execMsrSpmevfiltr15El0 t s
  | .mrsSpmevtyper0El0 t => Sys2Proof.Machine.execMrsSpmevtyper0El0 t s
  | .mrsSpmevtyper1El0 t => Sys2Proof.Machine.execMrsSpmevtyper1El0 t s
  | .mrsSpmevtyper2El0 t => Sys2Proof.Machine.execMrsSpmevtyper2El0 t s
  | .mrsSpmevtyper3El0 t => Sys2Proof.Machine.execMrsSpmevtyper3El0 t s
  | .mrsSpmevtyper4El0 t => Sys2Proof.Machine.execMrsSpmevtyper4El0 t s
  | .mrsSpmevtyper5El0 t => Sys2Proof.Machine.execMrsSpmevtyper5El0 t s
  | .mrsSpmevtyper6El0 t => Sys2Proof.Machine.execMrsSpmevtyper6El0 t s
  | .mrsSpmevtyper7El0 t => Sys2Proof.Machine.execMrsSpmevtyper7El0 t s
  | .mrsSpmevtyper8El0 t => Sys2Proof.Machine.execMrsSpmevtyper8El0 t s
  | .mrsSpmevtyper9El0 t => Sys2Proof.Machine.execMrsSpmevtyper9El0 t s
  | .mrsSpmevtyper10El0 t => Sys2Proof.Machine.execMrsSpmevtyper10El0 t s
  | .mrsSpmevtyper11El0 t => Sys2Proof.Machine.execMrsSpmevtyper11El0 t s
  | .mrsSpmevtyper12El0 t => Sys2Proof.Machine.execMrsSpmevtyper12El0 t s
  | .mrsSpmevtyper13El0 t => Sys2Proof.Machine.execMrsSpmevtyper13El0 t s
  | .mrsSpmevtyper14El0 t => Sys2Proof.Machine.execMrsSpmevtyper14El0 t s
  | .mrsSpmevtyper15El0 t => Sys2Proof.Machine.execMrsSpmevtyper15El0 t s
  | .msrSpmevtyper0El0 t => Sys2Proof.Machine.execMsrSpmevtyper0El0 t s
  | .msrSpmevtyper1El0 t => Sys2Proof.Machine.execMsrSpmevtyper1El0 t s
  | .msrSpmevtyper2El0 t => Sys2Proof.Machine.execMsrSpmevtyper2El0 t s
  | .msrSpmevtyper3El0 t => Sys2Proof.Machine.execMsrSpmevtyper3El0 t s
  | .msrSpmevtyper4El0 t => Sys2Proof.Machine.execMsrSpmevtyper4El0 t s
  | .msrSpmevtyper5El0 t => Sys2Proof.Machine.execMsrSpmevtyper5El0 t s
  | .msrSpmevtyper6El0 t => Sys2Proof.Machine.execMsrSpmevtyper6El0 t s
  | .msrSpmevtyper7El0 t => Sys2Proof.Machine.execMsrSpmevtyper7El0 t s
  | .msrSpmevtyper8El0 t => Sys2Proof.Machine.execMsrSpmevtyper8El0 t s
  | .msrSpmevtyper9El0 t => Sys2Proof.Machine.execMsrSpmevtyper9El0 t s
  | .msrSpmevtyper10El0 t => Sys2Proof.Machine.execMsrSpmevtyper10El0 t s
  | .msrSpmevtyper11El0 t => Sys2Proof.Machine.execMsrSpmevtyper11El0 t s
  | .msrSpmevtyper12El0 t => Sys2Proof.Machine.execMsrSpmevtyper12El0 t s
  | .msrSpmevtyper13El0 t => Sys2Proof.Machine.execMsrSpmevtyper13El0 t s
  | .msrSpmevtyper14El0 t => Sys2Proof.Machine.execMsrSpmevtyper14El0 t s
  | .msrSpmevtyper15El0 t => Sys2Proof.Machine.execMsrSpmevtyper15El0 t s
  | .mrsSpmiidrEl1 t => Sys2Proof.Machine.execMrsSpmiidrEl1 t s
  | .mrsSpmintenclrEl1 t => Sys2Proof.Machine.execMrsSpmintenclrEl1 t s
  | .msrSpmintenclrEl1 t => Sys2Proof.Machine.execMsrSpmintenclrEl1 t s
  | .mrsSpmintensetEl1 t => Sys2Proof.Machine.execMrsSpmintensetEl1 t s
  | .msrSpmintensetEl1 t => Sys2Proof.Machine.execMsrSpmintensetEl1 t s
  | .mrsSpmovsclrEl0 t => Sys2Proof.Machine.execMrsSpmovsclrEl0 t s
  | .msrSpmovsclrEl0 t => Sys2Proof.Machine.execMsrSpmovsclrEl0 t s
  | .mrsSpmovssetEl0 t => Sys2Proof.Machine.execMrsSpmovssetEl0 t s
  | .msrSpmovssetEl0 t => Sys2Proof.Machine.execMsrSpmovssetEl0 t s
  | .mrsSpmrootcrEl3 t => Sys2Proof.Machine.execMrsSpmrootcrEl3 t s
  | .msrSpmrootcrEl3 t => Sys2Proof.Machine.execMsrSpmrootcrEl3 t s
  | .mrsSpmscrEl1 t => Sys2Proof.Machine.execMrsSpmscrEl1 t s
  | .msrSpmscrEl1 t => Sys2Proof.Machine.execMsrSpmscrEl1 t s
  | .mrsSpmselrEl0 t => Sys2Proof.Machine.execMrsSpmselrEl0 t s
  | .msrSpmselrEl0 t => Sys2Proof.Machine.execMsrSpmselrEl0 t s
  | .msrSpmzrEl0 t => Sys2Proof.Machine.execMsrSpmzrEl0 t s
  | .mrsMdcrEl2 t => Sys2Proof.Machine.execMrsMdcrEl2 t s
  | .msrMdcrEl2 t => Sys2Proof.Machine.execMsrMdcrEl2 t s
  | .mrsMdcrEl3 t => Sys2Proof.Machine.execMrsMdcrEl3 t s
  | .msrMdcrEl3 t => Sys2Proof.Machine.execMsrMdcrEl3 t s

end Sys2Proof.Machine
end

