-- ==== Sys2Proof/Machine/Reset.lean ====
section
/-! DEFINITION. The resets as transitions (R1600 to R1607): Cold, Warm and System PMU. Every UNKNOWN field is drawn
from the free values; a reset consumes a fixed number of them. -/

namespace Sys2Proof.Machine

/-- The bits of `m` UNKNOWN (draw `k`), the others kept (R1601). -/
def State.redraw (s : State) (k : Nat) (m old : Word) : Word := mergeBits old (s.unknown k) m

/-- The mask `m` of the "common" fields that this reset makes UNKNOWN: all on a Cold reset, and on a Warm reset
without FEAT_PMUv3_EXTPMN (R1602). -/
def commonReset (c : Config) (cold : Bool) (m : Word) : Word := if cold || !c.has .PMUv3_EXTPMN then m else 0

/-- The highest implemented Exception level is EL1 (R1605). -/
def highestEL1 (c : Config) : Bool := !c.haveEL3 && !c.haveEL2

/-- The highest implemented Exception level is EL2 (R1605). -/
def highestEL2 (c : Config) : Bool := !c.haveEL3 && c.haveEL2

/-- Event counter `n` is implemented. -/
def implMask (c : Config) (n : Nat) (m : Word) : Word := if n < c.numCounters then m else 0

/-- TC, TE and TH of PMEVTYPER<n>_EL0. -/
def thresholdMask : Word := fieldIf 61 3 true ||| bitIf 60 true ||| fieldIf 32 12 true

/-- PMCR_EL0 after a reset (R1601): E is 0; FZS is 0 with FEAT_AA32; every other field is UNKNOWN. -/
def resetPmcr (s : State) : Word :=
  s.unknown 4 &&& s.cfg.pmcrMask &&& ~~~(bitIf 0 true ||| bitIf 32 (s.has .AA32))

/-- PMECR_EL1 after a reset (R1605): PMEE on either reset and SSE on a Cold reset are 0b00 when the highest Exception
level is EL1, else UNKNOWN; KPME is UNKNOWN. -/
def resetPmecr (cold : Bool) (s : State) : Word :=
  let drawn := bitIf 2 true ||| fieldIf 0 2 (!highestEL1 s.cfg) ||| fieldIf 3 2 (cold && !highestEL1 s.cfg)
  let kept := fieldIf 3 2 (!cold)
  ((s.pmu.pmecr &&& kept) ||| (s.unknown 5 &&& drawn)) &&& s.cfg.pmecrMask

/-- PMEVTYPER<n>_EL0 after a reset (R1602, R1603): TC, TE and TH are zero with FEAT_AA32EL1. -/
def resetEvtyper (cold : Bool) (s : State) (n : Nat) : Word :=
  s.cfg.evtyperStored n
    (s.redraw (128 + n) (implMask s.cfg n (commonReset s.cfg cold (s.cfg.evtyperMask n))) (s.evtyper n) &&&
      ~~~(if s.has .AA32EL1 then thresholdMask else 0))

/-- PMEVCNTR<n>_EL0 after a reset (R1602): without FEAT_PMUv3p5 UNKNOWN on either reset. -/
def resetEvcntr (cold : Bool) (s : State) (n : Nat) : Word :=
  s.redraw (64 + n) (implMask s.cfg n (commonReset s.cfg (cold || !s.has .PMUv3p5) s.cfg.counterMask)) (s.evcntr n)

/-- A shared bitmap after a reset: the F0 bit is 0 (R1601), the C and P bits are common (R1602). -/
def resetBitmap (cold : Bool) (s : State) (k : Nat) (old : Word) : Word :=
  s.redraw k (commonReset s.cfg cold s.cfg.bitmapMask) old &&& ~~~bitIf 32 true

/-- The PMU registers and the hidden state after a Cold or Warm reset. -/
def resetPmuRegs (cold : Bool) (s : State) : Pmu where
  pmccfiltr := s.redraw 0 (commonReset s.cfg cold s.cfg.filterMask) s.pmu.pmccfiltr
  pmccntr := s.redraw 1 (commonReset s.cfg cold (onesWord 64)) s.pmu.pmccntr
  pmccntsvr := s.redraw 2 (commonReset s.cfg cold (onesWord 64)) s.pmu.pmccntsvr
  pmcnten := resetBitmap cold s 3 s.pmu.pmcnten
  pmcr := resetPmcr s
  pmecr := resetPmecr cold s
  pmevcntr := Vector.ofFn fun n : Fin 31 => resetEvcntr cold s n
  pmevcntsvr := Vector.ofFn fun n : Fin 31 =>
    s.redraw (96 + n) (implMask s.cfg n (commonReset s.cfg cold (onesWord 64))) (arrayGet s.pmu.pmevcntsvr n 0)
  pmevtyper := Vector.ofFn fun n : Fin 31 => resetEvtyper cold s n
  pmiar := s.unknown 6 &&& ~~~3
  pmicfiltr := s.redraw 7 (commonReset s.cfg cold s.cfg.icfiltrMask) s.pmu.pmicfiltr
  pmicntr := s.redraw 8 (commonReset s.cfg cold (onesWord 64)) s.pmu.pmicntr
  pmicntsvr := s.redraw 9 (commonReset s.cfg cold (onesWord 64)) s.pmu.pmicntsvr
  pminten := resetBitmap cold s 10 s.pmu.pminten
  pmovs := resetBitmap cold s 11 s.pmu.pmovs
  pmselr := s.unknown 12 &&& onesWord 5
  pmsscr := bitIf 32 true
  pmuacr := s.unknown 13 &&& s.cfg.pmuacrMask
  pmuserenr := s.unknown 14 &&& s.cfg.pmuserenrMask
  divPhase := (s.unknown 15).setWidth 6
  edgePrev := Vector.ofFn fun n : Fin 31 => bit (s.unknown 16) n

/-- MDCR_EL2 after a reset (R1607): HPMN is `NUM_PMU_COUNTERS`; HCCD and HPMD are 0; PMEE and EBWE are 0 when the
highest Exception level is EL2; a Cold reset sets MTPME to 1, and PMSSE to 0b00 when the highest Exception level is
EL2; every other field is UNKNOWN. -/
def resetMdcrEl2 (cold : Bool) (s : State) : Word :=
  let top := highestEL2 s.cfg
  let fixed := fieldIf 0 5 true ||| bitIf 23 true ||| bitIf 17 true ||| fieldIf 40 2 top ||| bitIf 43 top |||
    bitIf 28 true ||| fieldIf 30 2 (top || !cold)
  let kept := bitIf 28 (!cold) ||| fieldIf 30 2 (!cold)
  ((s.unknown 21 &&& ~~~fixed) ||| BitVec.ofNat 64 s.cfg.numCounters ||| bitIf 28 cold ||| (s.mdcrEl2 &&& kept)) &&&
    s.cfg.mdcrEl2Mask

/-- The fields of MDCR_EL3 that either reset sets to zero (R1607): MPMX, MCCD, SCCD, SPME, EPMAD, EPMADE, EDAD, EDADE,
ETAD, ETADE, STE, RLTE, EBWE, E3BREW, EPMSSAD, ETBAD, and PMEE, TRBEE, PMSEE when EL3 is implemented. -/
def mdcrEl3Zeroed (c : Config) : Word :=
  bitIf 35 true ||| bitIf 34 true ||| bitIf 23 true ||| bitIf 17 true ||| bitIf 21 true ||| bitIf 2 true |||
  bitIf 20 true ||| bitIf 4 true ||| bitIf 22 true ||| bitIf 3 true ||| bitIf 18 true ||| bitIf 0 true |||
  bitIf 43 true ||| bitIf 37 true ||| fieldIf 45 2 true ||| fieldIf 48 2 true ||| fieldIf 40 2 c.haveEL3 |||
  fieldIf 53 2 c.haveEL3 ||| fieldIf 51 2 c.haveEL3

/-- The fields of MDCR_EL3 with a Cold reset line only: E3BREC and PMSSE (0), MTPME (1). -/
def mdcrEl3Cold : Word := bitIf 38 true ||| fieldIf 30 2 true ||| bitIf 28 true

/-- MDCR_EL3 after a reset (R1607). -/
def resetMdcrEl3 (cold : Bool) (s : State) : Word :=
  ((s.unknown 22 &&& ~~~(mdcrEl3Zeroed s.cfg ||| mdcrEl3Cold)) |||
    (if cold then bitIf 28 true else s.mdcrEl3 &&& mdcrEl3Cold)) &&& s.cfg.mdcrEl3Mask

/-- `reset(Cold)` and `reset(Warm)` (R1601 to R1607). The general registers are UNKNOWN after it (R1601); the inputs,
the memory, the program and the System PMUs are not touched. -/
def resetPE (cold : Bool) (s : State) : State :=
  { s.drawn 160 with
    x := Vector.ofFn fun t : Fin 31 => s.unknown (32 + t)
    pmu := resetPmuRegs cold s
    spm := { s.spm with
      spmaccessr1 := s.unknown 17 &&& s.cfg.spmaccessMask
      spmaccessr2 := s.unknown 18 &&& s.cfg.spmaccess2Mask
      spmaccessr3 := s.unknown 19 &&& s.cfg.spmaccessMask
      spmselr := s.unknown 20 &&& spmselrMask }
    mdcrEl2 := resetMdcrEl2 cold s
    mdcrEl3 := resetMdcrEl3 cold s }

/-- An IMPLEMENTATION DEFINED register of every counter at its reset value (R1604). -/
def resetImplDef (c : Config) (n : Nat) (mask values : List Word) : Vector Word 64 :=
  Vector.ofFn fun k : Fin 64 =>
    if c.spmuCounterImplemented n k then listGet values k 0 &&& implDefMask mask k else 0

/-- The registers of System PMU `n` after a System PMU reset (R1604). -/
def resetUnit (s : State) (n : Nat) (p : SpmuConfig) : SpmUnit where
  spmcnten := s.unknown 0 &&& s.cfg.spmuImplMask n
  spmcr := s.unknown 1 &&& p.crMask .el3 &&& ~~~bitIf 0 true
  spmevcntr := Vector.ofFn fun k : Fin 64 =>
    if s.cfg.spmuCounterImplemented n k then s.unknown (8 + k) &&& onesWord (p.bits k) else 0
  spmevtyper := resetImplDef s.cfg n p.typerMask p.typerReset
  spmevfiltr := resetImplDef s.cfg n p.filtrMask p.filtrReset
  spmevfilt2r := resetImplDef s.cfg n p.filt2rMask p.filt2rReset
  spminten := s.unknown 2 &&& s.cfg.spmuIntMask n
  spmovs := s.unknown 3 &&& s.cfg.spmuOvfMask n
  spmrootcr :=
    if p.hasRootcr then ((p.rootcrImpdefReset &&& p.rootcrImpdefMask).setWidth 64 <<< 32) ||| bitIf 3 p.hasNao else 0
  spmscr := if p.hasScr then (p.scrImpdefReset &&& p.scrImpdefMask).setWidth 64 <<< 32 else 0

/-- `reset(SystemPMU(n))` (R1604). -/
def resetSystemPMU (n : Nat) (s : State) : State :=
  (updateUnit n (fun p _ => resetUnit s n p) s).drawn 72

/-- The transition `reset(kind)` (R1600). -/
def reset (k : ResetKind) (s : State) : State :=
  match k with
  | .cold => resetPE true s
  | .warm => resetPE false s
  | .systemPMU n => resetSystemPMU n s

end Sys2Proof.Machine
end

