-- ==== Sys2Proof/Machine/Environment.lean ====
section
/-! DEFINITION. The transitions of the agents other than the executing PE (R6 agents 2 to 7): the tick of the PMU
(R125), the System PMU step (R135), resets (R1600), and what the rest of the PE and of the system changes between two
instructions, with the constraints the spec puts on it. -/

namespace Sys2Proof.Machine

/-- Exception level `el` in Security state `ss` exists on this PE (R17, R18, R142): EL3 is in Root state with FEAT_RME
and in Secure state without it, Realm and Root need FEAT_RME, Secure state below EL3 needs Secure EL1 and at EL2 Secure
EL2, and without EL3 the PE has one Security state. -/
def contextAllowed (el : EL) (ss : SecState) (s : State) : Bool :=
  (el != .el2 || s.haveEL2) && (el != .el3 || s.haveEL3) &&
    (ss != .realm || s.has .RME) && ((ss == .root) == (el == .el3 && s.has .RME)) &&
    (el != .el3 || s.has .RME || ss == .secure) && (s.haveEL3 || ss == s.inp.ss) &&
    (ss != .secure || el == .el3 || s.cfg.haveSecureEL1) && (ss != .secure || el != .el2 || s.cfg.secureEL2)

/-- `EL2Enabled()` as R17 and R143 have it: with EL2 it is true at EL2 and in Non-secure and Realm state, and in the
other Security states it can be true only with Secure EL2; without EL2 it is false. -/
def el2EnabledAllowed (i : Inputs) (s : State) : Bool :=
  if !s.haveEL2 then !i.el2Enabled
  else if i.ss == .nonSecure || i.ss == .realm || i.el == .el2 then i.el2Enabled
  else !i.el2Enabled || s.cfg.secureEL2

/-- The inputs that the rest of the PE may present (R17, R110, R142 to R145): ELIsInHost(EL0) is EL2Enabled(), E2H and
TGE together, with FEAT_VHE, and the EL3SDD functions are true only in Debug state (D5). -/
def inputsAllowed (i : Inputs) (s : State) : Bool :=
  contextAllowed i.el i.ss s && el2EnabledAllowed i s &&
    i.inHostEL0 == (i.el2Enabled && s.has .VHE && i.e2h && i.tge) && (!i.inHostEL2 || (i.el2Enabled && s.has .VHE)) &&
    (i.nvx == 0 || i.el2Enabled) && (!i.sddUndefPriority || i.sddUndef) && (!i.sddUndef || i.halted) &&
    decide (i.epmn ≤ s.cfg.numCounters) && (!i.speFreeze || s.has .SPEv1p2)

/-- Register `r` belongs to an implemented System PMU, so that another PE can write it too (R1547, D20). -/
def sharedReg (c : Config) (r : Reg) : Bool :=
  match r with
  | .spmcntenclr n | .spmcntenset n | .spmcr n | .spmintenclr n | .spmintenset n | .spmovsclr n | .spmovsset n
  | .spmrootcr n | .spmscr n | .spmzr n | .spmevcntr n _ | .spmevtyper n _ | .spmevfiltr n _ | .spmevfilt2r n _ =>
    c.spmuImplemented n
  | _ => false

/-- A PMU Profiling exception can be taken, so hardware may write PMIAR_EL1 (R650, R1530). -/
def State.pmiarWritable (s : State) : Bool :=
  s.has .SEBEP && s.profilingEnabled && (s.pmu.pminten &&& s.pmu.pmovs) != 0

/-- A write by another PE at level `el` to a register of a shared System PMU. -/
def sharedWrite (r : Reg) (el : EL) (v : Word) (s : State) : State :=
  { writeReg r v { s with inp := { s.inp with el := el } } with inp := s.inp }

/-- One transition of an agent other than the executing PE, refused where the spec does not allow it. -/
def envStep (e : EnvEvent) (s : State) : Outcome :=
  match e with
  | .tick el ss streaming occ others insts =>
    if contextAllowed el ss s then
      .next (tick { el := el, ss := ss, streaming := streaming } { own := occ, others := others } insts s)
    else .refused (.environmentNotAllowed e)
  | .spmuStep n k d source =>
    if s.spmuStepAllowed n k d source then .next (spmuStep n k d s) else .refused (.environmentNotAllowed e)
  | .reset (.systemPMU n) =>
    if s.cfg.spmuImplemented n then .next (reset (.systemPMU n) s) else .refused (.environmentNotAllowed e)
  | .reset k => .next (reset k s)
  | .setInputs i =>
    if inputsAllowed i s then .next (redrawEdges s { s with inp := i }) else .refused (.environmentNotAllowed e)
  | .setChoices c =>
    if c.hpmnReserved ≤ s.cfg.numCounters then .next (redrawEdges s { s with choices := c })
    else .refused (.environmentNotAllowed e)
  | .nvmemWrite a b =>
    if s.addressExists a then .next { s with mem := writeByte s.mem a b } else .fault (.noSuchAddress a)
  | .pmiarWrite v =>
    if s.pmiarWritable then .next (s.withPmu { s.pmu with pmiar := v &&& ~~~3 })
    else .refused (.environmentNotAllowed e)
  | .setX t v => if t < 31 then .next (s.writeX t v) else .refused (.environmentNotAllowed e)
  | .redirect pc program => .next { s with pc := pc, program := program, pending := none }
  | .sharedSpmuWrite r el v =>
    if sharedReg s.cfg r then .next (sharedWrite r el v s) else .refused (.environmentNotAllowed e)

end Sys2Proof.Machine
end

