-- ==== Sys2Proof/Machine/Execute.lean ====
section
/-! DEFINITION. The executing PE: fetching the next instruction word and executing it (R6 agent 1, R19, R205). The file
stands in a noncomputable section because the decoder does. -/

namespace Sys2Proof.Machine

noncomputable section

/-- The next instruction word of the PE: the head of the instruction stream (R151). -/
def State.fetch (s : State) : Option InstrWord := s.program.head?

/-- One instruction word executed: an instruction of the spec has its meaning; one of the 14 register names in the
direction that has no row raises Undefined (R205(a)); any other word is outside this spec (R205). -/
def executeWord (w : InstrWord) (s : State) : Outcome :=
  match decode w with
  | .instr i => exec i s
  | .unallocated => .next (takeException .undefined s)
  | .outside => .refused (.outsideInstructionSet w)

/-- The PE's own transition. -/
def executePE (s : State) : Outcome :=
  match s.pending with
  | some e => .refused (.exceptionOutstanding e)
  | none =>
    match s.fetch with
    | none => .refused .noInstruction
    | some w => executeWord w s

/-- The word of a table row, `nbits` bits of `w`, the bits above being zero. -/
def tableWord (nbits w : Nat) : InstrWord := BitVec.ofNat 32 (w % 2 ^ nbits)

/-- The state in which the PE moves next and its next instruction word is `w`. -/
def placeWord (w : InstrWord) (s : State) : State :=
  { s with program := w :: s.program.tail, schedule := [], pending := none }

end

end Sys2Proof.Machine
end

