-- ==== Sys2Proof/Machine/Step.lean ====
section
/-! DEFINITION. The step: the head of the schedule says who moves; with an empty schedule the PE executes. The file
stands in a noncomputable section because the decoder does. -/

namespace Sys2Proof.Machine

noncomputable section

/-- One transition of the machine (R6, R125: the interleaving is the schedule's). -/
def step (s : State) : Host.Outcome State Fault Refusal :=
  match s.schedule with
  | .env e :: rest => envStep e { s with schedule := rest }
  | .pe :: rest => executePE { s with schedule := rest }
  | [] => executePE s

/-- `s` with a table word as the instruction that the next step fetches. It stands for the load of a program from
outside the machine (R151). -/
def State.withFetchWord (s : State) (nbits w : Nat) : State := placeWord (tableWord nbits w) s

end

end Sys2Proof.Machine
end

