-- ==== Sys2Proof/Safety.lean ====
section
/-! DEFINITION. What the statements about the machine speak of: the invariant that every step keeps, and when an access
is open, that is, no control of a higher Exception level, of EL2 or of the user enable register takes it away. -/

namespace Sys2Proof.Machine

/-! ## The invariant -/

/-- Every bit of `v` that is set lies in `m`. -/
abbrev within (v m : Word) : Prop := v &&& ~~~m = 0

/-- The memory is in canonical form and lists bytes of the one memory location only (R151, R160). -/
abbrev State.MemInv (s : State) : Prop := memWf s.mem = true ∧ ∀ c ∈ s.mem, s.addressExists c.1 = true

/-- The RES0 bits of the PMU registers hold 0 (R56). PMCCNTR_EL0, PMICNTR_EL0, PMIAR_EL1 and the snapshot registers have
no bit that is RES0 in every state: the counters and snapshots are 64 bits wide (R320, R330, R571, R690, R700), and
PMIAR_EL1[1:0] is unspecified after a write that breaks its form (R653). -/
abbrev State.PmuInv (s : State) : Prop :=
  within s.pmu.pmccfiltr s.cfg.filterMask ∧ within s.pmu.pmcnten s.cfg.bitmapMask ∧
  within s.pmu.pminten s.cfg.bitmapMask ∧ within s.pmu.pmovs s.cfg.bitmapMask ∧ within s.pmu.pmcr s.cfg.pmcrMask ∧
  within s.pmu.pmecr s.cfg.pmecrMask ∧ within s.pmu.pmselr (onesWord 5) ∧
  within s.pmu.pmsscr (bitIf 32 true ||| bitIf 0 true) ∧ within s.pmu.pmuacr s.cfg.pmuacrMask ∧
  within s.pmu.pmuserenr s.cfg.pmuserenrMask ∧ within s.pmu.pmicfiltr (s.cfg.icfiltrMask ||| 8) ∧
  ∀ n : Fin 31, within (s.evcntr n) s.cfg.counterMask ∧ s.cfg.evtyperStored n (s.evtyper n) = s.evtyper n

/-- The registers of counter `k` of a System PMU hold bits that it implements only (R1201, D21). -/
abbrev SpmUnit.CounterInv (u : SpmUnit) (p : SpmuConfig) (k : Nat) : Prop :=
  within (arrayGet u.spmevcntr k 0) (onesWord (p.bits k)) ∧
  within (arrayGet u.spmevtyper k 0) (implDefMask p.typerMask k) ∧
  within (arrayGet u.spmevfiltr k 0) (implDefMask p.filtrMask k) ∧
  within (arrayGet u.spmevfilt2r k 0) (implDefMask p.filt2rMask k)

/-- The registers of System PMU `n` hold bits that it implements only (R56, R1103, R1149, R1302, R1303, R1418,
R1438). -/
abbrev State.UnitInv (s : State) (n : Nat) : Prop :=
  within (s.unit n).spmcnten (s.cfg.spmuImplMask n) ∧ within (s.unit n).spminten (s.cfg.spmuIntMask n) ∧
  within (s.unit n).spmovs (s.cfg.spmuOvfMask n) ∧
  ∀ p ∈ s.cfg.spmuConfig n, within (s.unit n).spmcr (p.crMask .el3) ∧
    within (s.unit n).spmrootcr p.rootcrMask ∧ within (s.unit n).spmscr p.scrMask ∧
    ∀ k : Fin 64, (s.unit n).CounterInv p k

/-- The RES0 bits of the System PMU registers hold 0. -/
abbrev State.SpmInv (s : State) : Prop :=
  within s.spm.spmaccessr1 s.cfg.spmaccessMask ∧ within s.spm.spmaccessr2 s.cfg.spmaccess2Mask ∧
  within s.spm.spmaccessr3 s.cfg.spmaccessMask ∧ within s.spm.spmselr spmselrMask ∧ ∀ n : Fin 32, s.UnitInv n

/-- The RES0 bits of MDCR_EL2 and MDCR_EL3 hold 0. -/
abbrev State.MdcrInv (s : State) : Prop := within s.mdcrEl2 s.cfg.mdcrEl2Mask ∧ within s.mdcrEl3 s.cfg.mdcrEl3Mask

/-- The invariant. -/
abbrev State.Inv (s : State) : Prop := s.MemInv ∧ s.PmuInv ∧ s.SpmInv ∧ s.MdcrInv

/-! ## Completed accesses -/

/-- The state after an `MRS` that completes with value `v`: `Xt` holds it (nothing does for XZR), the program counter
and the instruction stream have moved on, one free value is counted as drawn, and nothing else has changed. -/
abbrev State.readDone (s : State) (t : Nat) (v : Word) : State := ((s.drawn 1).writeX t v).advance

/-- The state after an `MSR` that completes by changing PMU registers only. -/
abbrev State.pmuDone (s : State) (p : Pmu) : State := (s.withPmu p).advance

/-- The state after an `MSR` that completes by changing per-PE System PMU registers only. -/
abbrev State.spmDone (s : State) (p : Spm) : State := (s.withSpm p).advance

/-! ## Open accesses -/

/-- An access from EL1 or above that nothing takes away: `monitor` is a control of MDCR_EL3 or SPMACCESSR_EL3 that
would take it to EL3 from below, `guest` one of EL2 that would take it from EL1. -/
def State.privOpen (s : State) (monitor guest : Bool) : Prop :=
  s.inp.el = .el3 ∨ (s.inp.el = .el2 ∧ (s.haveEL3 && monitor) = false) ∨
    (s.inp.el = .el1 ∧ (s.haveEL3 && monitor) = false ∧ guest = false)

/-- An access from EL0 that nothing takes away: `user` is a control of EL1 that would. -/
def State.userOpen (s : State) (monitor guest user : Bool) : Prop :=
  s.inp.el = .el0 ∧ (s.haveEL3 && monitor) = false ∧ guest = false ∧ user = false

/-- `MDCR_EL2.TPM` under `EL2Enabled()`. -/
def State.guestTPM (s : State) : Bool := s.el2Enabled && s.mdcr2TPM

/-- A read of a PMU register of FEAT_PMUv3 from EL1 or above, with its HDFGRTR_EL2 bit. -/
def State.pmuReadOpen (s : State) (b : FgtBit) : Prop :=
  s.has .PMUv3 = true ∧ s.has .AA64 = true ∧ s.privOpen s.mdcr3TPM (s.fgtRead b || s.guestTPM)

/-- A write of a PMU register of FEAT_PMUv3 from EL1 or above, with its HDFGWTR_EL2 bit. -/
def State.pmuWriteOpen (s : State) (b : FgtBit) : Prop :=
  s.has .PMUv3 = true ∧ s.has .AA64 = true ∧ s.privOpen s.mdcr3TPM (s.fgtWrite b || s.guestTPM)

/-- A read of a PMU register that MDCR_EL3.EnPM2 guards as well, from EL1 or above. -/
def State.pm2ReadOpen (s : State) (present : Prop) (b : Fgt2Bit) : Prop :=
  present ∧ s.has .AA64 = true ∧ s.privOpen (!s.mdcr3EnPM2 || s.mdcr3TPM) (s.fgt2Read b || s.guestTPM)

/-- A write of a PMU register that MDCR_EL3.EnPM2 guards as well, from EL1 or above. -/
def State.pm2WriteOpen (s : State) (present : Prop) (b : Fgt2Bit) : Prop :=
  present ∧ s.has .AA64 = true ∧ s.privOpen (!s.mdcr3EnPM2 || s.mdcr3TPM) (s.fgt2Write b || s.guestTPM)

/-- A read of a snapshot register from EL1 or above. -/
def State.snapshotReadOpen (s : State) (b : Fgt2Bit) : Prop :=
  s.has .PMUv3_SS = true ∧ s.has .AA64 = true ∧ s.privOpen (!s.mdcr3EnPMSS) (s.fgt2Read b)

/-- A read of a register of the selected System PMU from EL1 or above. -/
def State.spmuReadOpen (s : State) (b : Fgt2Bit) : Prop :=
  s.has .SPMU = true ∧ s.has .AA64 = true ∧
    s.privOpen (!s.mdcr3EnPM2 || s.spmNoRead s.spm.spmaccessr3)
      (s.fgt2Read b || (s.el2Enabled && (!s.mdcr2EnSPM || s.spmNoRead s.spm.spmaccessr2)))

/-- The traps of a write of a register of the selected System PMU from EL1 or above, none of them in force. -/
def State.spmuWriteFree (s : State) (b : Fgt2Bit) : Prop :=
  s.has .AA64 = true ∧
    s.privOpen (!s.mdcr3EnPM2 || s.spmNoWrite s.spm.spmaccessr3)
      (s.fgt2Write b || (s.el2Enabled && (!s.mdcr2EnSPM || s.spmNoWrite s.spm.spmaccessr2)))

/-- A write of a register of the selected System PMU from EL1 or above. -/
def State.spmuWriteOpen (s : State) (b : Fgt2Bit) : Prop := s.has .SPMU = true ∧ s.spmuWriteFree b

/-- A read of a System PMU register that exists once per PE from EL1 or above: no access field is tested. -/
def State.spmPeReadOpen (s : State) (b : Fgt2Bit) : Prop :=
  s.has .SPMU = true ∧ s.has .AA64 = true ∧
    s.privOpen (!s.mdcr3EnPM2) (s.fgt2Read b || (s.el2Enabled && !s.mdcr2EnSPM))

/-- A write of a System PMU register that exists once per PE from EL1 or above. -/
def State.spmPeWriteOpen (s : State) (b : Fgt2Bit) : Prop :=
  s.has .SPMU = true ∧ s.has .AA64 = true ∧
    s.privOpen (!s.mdcr3EnPM2) (s.fgt2Write b || (s.el2Enabled && !s.mdcr2EnSPM))

/-- A control of EL1 that takes an EL0 access to a register of the selected System PMU: MDSCR_EL1.EnSPM, or the field of
SPMACCESSR_EL1, tested by `denies`, unless ELIsInHost(EL0) (R1001, R1002). -/
def State.spmuUserDenied (s : State) (denies : Word → Bool) : Bool :=
  !s.inp.mdscrEnSPM || (!s.inp.inHostEL0 && denies s.spm.spmaccessr1)

/-- A read of a register of the selected System PMU from EL0. -/
def State.spmuUserReadOpen (s : State) (b : Fgt2Bit) : Prop :=
  s.has .SPMU = true ∧ s.has .AA64 = true ∧
    s.userOpen (!s.mdcr3EnPM2 || s.spmNoRead s.spm.spmaccessr3)
      ((!s.inp.inHostEL0 && s.fgt2Read b) || (s.el2Enabled && (!s.mdcr2EnSPM || s.spmNoRead s.spm.spmaccessr2)))
      (s.spmuUserDenied s.spmNoRead)

/-- The traps of a write of a register of the selected System PMU from EL0, none of them in force. -/
def State.spmuUserWriteFree (s : State) (b : Fgt2Bit) : Prop :=
  s.has .AA64 = true ∧
    s.userOpen (!s.mdcr3EnPM2 || s.spmNoWrite s.spm.spmaccessr3)
      ((!s.inp.inHostEL0 && s.fgt2Write b) || (s.el2Enabled && (!s.mdcr2EnSPM || s.spmNoWrite s.spm.spmaccessr2)))
      (s.spmuUserDenied s.spmNoWrite)

/-- A write of a register of the selected System PMU from EL0. -/
def State.spmuUserWriteOpen (s : State) (b : Fgt2Bit) : Prop := s.has .SPMU = true ∧ s.spmuUserWriteFree b

/-- SPMSCR_EL1 is not UNDEFINED (R1436, R1440). -/
def State.secureAccess (s : State) : Bool :=
  s.cfg.haveSecureEL1 && s.inp.ss != .nonSecure && !(s.has .RME && s.inp.ss == .realm)

/-- The `MRS` of EL0 that read a register of the selected System PMU. -/
noncomputable def spmuUserReads (t : Nat) : List Instr :=
  [.mrsSpmcntenclrEl0 t, .mrsSpmcntensetEl0 t, .mrsSpmcrEl0 t, .mrsSpmovsclrEl0 t, .mrsSpmovssetEl0 t] ++
  (mrsSpmevcntrRows ++ mrsSpmevtyperRows ++ mrsSpmevfiltrRows ++ mrsSpmevfilt2rRows).map (· t)

/-- The `MSR` of EL0 of FEAT_SPMU that write one; SPMZR_EL0 is of FEAT_SPMU2. -/
noncomputable def spmuUserWrites (t : Nat) : List Instr :=
  [.msrSpmcntenclrEl0 t, .msrSpmcntensetEl0 t, .msrSpmcrEl0 t, .msrSpmovsclrEl0 t, .msrSpmovssetEl0 t] ++
  (msrSpmevcntrRows ++ msrSpmevtyperRows ++ msrSpmevfiltrRows ++ msrSpmevfilt2rRows).map (· t)

/-- A read of SPMSELR_EL0 from EL0: no access field is tested. -/
def State.spmPeUserReadOpen (s : State) (b : Fgt2Bit) : Prop :=
  s.has .SPMU = true ∧ s.has .AA64 = true ∧
    s.userOpen (!s.mdcr3EnPM2) ((!s.inp.inHostEL0 && s.fgt2Read b) || (s.el2Enabled && !s.mdcr2EnSPM))
      (!s.inp.mdscrEnSPM)

/-- A write of SPMSELR_EL0 from EL0. -/
def State.spmPeUserWriteOpen (s : State) (b : Fgt2Bit) : Prop :=
  s.has .SPMU = true ∧ s.has .AA64 = true ∧
    s.userOpen (!s.mdcr3EnPM2) ((!s.inp.inHostEL0 && s.fgt2Write b) || (s.el2Enabled && !s.mdcr2EnSPM))
      (!s.inp.mdscrEnSPM)

/-- A read of a PMU register of FEAT_PMUv3 from EL0, permitted by PMUSERENR_EL0.EN with UEN not in force (R892). -/
def State.pmuUserReadOpen (s : State) (b : FgtBit) : Prop :=
  s.has .PMUv3 = true ∧ s.has .AA64 = true ∧
    s.userOpen s.mdcr3TPM ((!s.inp.inHostEL0 && s.fgtRead b) || s.guestTPM) (!s.userEN || s.userUENOn)

/-- A write of a PMU register of FEAT_PMUv3 from EL0, permitted by PMUSERENR_EL0.EN with UEN not in force (R892). -/
def State.pmuUserWriteOpen (s : State) (b : FgtBit) : Prop :=
  s.has .PMUv3 = true ∧ s.has .AA64 = true ∧
    s.userOpen s.mdcr3TPM ((!s.inp.inHostEL0 && s.fgtWrite b) || s.guestTPM) (!s.userEN || s.userUENOn)

end Sys2Proof.Machine
end

