-- ==== Sys2Proof/Certificates/Slice0/Obligations.lean ====
section
/-! DEFINITION. The statements for the provers. -/

open Sys2Proof Sys2Proof.Machine

/-- O1. For every instruction i, all 367 rows with every register operand 0 to 31, decode (encode i) is i. (R201, R202,
R204, R210, R211, R212, R213, R214, R215, R216) -/
def Obligations.DecodeOfEncodeIsTheInstruction : Prop :=
  ∀ i : Instr, WellFormed i → decode (encode i) = .instr i

/-- O2. For every 32-bit word w and instruction i, if decode w is i then i is well formed and encode i is w. (R201,
R204, R210, R211, R212, R213, R214, R215, R216) -/
def Obligations.EncodeOfDecodeIsTheWord : Prop :=
  ∀ (w : InstrWord) (i : Instr), decode w = .instr i → WellFormed i ∧ encode i = w

/-- O3. Sixteen words written out from the tables, at least one for each group and family, decode to the instruction
they stand for. (R201, R202, R210, R211, R212, R213, R214, R215, R216) -/
def Obligations.WordsFromTheEncodingTables : Prop :=
  decode 0xD53B9C00#32 = .instr (.mrsPmcrEl0 0) ∧ decode 0xD51B9C01#32 = .instr (.msrPmcrEl0 1) ∧
  decode 0xD53BEFE5#32 = .instr (.mrsPmccfiltrEl0 5) ∧ decode 0xD53BE802#32 = .instr (.mrsPmevcntr0El0 2) ∧
  decode 0xD51BEDA9#32 = .instr (.msrPmevtyper13El0 9) ∧ decode 0xD53BEBC3#32 = .instr (.mrsPmevcntr30El0 3) ∧
  decode 0xD530E8E4#32 = .instr (.mrsPmevcntsvr7El1 4) ∧ decode 0xD513E147#32 = .instr (.msrSpmevcntr10El0 7) ∧
  decode 0xD5309D26#32 = .instr (.mrsSpmcgcr1El1 6) ∧ decode 0xD5139CBF#32 = .instr (.msrSpmselrEl0 31) ∧
  decode 0xD53C1128#32 = .instr (.mrsMdcrEl2 8) ∧ decode 0xD51E132A#32 = .instr (.msrMdcrEl3 10) ∧
  decode 0xD533E50C#32 = .instr (.mrsSpmevfiltr8El0 12) ∧ decode 0xD530EBE9#32 = .instr (.mrsPmccntsvrEl1 9) ∧
  decode 0xD53BE8A3#32 = .instr (.mrsPmevcntr5El0 3) ∧ decode 0xD5189E29#32 = .instr (.msrPmintensetEl1 9)

/-- O4. For every instruction, bits [31:22] of its word are 0b1101010100 and bit [20] is 1. (R201) -/
def Obligations.EveryWordHasTheClassBits : Prop :=
  ∀ i : Instr, (encode i).extractLsb' 22 10 = 0b1101010100#10 ∧ (encode i).getLsbD 20 = true

/-- O5. MSR of each read-only register (for PMEVCNTSVR<m>_EL1, m = 0 to 30, and SPMCGCR<m>_EL1, m = 0 to 1) and MRS of
each write-only register, with every Rt, decodes to no instruction and executing it raises Undefined. (R205, R1501)
-/
def Obligations.MissingDirectionIsUndefined : Prop :=
  ∀ (k : BitVec 27) (t : BitVec 5) (s : State),
    (k ∈ [sysKey 0 3 3 9 12 6, sysKey 0 3 3 9 12 7, sysKey 0 3 0 9 14 6, sysKey 0 2 0 14 11 7, sysKey 0 2 0 14 12 0,
        sysKey 0 2 0 9 13 7, sysKey 0 2 0 9 13 0, sysKey 0 2 0 9 13 1, sysKey 0 2 0 9 13 6, sysKey 0 2 0 9 13 5,
        sysKey 0 2 0 9 13 4, sysKey 1 3 3 9 12 4, sysKey 1 3 3 9 13 4, sysKey 1 2 3 9 12 4] ∨
      ∃ m < 31, k = sysKey 0 2 0 14 (8 + m / 8) (m % 8)) →
    decode (k ++ t) = .unallocated ∧ executeWord (k ++ t) s = .next (takeException .undefined s)

/-- O6. When the PE is to move, no exception is outstanding and the next instruction word decodes to a well-formed
instruction i, the step is exec of i: with an empty schedule at that state, with a schedule whose head is the PE at
the state with that head removed. The schedule is the model's own (log 9). (R6, R151, R204) -/
def Obligations.StepRunsTheDecodedInstruction : Prop :=
  ∀ (s : State) (w : InstrWord) (rest : List InstrWord) (i : Instr), s.pending = none → s.program = w :: rest →
    decode w = .instr i → WellFormed i →
    (s.schedule = [] → step s = exec i s) ∧
    (∀ moves, s.schedule = .pe :: moves → step s = exec i { s with schedule := moves })

/-- O7. With an empty schedule: a word in a missing direction raises Undefined; a word outside the spec is refused; with
no word left, or with an exception outstanding, the PE is refused. A scheduled move of the environment is that
transition. The refusals and the schedule are the model's own (log 7, 8, 9). (R151, R205, R1503) -/
def Obligations.StepOfAnythingElse : Prop :=
  ∀ s : State,
    (∀ w rest, s.schedule = [] → s.pending = none → s.program = w :: rest →
      (decode w = .unallocated → step s = .next (takeException .undefined s)) ∧
      (decode w = .outside → step s = .refused (.outsideInstructionSet w))) ∧
    (s.schedule = [] → s.pending = none → s.program = [] → step s = .refused .noInstruction) ∧
    (∀ e, s.schedule = [] → s.pending = some e → step s = .refused (.exceptionOutstanding e)) ∧
    (∀ e moves, s.schedule = .env e :: moves → step s = envStep e { s with schedule := moves })

/-- O8. If the memory is in canonical form and lists only bytes of the NVMem cell, and every register holds 0 in each
bit that the implementation does not have (the PMU registers, PMEVTYPER<n>_EL0.TC also where no form of it holds;
every register of every implemented System PMU and counter; the SPMACCESSR registers, SPMSELR_EL0, MDCR_EL2 and
MDCR_EL3), then the same holds after any step: an instruction, a tick, a reset or any other move of the environment.
PMCCNTR_EL0, PMICNTR_EL0, the snapshot registers and PMIAR_EL1 are not in it: they have no bit that is RES0 in every
state (R571, R653). (R56, R57, R70, R151, R160, R586, R1103, R1149, R1201, R1302, R1303, R1418) -/
def Obligations.EveryStepKeepsTheInvariant : Prop :=
  ∀ s s' : State, s.Inv → step s = .next s' → s'.Inv

/-- O9. State.reset satisfies the invariant of O8: its memory is in canonical form, and every register that O8 names
holds 0 in each bit that its implementation does not have. Which implementation State.reset is of is the model's
choice (log 1). (R56, R1601, R1604) -/
def Obligations.ResetSatisfiesTheInvariant : Prop :=
  State.reset.Inv

/-- O10. Whatever a step does, an instruction or a move of the environment, the implementation parameters are the same
after it. (R7) -/
def Obligations.NoStepChangesTheImplementation : Prop :=
  ∀ s s' : State, step s = .next s' → s'.cfg = s.cfg

/-- O11. For every instruction and every state, exec answers a next state: the access is performed, reads zero, is
ignored, or raises an exception. (R1500) -/
def Obligations.EveryInstructionAnswersANextState : Prop :=
  ∀ (i : Instr) (s : State), ∃ s', exec i s = .next s'

/-- O12. If no exception is outstanding, exec answers a next state and an exception is outstanding in it, then it is
Undefined or a System access trap with exception class 0x18, and nothing else differs but the model's count of drawn
free values (log 10). (R1501, R1502) -/
def Obligations.ExceptionsChangeNoState : Prop :=
  ∀ (i : Instr) (s s' : State), s.pending = none → exec i s = .next s' → s'.pending ≠ none →
    ∃ e, (e = .undefined ∨ ∃ el, e = .systemAccessTrap el 0x18) ∧
      s' = { s with pending := some e, freeCtr := s'.freeCtr }

/-- O13. If no exception is outstanding before exec and none after, then the program counter has advanced by 4 (R19) and
the instruction stream by one word. The stream is the model's own: there is no instruction memory, and that it
advances by one word is the model's choice (log 7). (R19) -/
def Obligations.CompletionAdvancesTheProgramCounter : Prop :=
  ∀ (i : Instr) (s s' : State), s.pending = none → exec i s = .next s' → s'.pending = none →
    s'.pc = s.pc + 4 ∧ s'.program = s.program.tail

/-- O14. For every MRS (bit [21] of the word is 1), in a next state: every general register but Xt, every PMU, System
PMU and MDCR register, the hidden state, the inputs, the choices, the implementation and every byte of memory are
unchanged. (R19, R20, R155) -/
def Obligations.ReadsWriteOnlyTheirRegister : Prop :=
  ∀ (i : Instr) (s s' : State), i.key.getLsbD 16 = true → exec i s = .next s' →
    (∀ r, r ≠ i.rt → s'.readX r = s.readX r) ∧ s'.pmu = s.pmu ∧ s'.spm = s.spm ∧ s'.mdcrEl2 = s.mdcrEl2 ∧
      s'.mdcrEl3 = s.mdcrEl3 ∧ s'.inp = s.inp ∧ s'.choices = s.choices ∧ s'.cfg = s.cfg ∧ s'.schedule = s.schedule ∧
      ∀ a, readByte s'.mem a = readByte s.mem a

/-- O15. For every MSR (bit [21] of the word is 0), in a next state: every general register, the inputs, the choices,
the implementation and the schedule are unchanged; memory is unchanged for every MSR but MSR SPMACCESSR_EL1 and MSR
SPMACCESSR_EL12; for those two every byte outside the eight of NVMem[0x8E8], at the addresses that nvmemAddr
computes, is unchanged. Only a System PMU name (op0 = 0b10) changes System PMU state, and no PMU register; only MSR
MDCR_EL2 changes MDCR_EL2, and only MSR MDCR_EL3 changes MDCR_EL3, and no PMU register. (R19, R155, R160, R1547) -/
def Obligations.WritesChangeTheirUnitOnly : Prop :=
  ∀ (i : Instr) (s s' : State), i.key.getLsbD 16 = false → exec i s = .next s' →
    s'.x = s.x ∧ s'.inp = s.inp ∧ s'.choices = s.choices ∧ s'.cfg = s.cfg ∧ s'.schedule = s.schedule ∧
      ((∀ t, i ≠ .msrSpmaccessrEl1 t ∧ i ≠ .msrSpmaccessrEl12 t) → ∀ a, readByte s'.mem a = readByte s.mem a) ∧
      (∀ a, (∀ k < 8, s.nvmemAddr k ≠ a) → readByte s'.mem a = readByte s.mem a) ∧
      (i.key.getLsbD 14 = true → s'.spm = s.spm) ∧ (i.key.getLsbD 14 = false → s'.pmu = s.pmu) ∧
      ((∀ t, i ≠ .msrMdcrEl2 t) → s'.mdcrEl2 = s.mdcrEl2) ∧ ((∀ t, i ≠ .msrMdcrEl3 t) → s'.mdcrEl3 = s.mdcrEl3) ∧
      (∀ t, i = .msrMdcrEl3 t → s'.pmu = s.pmu)

/-- O16. For t = 31 the operand reads zero and writing it changes nothing; for t from 0 to 30 a write is read back and
every other register is unchanged. (R20) -/
def Obligations.ZeroRegisterReadsZeroAndDiscards : Prop :=
  ∀ (s : State) (v : Word), s.readX 31 = 0 ∧ s.writeX 31 v = s ∧
    ∀ t < 31, (s.writeX t v).readX t = v ∧ ∀ r, r ≠ t → (s.writeX t v).readX r = s.readX r

/-- O17. From EL1 or above with no trap in force: MRS PMCCNTR_EL0 and MRS PMCCNTSVR_EL1 give the 64-bit value, MSR
PMCCNTR_EL0 replaces it; MRS PMCCFILTR_EL0 gives the implemented fields (the VS field UNKNOWN while it holds its
reserved value), MSR PMCCFILTR_EL0 stores them. Nothing else changes. (R302, R318, R319, R326, R327, R333) -/
def Obligations.CycleCounterAccessesComplete : Prop :=
  ∀ (s : State) (t : Nat),
    (s.pmuReadOpen .PMCCNTR_EL0 → exec (.mrsPmccntrEl0 t) s = .next (s.readDone t s.pmu.pmccntr)) ∧
    (s.pmuWriteOpen .PMCCNTR_EL0 →
      exec (.msrPmccntrEl0 t) s = .next (s.pmuDone { s.pmu with pmccntr := s.readX t })) ∧
    (s.pmuReadOpen .PMCCFILTR_EL0 → exec (.mrsPmccfiltrEl0 t) s = .next (s.readDone t
      (mergeBits (s.pmu.pmccfiltr &&& s.cfg.filterMask) (s.unknown 0) (vsUnknown s.cfg s.pmu.pmccfiltr)))) ∧
    (s.pmuWriteOpen .PMCCFILTR_EL0 → exec (.msrPmccfiltrEl0 t) s =
      .next (s.pmuDone { s.pmu with pmccfiltr := s.readX t &&& s.cfg.filterMask })) ∧
    (s.snapshotReadOpen .nPMSSDATA → exec (.mrsPmccntsvrEl1 t) s = .next (s.readDone t s.pmu.pmccntsvr))

/-- O18. From EL1 or above with no trap in force, MRS of PMCNTENCLR_EL0 or PMCNTENSET_EL0, PMINTENCLR_EL1 or
PMINTENSET_EL1, PMOVSCLR_EL0 or PMOVSSET_EL0 gives the shared bitmap AND the readable bits of the context. (R427,
R428, R448, R717, R719, R738, R810, R828) -/
def Obligations.BitmapReadsComplete : Prop :=
  ∀ (s : State) (t : Nat),
    (s.pmuReadOpen .PMCNTEN →
      exec (.mrsPmcntenclrEl0 t) s = .next (s.readDone t (s.pmu.pmcnten &&& readMask s.countAccess)) ∧
      exec (.mrsPmcntensetEl0 t) s = .next (s.readDone t (s.pmu.pmcnten &&& readMask s.countAccess))) ∧
    (s.pmuReadOpen .PMINTEN →
      exec (.mrsPmintenclrEl1 t) s = .next (s.readDone t (s.pmu.pminten &&& readMask s.intAccess)) ∧
      exec (.mrsPmintensetEl1 t) s = .next (s.readDone t (s.pmu.pminten &&& readMask s.intAccess))) ∧
    (s.pmuReadOpen .PMOVS →
      exec (.mrsPmovsclrEl0 t) s = .next (s.readDone t (s.pmu.pmovs &&& readMask s.countAccess)) ∧
      exec (.mrsPmovssetEl0 t) s = .next (s.readDone t (s.pmu.pmovs &&& readMask s.countAccess)))

/-- O19. From EL1 or above with no trap in force, MSR of a CLR register gives S AND NOT (Xt AND wr) and MSR of a SET
register S OR (Xt AND wr), for the counter enables, the interrupt enables and the overflow flags; nothing else
changes, but that MSR PMCNTENSET_EL0 makes the edge history of a counter that becomes enabled UNKNOWN (log 18).
(R427, R429, R449, R717, R720, R739, R811, R829) -/
def Obligations.BitmapWritesClearAndSet : Prop :=
  ∀ (s : State) (t : Nat),
    (s.pmuWriteOpen .PMCNTEN →
      exec (.msrPmcntenclrEl0 t) s =
        .next (s.pmuDone { s.pmu with pmcnten := s.pmu.pmcnten &&& ~~~(s.readX t &&& writeMask s.countAccess) }) ∧
      exec (.msrPmcntensetEl0 t) s = .next (redrawEdges s
        (s.withPmu { s.pmu with pmcnten := s.pmu.pmcnten ||| (s.readX t &&& writeMask s.countAccess) })).advance) ∧
    (s.pmuWriteOpen .PMINTEN →
      exec (.msrPmintenclrEl1 t) s =
        .next (s.pmuDone { s.pmu with pminten := s.pmu.pminten &&& ~~~(s.readX t &&& writeMask s.intAccess) }) ∧
      exec (.msrPmintensetEl1 t) s =
        .next (s.pmuDone { s.pmu with pminten := s.pmu.pminten ||| (s.readX t &&& writeMask s.intAccess) })) ∧
    (s.pmuWriteOpen .PMOVS →
      exec (.msrPmovsclrEl0 t) s =
        .next (s.pmuDone { s.pmu with pmovs := s.pmu.pmovs &&& ~~~(s.readX t &&& writeMask s.countAccess) }) ∧
      exec (.msrPmovssetEl0 t) s =
        .next (s.pmuDone { s.pmu with pmovs := s.pmu.pmovs ||| (s.readX t &&& writeMask s.countAccess) }))

/-- O20. At EL2 (with MDCR_EL3.EnPM2 set if EL3 is implemented) and at EL3, bit i of the readable and of the writable
mask of PMCNTEN and PMOVS, and of PMINTEN, is 1 exactly when i is below GetNumEventCountersSelfHosted(), i is 31, or
i is 32 and FEAT_PMUv3_ICNTR is implemented. (R110, R423, R425, R426, R713, R716) -/
def Obligations.BitmapMasksAtEL3AndEL2 : Prop :=
  ∀ (s : State) (i : Nat),
    (s.inp.el = .el3 ∨ (s.inp.el = .el2 ∧ (s.haveEL3 = false ∨ s.mdcr3EnPM2 = true))) → i < 64 →
    (bit (readMask s.countAccess) i = true ↔ (i < s.numSelfHosted ∨ i = 31 ∨ (i = 32 ∧ s.has .PMUv3_ICNTR = true))) ∧
    bit (writeMask s.countAccess) i = bit (readMask s.countAccess) i ∧
    bit (readMask s.intAccess) i = bit (readMask s.countAccess) i ∧
    bit (writeMask s.intAccess) i = bit (readMask s.countAccess) i

/-- O21. From EL1 or above with no trap in force, MRS PMCR_EL0 completes; bits P and C of the value are 0, the
implemented fields E, D, X, DP, LP, FZO and FZS are as stored, LC is as stored or 1 without FEAT_AA32, N is the
number of accessible counters, and IMP and IDCODE are the constants, IMP zero with FEAT_PMUv3p7 and IDCODE zero when
IMP is. (R462, R464, R465, R466, R478) -/
def Obligations.PmcrReadCompletes : Prop :=
  ∀ (s : State) (t : Nat), s.pmuReadOpen .PMCR_EL0 → s.inp.el ≠ .el1 ∨ (s.el2Enabled && s.mdcr2TPMCR) = false →
    ∃ v, exec (.mrsPmcrEl0 t) s = .next (s.readDone t v) ∧ bit v 1 = false ∧ bit v 2 = false ∧
      (∀ i ∈ [0, 3, 4, 5, 7, 9, 32], bit v i = bit (s.pmu.pmcr &&& s.cfg.pmcrMask) i) ∧
      bit v 6 = (!s.has .AA32 || bit s.pmu.pmcr 6) ∧
      fieldNat v 11 5 = s.numAccessible ∧
      field v 24 8 = (if s.has .PMUv3p7 then 0 else s.cfg.imp) ∧
      field v 16 8 = (if field v 24 8 = 0 then 0 else s.cfg.idcode)

/-- O22. From EL1 or above with no trap in force, MSR PMCR_EL0 completes: the implemented fields are stored, bit C
zeroes PMCCNTR_EL0, bit P zeroes every affected event counter, the overflow flags, enables, event types and every
other register are unchanged. The divider phase and the edge history may be UNKNOWN after it (log 17, 18). (R473,
R474, R477, R479) -/
def Obligations.PmcrWriteCompletes : Prop :=
  ∀ (s : State) (t : Nat), s.pmuWriteOpen .PMCR_EL0 → s.inp.el ≠ .el1 ∨ (s.el2Enabled && s.mdcr2TPMCR) = false →
    ∃ u : State, exec (.msrPmcrEl0 t) s = .next u ∧
      u.pmu.pmcr = s.readX t &&& s.cfg.pmcrMask ∧
      u.pmu.pmccntr = (if bit (s.readX t) 2 then 0 else s.pmu.pmccntr) ∧
      (∀ n < 31, u.evcntr n = if bit (s.readX t) 1 = true ∧ (n < s.hpmnEff ∨ (n < s.numSelfHosted ∧
        (s.el2Enabled = false ∨ s.inp.el = .el2 ∨ s.inp.el = .el3))) then 0 else s.evcntr n) ∧
      u.pmu = { s.pmu with pmcr := u.pmu.pmcr, pmccntr := u.pmu.pmccntr, pmevcntr := u.pmu.pmevcntr,
                           divPhase := u.pmu.divPhase, edgePrev := u.pmu.edgePrev } ∧
      u = { s with pmu := u.pmu, pc := s.pc + 4, program := s.program.tail, freeCtr := u.freeCtr }

/-- O23. From EL1 or above with no trap in force: MSR PMECR_EL1 stores the implemented fields and MRS gives them (a
field that holds a reserved value reads as UNKNOWN); MSR PMUACR_EL1 replaces the bits of the accessible counters, C
and F0, and MRS gives them; MRS PMIAR_EL1 gives the stored address and MSR PMIAR_EL1 of a canonical value stores it;
of any other value it stores bits [P-1:2] (P is 56 with FEAT_LVA3, else 52 with FEAT_LVA, else 48), and bits [63:P]
and [1:0] take the value that the parameter PMIAR_WRITE_NONCANONICAL gives: a free value, or one of the behaviours
that the model allows beside the default of D13 (log 28). (R491, R496, R497, R653, R654, R655, R875, R876, R877) -/
def Obligations.ExtendedControlAccessesComplete : Prop :=
  ∀ (s : State) (t : Nat),
    (s.pm2ReadOpen (s.has .EBEP = true ∨ s.has .PMUv3_SS = true) .nPMECR_EL1 → exec (.mrsPmecrEl1 t) s =
      .next (s.readDone t (mergeBits (s.pmu.pmecr &&& s.cfg.pmecrMask) (s.unknown 0) (s.cfg.pmecrMask &&&
        (fieldIf 3 2 (field s.pmu.pmecr 3 2 == 1) |||
          fieldIf 0 2 (field s.pmu.pmecr 0 2 == 1 || field s.pmu.pmecr 0 2 == 2)))))) ∧
    (s.pm2WriteOpen (s.has .EBEP = true ∨ s.has .PMUv3_SS = true) .nPMECR_EL1 → exec (.msrPmecrEl1 t) s =
      .next (s.pmuDone { s.pmu with pmecr := s.readX t &&& s.cfg.pmecrMask })) ∧
    (s.pm2ReadOpen (s.has .PMUv3p9 = true) .nPMUACR_EL1 → exec (.mrsPmuacrEl1 t) s =
      .next (s.readDone t (s.pmu.pmuacr &&& readMask s.uacrAccess))) ∧
    (s.pm2WriteOpen (s.has .PMUv3p9 = true) .nPMUACR_EL1 → exec (.msrPmuacrEl1 t) s =
      .next (s.pmuDone { s.pmu with pmuacr := mergeBits s.pmu.pmuacr (s.readX t) (writeMask s.uacrAccess) })) ∧
    (s.pm2ReadOpen (s.has .SEBEP = true) .nPMIAR_EL1 →
      exec (.mrsPmiarEl1 t) s = .next (s.readDone t s.pmu.pmiar)) ∧
    (s.pm2WriteOpen (s.has .SEBEP = true) .nPMIAR_EL1 → pmiarCanonical (pmiarP s.cfg) (s.readX t) = true →
      exec (.msrPmiarEl1 t) s = .next ((s.withPmu { s.pmu with pmiar := s.readX t }).drawn 1).advance) ∧
    (s.pm2WriteOpen (s.has .SEBEP = true) .nPMIAR_EL1 → pmiarCanonical (pmiarP s.cfg) (s.readX t) = false →
      ∃ v p, exec (.msrPmiarEl1 t) s = .next ((s.withPmu { s.pmu with pmiar := v }).drawn 1).advance ∧
        p = (if s.has .LVA3 then 56 else if s.has .LVA then 52 else 48) ∧
        (∀ i, 2 ≤ i → i < p → bit v i = bit (s.readX t) i) ∧
        (∀ i < 64, i < 2 ∨ p ≤ i → bit v i = match s.cfg.pmiarNoncanonical with
          | .unspecified => bit (s.unknown 0) i
          | .byValue => bit (Config.pmiarFunction (s.readX t)) i
          | .signExtended => decide (p ≤ i) && bit (s.readX t) (p - 1)
          | .asWritten => bit (s.readX t) i))

/-- O24. From EL1 or above with no trap in force: MRS and MSR PMICNTR_EL0 give and replace the 64-bit counter, MRS
PMICNTSVR_EL1 gives the snapshot, MSR PMICFILTR_EL0 stores the implemented filter fields with evtCount fixed at
0x0008, and MRS gives them (the VS field UNKNOWN while it holds its reserved value). (R661, R676, R679, R680, R694,
R695, R702) -/
def Obligations.InstructionCounterAccessesComplete : Prop :=
  ∀ (s : State) (t : Nat),
    (s.pm2ReadOpen (s.has .PMUv3_ICNTR = true) .nPMICNTR_EL0 →
      exec (.mrsPmicntrEl0 t) s = .next (s.readDone t s.pmu.pmicntr)) ∧
    (s.pm2WriteOpen (s.has .PMUv3_ICNTR = true) .nPMICNTR_EL0 →
      exec (.msrPmicntrEl0 t) s = .next (s.pmuDone { s.pmu with pmicntr := s.readX t })) ∧
    (s.pm2ReadOpen (s.has .PMUv3_ICNTR = true) .nPMICFILTR_EL0 → exec (.mrsPmicfiltrEl0 t) s =
      .next (s.readDone t (mergeBits ((s.pmu.pmicfiltr &&& s.cfg.icfiltrMask) ||| 8) (s.unknown 0)
        (vsUnknown s.cfg s.pmu.pmicfiltr)))) ∧
    (s.pm2WriteOpen (s.has .PMUv3_ICNTR = true) .nPMICFILTR_EL0 → exec (.msrPmicfiltrEl0 t) s =
      .next (s.pmuDone { s.pmu with pmicfiltr := (s.readX t &&& s.cfg.icfiltrMask) ||| 8 })) ∧
    (s.has .PMUv3_ICNTR = true → s.snapshotReadOpen .nPMSSDATA →
      exec (.mrsPmicntsvrEl1 t) s = .next (s.readDone t s.pmu.pmicntsvr))

/-- O25. From EL1 or above with no trap in force: MRS PMCEID0_EL0 and PMCEID1_EL0 give constants (IDhi zero without
FEAT_PMUv3p1) whose bits say exactly which common events of their ranges are counted; MRS PMMIR_EL1 gives a constant
that meets the consistency conditions of R768 (a parameter that breaks them is clipped, log 41); MSR PMSELR_EL0
stores SEL, bits [4:0], and MRS gives it (UNKNOWN without FEAT_FGT while SEL is neither 31 nor the number of an
implemented counter); MSR PMUSERENR_EL0 stores the implemented fields and MRS gives them. (R403, R404, R405, R413,
R414, R415, R768, R769, R833, R834, R835, R893) -/
def Obligations.SelectUserAndIdentificationComplete : Prop :=
  ∀ (s : State) (t : Nat),
    (s.pmuReadOpen .PMSELR_EL0 → exec (.mrsPmselrEl0 t) s = .next (s.readDone t
      (mergeBits (s.pmu.pmselr &&& 31) (s.unknown 0)
        (if s.has .FGT = false ∧ s.cfg.numCounters ≤ s.sel ∧ s.sel ≠ 31 then 31 else 0)))) ∧
    (s.pmuWriteOpen .PMSELR_EL0 →
      exec (.msrPmselrEl0 t) s = .next (s.pmuDone { s.pmu with pmselr := s.readX t &&& 31 })) ∧
    (s.pmuReadOpen .PMUSERENR_EL0 →
      exec (.mrsPmuserenrEl0 t) s = .next (s.readDone t (s.pmu.pmuserenr &&& s.cfg.pmuserenrMask))) ∧
    (s.pmuWriteOpen .PMUSERENR_EL0 → exec (.msrPmuserenrEl0 t) s =
      .next (s.pmuDone { s.pmu with pmuserenr := s.readX t &&& s.cfg.pmuserenrMask })) ∧
    (s.pmuReadOpen .PMCEIDn_EL0 →
      exec (.mrsPmceid0El0 t) s = .next (s.readDone t (s.cfg.pmceid0 &&& s.cfg.pmceidMask)) ∧
      exec (.mrsPmceid1El0 t) s = .next (s.readDone t (s.cfg.pmceid1 &&& s.cfg.pmceidMask))) ∧
    (s.has .PMUv3p4 = true → s.has .AA64 = true → s.privOpen s.mdcr3TPM (s.fgtRead .PMMIR_EL1 || s.guestTPM) →
      ∃ v, exec (.mrsPmmirEl1 t) s = .next (s.readDone t v) ∧ field v 29 35 = 0 ∧ bit v 28 = s.has .PMUv3_SME ∧
        fieldNat v 24 4 = (if s.has .PMUv3_TH = false then 0 else if s.has .PMUv3_TH2 then 2
          else if s.has .PMUv3_EDGE then 1 else 0) ∧
        (fieldNat v 20 4 = 0 ↔ s.has .PMUv3_TH = false) ∧ fieldNat v 20 4 ≤ 12 ∧
        fieldNat v 16 4 ∈ [0, 3, 4, 5, 6, 7, 8, 9, 10, 11, 12] ∧ field v 0 16 = field s.cfg.pmmir 0 16) ∧
    (∀ n < 32, bit (s.cfg.pmceid0 &&& s.cfg.pmceidMask) n = s.cfg.supported n ∧
      bit (s.cfg.pmceid1 &&& s.cfg.pmceidMask) n = s.cfg.supported (0x20 + n) ∧
      (s.has .PMUv3p1 = true →
        bit (s.cfg.pmceid0 &&& s.cfg.pmceidMask) (n + 32) = s.cfg.supported (0x4000 + n) ∧
        bit (s.cfg.pmceid1 &&& s.cfg.pmceidMask) (n + 32) = s.cfg.supported (0x4020 + n)))

/-- O26. From EL1 or above with no trap in force: MRS PMSSCR_EL1 gives bits 32 and 0. MSR with SS = 1 while Capture
events are allowed copies every implemented counter to its snapshot register and clears NC and SS; while prohibited
it sets NC and clears SS and copies nothing; with SS = 0, or while disabled, it stores NC alone. That the Capture
event completes before the next instruction is the spec's decision D16 (log 37). (R842, R843, R844, R845, R847,
R848) -/
def Obligations.SnapshotControlCompletes : Prop :=
  ∀ (s : State) (t : Nat),
    (s.snapshotReadOpen .nPMSSCR_EL1 →
      exec (.mrsPmsscrEl1 t) s = .next (s.readDone t (s.pmu.pmsscr &&& 0x100000001))) ∧
    (s.has .PMUv3_SS = true → s.has .AA64 = true → s.privOpen (!s.mdcr3EnPMSS) (s.fgt2Write .nPMSSCR_EL1) →
      (bit (s.readX t) 0 = true → s.captureControl = .allowed →
        ∃ p : Pmu, exec (.msrPmsscrEl1 t) s = .next (s.pmuDone p) ∧ p.pmccntsvr = s.pmu.pmccntr ∧
          (∀ n < 31, arrayGet p.pmevcntsvr n 0 =
            if n < s.cfg.numCounters then s.evcntr n else arrayGet s.pmu.pmevcntsvr n 0) ∧
          p.pmicntsvr = (if s.has .PMUv3_ICNTR then s.pmu.pmicntr else s.pmu.pmicntsvr) ∧ p.pmsscr = 0 ∧
          p = { s.pmu with pmccntsvr := p.pmccntsvr, pmevcntsvr := p.pmevcntsvr, pmicntsvr := p.pmicntsvr,
                           pmsscr := p.pmsscr }) ∧
      (bit (s.readX t) 0 = true → s.captureControl = .prohibited →
        exec (.msrPmsscrEl1 t) s = .next (s.pmuDone { s.pmu with pmsscr := 0x100000000 })) ∧
      (bit (s.readX t) 0 = false ∨ s.captureControl = .disabled → ∃ v, exec (.msrPmsscrEl1 t) s =
        .next (s.pmuDone { s.pmu with pmsscr := v }) ∧ bit v 32 = bit (s.readX t) 32 ∧ bit v 0 = bit s.pmu.pmsscr 0))

/-- O27. MDCR_EL3.PMSSE decides unless it is 0b01 or EL3 is not implemented; then MDCR_EL2.PMSSE unless it is 0b01 or
EL2 is not implemented; then PMECR_EL1.SSE. 0b00 is disabled, 0b10 prohibited, 0b11 allowed. (0b01 in PMECR_EL1.SSE
is reserved and not covered.) (R844) -/
def Obligations.CaptureControlChain : Prop :=
  ∀ (s : State) (v3 v2 : BitVec 2),
    v3 = (if s.haveEL3 then field s.mdcrEl3 30 2 else 1) → v2 = (if s.haveEL2 then field s.mdcrEl2 30 2 else 1) →
    ∀ v : BitVec 2, v = (if v3 ≠ 1 then v3 else if v2 ≠ 1 then v2 else field s.pmu.pmecr 3 2) →
      (v = 0 → s.captureControl = .disabled) ∧ (v = 2 → s.captureControl = .prohibited) ∧
      (v = 3 → s.captureControl = .allowed)

/-- O28. From EL1 or above with no trap in force, MSR PMSWINC_EL0 adds 1, modulo the counter width, to every event
counter n below the number of accessible counters whose bit in Xt is 1, whose event is 0x0000, if the PE counts that
event, and which counts in the current context (O53); no other counter changes. PMOVS[n] is 1 after it exactly if it
was 1 or if counter n was incremented and the addition carries out of its overflow width (O52); bits 31 and above of
PMOVS, and everything else, are unchanged. That the counting conditions apply is the spec's decision D15. (R404,
R604, R808, R862, R863, R864) -/
def Obligations.SoftwareIncrementCompletes : Prop :=
  ∀ (s : State) (t : Nat) (incremented : Nat → Prop), s.pmuWriteOpen .PMSWINC_EL0 →
    (∀ n, incremented n ↔ bit (s.readX t) n = true ∧ n < s.numAccessible ∧ s.cfg.evtCount (s.evtyper n) = 0 ∧
      s.cfg.supported 0 = true ∧ s.evCounts n s.context = true) →
    ∃ p : Pmu, exec (.msrPmswincEl0 t) s = .next (s.pmuDone p) ∧
      (∀ n < 31,
        (incremented n → arrayGet p.pmevcntr n 0 =
          BitVec.ofNat 64 (((s.evcntr n).toNat + 1) % 2 ^ (if s.has .PMUv3p5 then 64 else 32))) ∧
        (¬incremented n → arrayGet p.pmevcntr n 0 = s.evcntr n) ∧
        (bit p.pmovs n = true ↔ bit s.pmu.pmovs n = true ∨ (incremented n ∧
          2 ^ s.eventOvfWidth n ≤ (s.evcntr n).toNat % 2 ^ s.eventOvfWidth n + 1))) ∧
      (∀ i, 31 ≤ i → bit p.pmovs i = bit s.pmu.pmovs i) ∧
      p = { s.pmu with pmevcntr := p.pmevcntr, pmovs := p.pmovs }

/-- O29. From EL1 or above with no trap in force, MSR PMZR_EL0 sets PMCCNTR_EL0 to zero if bit 31 of Xt is 1, each
accessible event counter whose bit is 1, and, at EL2 (with EnPM2 set if EL3 is implemented) or EL3 with
FEAT_PMUv3_ICNTR, PMICNTR_EL0 if bit 32 is 1; no flag, enable or event type changes. (R972, R973, R974, R975, R976)
-/
def Obligations.ZeroCountersCompletes : Prop :=
  ∀ (s : State) (t : Nat), s.has .PMUv3p9 = true → s.has .AA64 = true →
    s.privOpen s.mdcr3TPM (s.fgt2Write .nPMZR_EL0 || s.guestTPM) →
    ∃ p : Pmu, exec (.msrPmzrEl0 t) s = .next (s.pmuDone p) ∧
      p.pmccntr = (if bit (s.readX t) 31 then 0 else s.pmu.pmccntr) ∧
      (∀ n < 31, arrayGet p.pmevcntr n 0 =
        if bit (s.readX t) n = true ∧ n < s.numAccessible then 0 else s.evcntr n) ∧
      ((s.inp.el = .el3 ∨ (s.inp.el = .el2 ∧ (s.haveEL3 = false ∨ s.mdcr3EnPM2 = true))) → p.pmicntr =
        if bit (s.readX t) 32 = true ∧ s.has .PMUv3_ICNTR = true then 0 else s.pmu.pmicntr) ∧
      p = { s.pmu with pmccntr := p.pmccntr, pmevcntr := p.pmevcntr, pmicntr := p.pmicntr }

/-- O30. From EL1 or above with no trap in force and SEL below the number of accessible counters, MRS and MSR
PMXEVCNTR_EL0 read and write PMEVCNTR<SEL>_EL0, MRS and MSR PMXEVTYPER_EL0 read and write PMEVTYPER<SEL>_EL0; with
SEL = 31 PMXEVTYPER_EL0 reaches PMCCFILTR_EL0. A field that holds a reserved value reads as UNKNOWN, TC reads as
zero where no form of it holds, and the edge history of the counter is UNKNOWN after MSR PMXEVTYPER_EL0 (log 18);
nothing else changes. (R586, R950, R951, R960, R961) -/
def Obligations.SelectedCounterAccessesComplete : Prop :=
  ∀ (s : State) (t : Nat),
    (s.sel < s.numAccessible → s.pmuReadOpen .PMEVCNTRn_EL0 →
      exec (.mrsPmxevcntrEl0 t) s = .next (s.readDone t (s.evcntr s.sel &&& s.cfg.counterMask))) ∧
    (s.sel < s.numAccessible → s.pmuWriteOpen .PMEVCNTRn_EL0 → exec (.msrPmxevcntrEl0 t) s = .next (s.pmuDone
      { s.pmu with pmevcntr := arraySet s.pmu.pmevcntr s.sel (s.readX t &&& s.cfg.counterMask) })) ∧
    (s.sel < s.numAccessible → s.pmuReadOpen .PMEVTYPERn_EL0 → exec (.mrsPmxevtyperEl0 t) s =
      .next (s.readDone t (mergeBits (s.cfg.evtyperStored s.sel (s.evtyper s.sel)) (s.unknown 0)
        (evtyperUnknown s.cfg s.sel (s.evtyper s.sel))))) ∧
    (s.sel < s.numAccessible → s.pmuWriteOpen .PMEVTYPERn_EL0 →
      exec (.msrPmxevtyperEl0 t) s = .next (((s.withPmu { s.pmu with
          pmevtyper := arraySet s.pmu.pmevtyper s.sel (s.cfg.evtyperStored s.sel (s.readX t))
          edgePrev := arraySet s.pmu.edgePrev s.sel (bit (s.unknown 0) 0) }).drawn 1).advance)) ∧
    (s.sel = 31 → s.pmuReadOpen .PMEVTYPERn_EL0 → exec (.mrsPmxevtyperEl0 t) s = .next (s.readDone t
      (mergeBits (s.pmu.pmccfiltr &&& s.cfg.filterMask) (s.unknown 0) (vsUnknown s.cfg s.pmu.pmccfiltr)))) ∧
    (s.sel = 31 → s.pmuWriteOpen .PMEVTYPERn_EL0 → exec (.msrPmxevtyperEl0 t) s =
      .next (s.pmuDone { s.pmu with pmccfiltr := s.readX t &&& s.cfg.filterMask }))

/-- O31. From EL1 or above with no trap in force and m below the number of accessible counters, MRS PMEVCNTR<m>_EL0
gives the counter (32 bits of it without FEAT_PMUv3p5) MSR PMEVCNTR<m>_EL0 replaces it and MRS PMEVCNTSVR<m>_EL1
gives its captured value, for each of the 31 + 31 + 31 rows; nothing else changes. (R552, R558, R559, R573) -/
def Obligations.EventCounterAccessesComplete : Prop :=
  ∀ (m : Nat) (s : State) (t : Nat), m < s.numAccessible →
    (∀ f, mrsPmevcntrRows[m]? = some f → s.pmuReadOpen .PMEVCNTRn_EL0 →
      exec (f t) s = .next (s.readDone t (s.evcntr m &&& s.cfg.counterMask))) ∧
    (∀ f, msrPmevcntrRows[m]? = some f → s.pmuWriteOpen .PMEVCNTRn_EL0 → exec (f t) s = .next (s.pmuDone
      { s.pmu with pmevcntr := arraySet s.pmu.pmevcntr m (s.readX t &&& s.cfg.counterMask) })) ∧
    (∀ f, mrsPmevcntsvrRows[m]? = some f → s.snapshotReadOpen .nPMSSDATA →
      exec (f t) s = .next (s.readDone t (arrayGet s.pmu.pmevcntsvr m 0)))

/-- O32. From EL1 or above with no trap in force and m below the number of accessible counters, MRS PMEVTYPER<m>_EL0
gives the implemented fields (those that hold a reserved value or an unsupported event UNKNOWN, TC zero where no
form of it holds) and MSR PMEVTYPER<m>_EL0 stores them, for each of the 31 + 31 rows; the edge history of counter m
is UNKNOWN after the write (log 18), nothing else changes. (R582, R586, R604, R610, R611) -/
def Obligations.EventTypeAccessesComplete : Prop :=
  ∀ (m : Nat) (s : State) (t : Nat), m < s.numAccessible →
    (∀ f, mrsPmevtyperRows[m]? = some f → s.pmuReadOpen .PMEVTYPERn_EL0 → exec (f t) s = .next (s.readDone t
      (mergeBits (s.cfg.evtyperStored m (s.evtyper m)) (s.unknown 0) (evtyperUnknown s.cfg m (s.evtyper m))))) ∧
    (∀ f, msrPmevtyperRows[m]? = some f → s.pmuWriteOpen .PMEVTYPERn_EL0 → exec (f t) s = .next
      (((s.withPmu { s.pmu with
          pmevtyper := arraySet s.pmu.pmevtyper m (s.cfg.evtyperStored m (s.readX t))
          edgePrev := arraySet s.pmu.edgePrev m (bit (s.unknown 0) 0) }).drawn 1).advance))

/-- O33. With no trap in force: at EL1 (not redirected to memory) and at EL3 the name SPMACCESSR_EL1 reaches
SPMACCESSR_EL1, at EL2 it reaches SPMACCESSR_EL2 when ELIsInHost(EL2) and else SPMACCESSR_EL1; at EL2 and EL3 the
name SPMACCESSR_EL2 reaches its register and, with ELIsInHost(EL2), the name SPMACCESSR_EL12 reaches SPMACCESSR_EL1;
at EL3 the name SPMACCESSR_EL3 reaches its register. MSR stores the implemented fields, MRS gives them (a field that
holds 0b10 reads as UNKNOWN). MSR SPMSELR_EL0, from EL0 too, stores SYSPMUSEL and BANK and MRS gives them (SYSPMUSEL
UNKNOWN while it holds a reserved value). (R1013, R1014, R1015, R1016, R1017, R1024, R1025, R1034, R1035, R1463,
R1468, R1469) -/
def Obligations.SpmAccessAndSelectComplete : Prop :=
  ∀ (s : State) (t : Nat),
    let v1 := mergeBits (s.spm.spmaccessr1 &&& s.cfg.spmaccessMask) (s.unknown 0)
      (spmaccessUnknown s.cfg.spmaccessMask s.spm.spmaccessr1)
    let v2 := mergeBits (s.spm.spmaccessr2 &&& s.cfg.spmaccess2Mask) (s.unknown 0)
      (spmaccessUnknown s.cfg.spmaccess2Mask s.spm.spmaccessr2)
    let v3 := mergeBits (s.spm.spmaccessr3 &&& s.cfg.spmaccessMask) (s.unknown 0)
      (spmaccessUnknown s.cfg.spmaccessMask s.spm.spmaccessr3)
    (s.spmPeReadOpen .nSPMACCESSR_EL1 → (s.inp.el = .el1 → s.inp.nvx ≠ 7) → exec (.mrsSpmaccessrEl1 t) s =
      .next (s.readDone t (if s.inp.el = .el2 ∧ s.inp.inHostEL2 = true then v2 else v1))) ∧
    (s.spmPeWriteOpen .nSPMACCESSR_EL1 → (s.inp.el = .el1 → s.inp.nvx ≠ 7) → exec (.msrSpmaccessrEl1 t) s =
      .next (s.spmDone (if s.inp.el = .el2 ∧ s.inp.inHostEL2 = true
        then { s.spm with spmaccessr2 := s.readX t &&& s.cfg.spmaccess2Mask }
        else { s.spm with spmaccessr1 := s.readX t &&& s.cfg.spmaccessMask }))) ∧
    (s.has .SPMU = true → s.has .AA64 = true →
      s.inp.el = .el3 ∨ (s.inp.el = .el2 ∧ (s.haveEL3 && !s.mdcr3EnPM2) = false) →
      (s.inp.inHostEL2 = true → exec (.mrsSpmaccessrEl12 t) s = .next (s.readDone t v1) ∧
        exec (.msrSpmaccessrEl12 t) s =
          .next (s.spmDone { s.spm with spmaccessr1 := s.readX t &&& s.cfg.spmaccessMask })) ∧
      exec (.mrsSpmaccessrEl2 t) s = .next (s.readDone t v2) ∧
      exec (.msrSpmaccessrEl2 t) s =
        .next (s.spmDone { s.spm with spmaccessr2 := s.readX t &&& s.cfg.spmaccess2Mask })) ∧
    (s.has .SPMU = true → s.has .AA64 = true → s.inp.el = .el3 →
      exec (.mrsSpmaccessrEl3 t) s = .next (s.readDone t v3) ∧
      exec (.msrSpmaccessrEl3 t) s =
        .next (s.spmDone { s.spm with spmaccessr3 := s.readX t &&& s.cfg.spmaccessMask })) ∧
    (s.spmPeReadOpen .nSPMSELR_EL0 ∨ s.spmPeUserReadOpen .nSPMSELR_EL0 → exec (.mrsSpmselrEl0 t) s = .next (s.readDone t
      (mergeBits (s.spm.spmselr &&& 0x3F3) (s.unknown 0) (if bit s.spm.spmselr 9 then 0x3F0 else 0)))) ∧
    (s.spmPeWriteOpen .nSPMSELR_EL0 ∨ s.spmPeUserWriteOpen .nSPMSELR_EL0 →
      exec (.msrSpmselrEl0 t) s = .next (s.spmDone { s.spm with spmselr := s.readX t &&& 0x3F3 }))

/-- O34. From EL1 or above with no trap in force, each gives the constant of the selected System PMU, and zero if that
System PMU is not implemented; SPMCGCR<m>_EL1 gives zero also when there is one counter group (SPMCFGR_EL1.NCG is
zero). The constants have their RES0 and RAZ bits 0 and bit 19 of SPMCFGR_EL1 is 1, SIZE and N hold allocated
values, no counter is wider than SIZE announces, and SPMDEVARCH_EL1 is zero without PRESENT. With NCG + 1 counter
groups each field of SPMCGCR<m>_EL1 names at most 32 counters (2 groups), 16 (3 or 4), 8 (5 to 8) or 4 (more), and
none for a group that does not exist. SPMDEVAFF_EL1 is one constant, U and MT too (U10: two reads agree); without
F0V and with Aff0 and Aff1 zero its Aff2 is not the reserved 0x00, unless the register reads as zero (R1170). A
parameter that breaks this is held to it (log 41). (R1003, R1042, R1048, R1052, R1055, R1062, R1162, R1166, R1175,
R1183, R1190, R1290) -/
def Obligations.SpmIdentificationReadsComplete : Prop :=
  ∀ (s : State) (t : Nat) (n : Nat), n = s.selectedSpmu →
    (s.spmuReadOpen .nSPMID → s.cfg.spmuConfig n = none →
      exec (.mrsSpmcfgrEl1 t) s = .next (s.readDone t 0) ∧ exec (.mrsSpmcgcr0El1 t) s = .next (s.readDone t 0) ∧
      exec (.mrsSpmcgcr1El1 t) s = .next (s.readDone t 0) ∧ exec (.mrsSpmdevarchEl1 t) s = .next (s.readDone t 0) ∧
      exec (.mrsSpmiidrEl1 t) s = .next (s.readDone t 0)) ∧
    (s.spmuReadOpen .nSPMDEVAFF_EL1 → s.cfg.spmuConfig n = none →
      exec (.mrsSpmdevaffEl1 t) s = .next (s.readDone t 0)) ∧
    (∀ p, s.cfg.spmuConfig n = some p →
      (s.spmuReadOpen .nSPMID →
        exec (.mrsSpmcfgrEl1 t) s = .next (s.readDone t p.cfgr) ∧
        exec (.mrsSpmcgcr0El1 t) s = .next (s.readDone t (if fieldNat p.cfgr 28 4 = 0 then 0 else p.cgcr0)) ∧
        exec (.mrsSpmcgcr1El1 t) s = .next (s.readDone t (if fieldNat p.cfgr 28 4 = 0 then 0 else p.cgcr1)) ∧
        exec (.mrsSpmdevarchEl1 t) s = .next (s.readDone t p.devarch) ∧
        exec (.mrsSpmiidrEl1 t) s = .next (s.readDone t p.iidr)) ∧
      (s.spmuReadOpen .nSPMDEVAFF_EL1 → exec (.mrsSpmdevaffEl1 t) s = .next (s.readDone t p.devaff)) ∧
      field p.cfgr 32 32 = 0 ∧ field p.cfgr 25 3 = 0 ∧ bit p.cfgr 19 = true ∧ bit p.cfgr 18 = false ∧
      field p.cfgr 14 2 = 0 ∧ fieldNat p.cfgr 8 6 ∈ [7, 9, 11, 15, 19, 23, 31, 35, 39, 43, 47, 51, 55, 63] ∧
      fieldNat p.cfgr 0 8 ≤ 0x3F ∧ (∀ k, p.bits k ≤ fieldNat p.cfgr 8 6 + 1) ∧
      field p.devaff 40 24 = 0 ∧ field p.devaff 25 5 = 0 ∧ field p.devarch 32 32 = 0 ∧
      (bit p.devarch 20 = false → p.devarch = 0) ∧ field p.iidr 32 32 = 0 ∧ bit p.iidr 7 = false ∧
      (bit p.devaff 31 = false → field p.devaff 0 16 = 0 → field p.devaff 16 8 = 0 → p.devaff = 0) ∧
      (∀ ncg k m count, ncg = fieldNat p.cfgr 28 4 → k < 2 → m < 8 →
        count = fieldNat (if k = 0 then p.cgcr0 else p.cgcr1) (8 * m) 8 →
        (ncg = 1 → count ≤ 32) ∧ (ncg = 2 ∨ ncg = 3 → count ≤ 16) ∧ (4 ≤ ncg → ncg ≤ 7 → count ≤ 8) ∧
        (8 ≤ ncg → count ≤ 4) ∧ (ncg < 8 * k + m → count = 0)))

/-- O35. From EL1 or above with no trap in force, and for the _EL0 names from EL0 with MDSCR_EL1.EnSPM and the access
fields open, each gives the bitmap of the selected System PMU under the mask of the counters that implement the bit,
and zero if the System PMU is not implemented. (R1003, R1103, R1108, R1128, R1302, R1303, R1308, R1328, R1348,
R1368) -/
def Obligations.SpmBitmapReadsComplete : Prop :=
  ∀ (s : State) (t : Nat) (n : Nat) (v : (SpmUnit → Word) → Word), n = s.selectedSpmu →
    v = (fun g => if s.cfg.spmuImplemented n then g (s.unit n) else 0) →
    (s.spmuReadOpen .nSPMCNTEN ∨ s.spmuUserReadOpen .nSPMCNTEN →
      exec (.mrsSpmcntenclrEl0 t) s = .next (s.readDone t (v fun u => u.spmcnten &&& s.cfg.spmuImplMask n)) ∧
      exec (.mrsSpmcntensetEl0 t) s = .next (s.readDone t (v fun u => u.spmcnten &&& s.cfg.spmuImplMask n))) ∧
    (s.spmuReadOpen .nSPMINTEN →
      exec (.mrsSpmintenclrEl1 t) s = .next (s.readDone t (v fun u => u.spminten &&& s.cfg.spmuIntMask n)) ∧
      exec (.mrsSpmintensetEl1 t) s = .next (s.readDone t (v fun u => u.spminten &&& s.cfg.spmuIntMask n))) ∧
    (s.spmuReadOpen .nSPMOVS ∨ s.spmuUserReadOpen .nSPMOVS →
      exec (.mrsSpmovsclrEl0 t) s = .next (s.readDone t (v fun u => u.spmovs &&& s.cfg.spmuOvfMask n)) ∧
      exec (.mrsSpmovssetEl0 t) s = .next (s.readDone t (v fun u => u.spmovs &&& s.cfg.spmuOvfMask n)))

/-- O36. From EL1 or above with no trap in force, and for the _EL0 names from EL0 with MDSCR_EL1.EnSPM and the access
fields open and the selected System PMU implemented, MSR of a CLR register clears, and of a SET register sets, the
bits of Xt that the System PMU implements, in that System PMU alone. (R1003, R1103, R1109, R1129, R1302, R1303,
R1309, R1329, R1349, R1369) -/
def Obligations.SpmBitmapWritesClearAndSet : Prop :=
  ∀ (s : State) (t : Nat) (n : Nat) (put : SpmUnit → State), n = s.selectedSpmu → s.cfg.spmuImplemented n = true →
    put = (fun u => s.spmDone { s.spm with units := arraySet s.spm.units n u }) →
    (s.spmuWriteOpen .nSPMCNTEN ∨ s.spmuUserWriteOpen .nSPMCNTEN →
      exec (.msrSpmcntenclrEl0 t) s = .next (put { s.unit n with
        spmcnten := (s.unit n).spmcnten &&& ~~~(s.readX t &&& s.cfg.spmuImplMask n) }) ∧
      exec (.msrSpmcntensetEl0 t) s = .next (put { s.unit n with
        spmcnten := (s.unit n).spmcnten ||| (s.readX t &&& s.cfg.spmuImplMask n) })) ∧
    (s.spmuWriteOpen .nSPMINTEN →
      exec (.msrSpmintenclrEl1 t) s = .next (put { s.unit n with
        spminten := (s.unit n).spminten &&& ~~~(s.readX t &&& s.cfg.spmuIntMask n) }) ∧
      exec (.msrSpmintensetEl1 t) s = .next (put { s.unit n with
        spminten := (s.unit n).spminten ||| (s.readX t &&& s.cfg.spmuIntMask n) })) ∧
    (s.spmuWriteOpen .nSPMOVS ∨ s.spmuUserWriteOpen .nSPMOVS →
      exec (.msrSpmovsclrEl0 t) s = .next (put { s.unit n with
        spmovs := (s.unit n).spmovs &&& ~~~(s.readX t &&& s.cfg.spmuOvfMask n) }) ∧
      exec (.msrSpmovssetEl0 t) s = .next (put { s.unit n with
        spmovs := (s.unit n).spmovs ||| (s.readX t &&& s.cfg.spmuOvfMask n) }))

/-- O37. From EL1 or above with no trap in force, and for the _EL0 names from EL0 with MDSCR_EL1.EnSPM and the access
fields open and the selected System PMU implemented: MRS SPMCR_EL0 gives the stored fields and NA; MSR SPMCR_EL0
stores the implemented fields (at EL0 not TRO and HDBG, which are RO there) and with P = 1 also zeroes every
implemented counter; MSR SPMZR_EL0 zeroes the implemented counters whose bit in Xt is 1. No other System PMU and no
flag or enable changes. (R1147, R1149, R1158, R1159, R1472, R1476) -/
def Obligations.SpmControlAccessesComplete : Prop :=
  ∀ (s : State) (t : Nat) (n : Nat) (p : SpmuConfig), n = s.selectedSpmu → s.cfg.spmuConfig n = some p →
    (s.spmuReadOpen .nSPMCR_EL0 ∨ s.spmuUserReadOpen .nSPMCR_EL0 →
      ∃ v, exec (.mrsSpmcrEl0 t) s = .next (s.readDone t v) ∧
      (∀ i < 64, i ≠ 8 → bit v i = bit ((s.unit n).spmcr &&& p.crMask .el3) i) ∧
      bit v 8 = (bit p.cfgr 17 && s.inp.spmuNa.getLsbD n)) ∧
    (s.spmuWriteOpen .nSPMCR_EL0 ∨ s.spmuUserWriteOpen .nSPMCR_EL0 → ∃ u : SpmUnit, exec (.msrSpmcrEl0 t) s =
        .next (s.spmDone { s.spm with units := arraySet s.spm.units n u }) ∧
      u.spmcr = mergeBits (s.unit n).spmcr (s.readX t) (p.crMask s.inp.el) ∧
      (∀ k < 64, arrayGet u.spmevcntr k 0 = if bit (s.readX t) 1 = true ∧ s.cfg.spmuCounterImplemented n k = true
        then 0 else arrayGet (s.unit n).spmevcntr k 0) ∧
      u = { s.unit n with spmcr := u.spmcr, spmevcntr := u.spmevcntr }) ∧
    (s.has .SPMU2 = true → s.spmuWriteFree .nSPMEVCNTRn_EL0 ∨ s.spmuUserWriteFree .nSPMEVCNTRn_EL0 →
      ∃ u : SpmUnit, exec (.msrSpmzrEl0 t) s =
        .next (s.spmDone { s.spm with units := arraySet s.spm.units n u }) ∧
      (∀ k < 64, arrayGet u.spmevcntr k 0 = if bit (s.readX t) k = true ∧ s.cfg.spmuCounterImplemented n k = true
        then 0 else arrayGet (s.unit n).spmevcntr k 0) ∧
      u = { s.unit n with spmevcntr := u.spmevcntr })

/-- O38. At EL3 with the features present, MSR SPMROOTCR_EL3 (not trapped by FGWTE3_EL3) stores the implemented fields
of a System PMU that has the register and MRS gives them with bit 31 set; the same for SPMSCR_EL1 outside Non-secure
and Realm state; a System PMU without the register reads zero and ignores the write. (R1413, R1417, R1418, R1420,
R1421, R1436, R1438, R1440, R1441) -/
def Obligations.SpmRootAndSecureAccessesComplete : Prop :=
  ∀ (s : State) (t : Nat) (n : Nat) (p : SpmuConfig), s.inp.el = .el3 → n = s.selectedSpmu →
    s.cfg.spmuConfig n = some p → s.has .SPMU = true → s.has .AA64 = true →
    (s.has .RME = true →
      exec (.mrsSpmrootcrEl3 t) s = .next (s.readDone t
        (if p.hasRootcr then ((s.unit n).spmrootcr &&& p.rootcrMask) ||| 0x80000000 else 0)) ∧
      ((s.has .FGWTE3 && s.inp.fgwte3Spmrootcr) = false → exec (.msrSpmrootcrEl3 t) s = .next (s.spmDone { s.spm with
        units := arraySet s.spm.units n (if p.hasRootcr then
          { s.unit n with spmrootcr := s.readX t &&& p.rootcrMask } else s.unit n) }))) ∧
    (s.cfg.haveSecureEL1 = true → s.inp.ss ≠ .nonSecure → s.inp.ss ≠ .realm →
      exec (.mrsSpmscrEl1 t) s = .next (s.readDone t
        (if p.hasScr then ((s.unit n).spmscr &&& p.scrMask) ||| 0x80000000 else 0)) ∧
      exec (.msrSpmscrEl1 t) s = .next (s.spmDone { s.spm with
        units := arraySet s.spm.units n (if p.hasScr then
          { s.unit n with spmscr := s.readX t &&& p.scrMask } else s.unit n) }))

/-- O39. From EL1 or above with no trap in force, or from EL0 with MDSCR_EL1.EnSPM and the access fields open, and
counter BANK * 16 + m of the selected System PMU implemented, MRS of SPMEVCNTR<m>_EL0, SPMEVTYPER<m>_EL0,
SPMEVFILTR<m>_EL0 and SPMEVFILT2R<m>_EL0 gives the register of that counter, for each of the 64 rows. (R1000, R1201,
R1206, R1226, R1246, R1266) -/
def Obligations.SpmEventReadsComplete : Prop :=
  ∀ (m : Nat) (s : State) (t : Nat) (f : Nat → Instr) (p : SpmuConfig) (n k : Nat), n = s.selectedSpmu →
    k = fieldNat s.spm.spmselr 0 2 * 16 + m → s.cfg.spmuCounterImplemented n k = true → s.cfg.spmuConfig n = some p →
    (mrsSpmevcntrRows[m]? = some f → s.spmuReadOpen .nSPMEVCNTRn_EL0 ∨ s.spmuUserReadOpen .nSPMEVCNTRn_EL0 →
      exec (f t) s = .next (s.readDone t (arrayGet (s.unit n).spmevcntr k 0 &&& onesWord (p.bits k)))) ∧
    (mrsSpmevtyperRows[m]? = some f → s.spmuReadOpen .nSPMEVTYPERn_EL0 ∨ s.spmuUserReadOpen .nSPMEVTYPERn_EL0 →
      exec (f t) s = .next (s.readDone t (arrayGet (s.unit n).spmevtyper k 0 &&& implDefMask p.typerMask k))) ∧
    (mrsSpmevfiltrRows[m]? = some f → s.spmuReadOpen .nSPMEVTYPERn_EL0 ∨ s.spmuUserReadOpen .nSPMEVTYPERn_EL0 →
      exec (f t) s = .next (s.readDone t (arrayGet (s.unit n).spmevfiltr k 0 &&& implDefMask p.filtrMask k))) ∧
    (mrsSpmevfilt2rRows[m]? = some f → s.spmuReadOpen .nSPMEVTYPERn_EL0 ∨ s.spmuUserReadOpen .nSPMEVTYPERn_EL0 →
      exec (f t) s = .next (s.readDone t (arrayGet (s.unit n).spmevfilt2r k 0 &&& implDefMask p.filt2rMask k)))

/-- O40. From EL1 or above with no trap in force, or from EL0 with MDSCR_EL1.EnSPM and the access fields open, and
counter BANK * 16 + m of the selected System PMU implemented, MSR of SPMEVCNTR<m>_EL0, SPMEVTYPER<m>_EL0,
SPMEVFILTR<m>_EL0 and SPMEVFILT2R<m>_EL0 replaces the implemented bits of the register of that counter and changes
nothing else, for each of the 64 rows. At EL3 the last line of these four listings is missing in the source and
restored (log 15). (R1000, R1201, R1207, R1227, R1247, R1267) -/
def Obligations.SpmEventWritesComplete : Prop :=
  ∀ (m : Nat) (s : State) (t : Nat) (f : Nat → Instr) (p : SpmuConfig) (n k : Nat) (put : SpmUnit → State),
    n = s.selectedSpmu → k = fieldNat s.spm.spmselr 0 2 * 16 + m → s.cfg.spmuCounterImplemented n k = true →
    s.cfg.spmuConfig n = some p → put = (fun u => s.spmDone { s.spm with units := arraySet s.spm.units n u }) →
    (msrSpmevcntrRows[m]? = some f → s.spmuWriteOpen .nSPMEVCNTRn_EL0 ∨ s.spmuUserWriteOpen .nSPMEVCNTRn_EL0 →
      exec (f t) s = .next (put { s.unit n with
      spmevcntr := arraySet (s.unit n).spmevcntr k (s.readX t &&& onesWord (p.bits k)) })) ∧
    (msrSpmevtyperRows[m]? = some f → s.spmuWriteOpen .nSPMEVTYPERn_EL0 ∨ s.spmuUserWriteOpen .nSPMEVTYPERn_EL0 →
      exec (f t) s = .next (put { s.unit n with
      spmevtyper := arraySet (s.unit n).spmevtyper k (s.readX t &&& implDefMask p.typerMask k) })) ∧
    (msrSpmevfiltrRows[m]? = some f → s.spmuWriteOpen .nSPMEVTYPERn_EL0 ∨ s.spmuUserWriteOpen .nSPMEVTYPERn_EL0 →
      exec (f t) s = .next (put { s.unit n with
      spmevfiltr := arraySet (s.unit n).spmevfiltr k (s.readX t &&& implDefMask p.filtrMask k) })) ∧
    (msrSpmevfilt2rRows[m]? = some f → s.spmuWriteOpen .nSPMEVTYPERn_EL0 ∨ s.spmuUserWriteOpen .nSPMEVTYPERn_EL0 →
      exec (f t) s = .next (put { s.unit n with
      spmevfilt2r := arraySet (s.unit n).spmevfilt2r k (s.readX t &&& implDefMask p.filt2rMask k) }))

/-- O41. With SPMSELR_EL0 selecting System PMU n and BANK, the name with index m is that of counter k = BANK * 16 + m.
When System PMU n or its counter k is not implemented, each of the 64 MRS rows gives zero and each of the 64 MSR
rows changes nothing but the program counter: at EL3, at EL2 and EL1 with no trap in force, and at EL0 with
MDSCR_EL1.EnSPM and the access fields open. (R1202, R1222, R1242, R1262) -/
def Obligations.UnimplementedSpmCounterReadsZero : Prop :=
  ∀ (m : Nat) (s : State) (t : Nat) (f : Nat → Instr) (n k : Nat), n = s.selectedSpmu →
    k = fieldNat s.spm.spmselr 0 2 * 16 + m →
    s.cfg.spmuImplemented n = false ∨ s.cfg.spmuCounterImplemented n k = false →
    (mrsSpmevcntrRows[m]? = some f → s.spmuReadOpen .nSPMEVCNTRn_EL0 ∨ s.spmuUserReadOpen .nSPMEVCNTRn_EL0 →
      exec (f t) s = .next (s.writeX t 0).advance) ∧
    (some f ∈ [mrsSpmevtyperRows[m]?, mrsSpmevfiltrRows[m]?, mrsSpmevfilt2rRows[m]?] →
      s.spmuReadOpen .nSPMEVTYPERn_EL0 ∨ s.spmuUserReadOpen .nSPMEVTYPERn_EL0 →
      exec (f t) s = .next (s.writeX t 0).advance) ∧
    (msrSpmevcntrRows[m]? = some f → s.spmuWriteOpen .nSPMEVCNTRn_EL0 ∨ s.spmuUserWriteOpen .nSPMEVCNTRn_EL0 →
      exec (f t) s = .next s.advance) ∧
    (some f ∈ [msrSpmevtyperRows[m]?, msrSpmevfiltrRows[m]?, msrSpmevfilt2rRows[m]?] →
      s.spmuWriteOpen .nSPMEVTYPERn_EL0 ∨ s.spmuUserWriteOpen .nSPMEVTYPERn_EL0 →
      exec (f t) s = .next s.advance)

/-- O42. At EL3, and for MDCR_EL2 at EL2 unless MDCR_EL3.TDA takes it: MSR stores the implemented fields (MSR MDCR_EL3
unless FGWTE3_EL3 traps it), and after MSR MDCR_EL2 the edge history of a counter that becomes enabled is UNKNOWN
(log 18); MRS gives the stored fields, PMEE reading as UNKNOWN while it holds a reserved value (R1512), and so E2TB,
E2PB, SPD32 and, without FEAT_RME, EPMSSAD and ETBAD, which are not in the list of R1512 and are the model's reading
of their texts (log 22). A reserved HPMN reads as the Effective value of PMCCR.EPMN with FEAT_PMUv3_EXTPMN and as
UNKNOWN without it (R1511, R1669). (R1511, R1512, R1650, R1651, R1669, R1670, R1671, R1673, R1696, R1697) -/
def Obligations.MdcrAccessesComplete : Prop :=
  ∀ (s : State) (t : Nat), s.has .AA64 = true →
    (s.inp.el = .el3 ∨ (s.inp.el = .el2 ∧ (s.haveEL3 && s.mdcr3TDA) = false) →
      exec (.msrMdcrEl2 t) s =
        .next (redrawEdges s { s with mdcrEl2 := s.readX t &&& s.cfg.mdcrEl2Mask }).advance ∧
      ∃ v w, exec (.mrsMdcrEl2 t) s = .next (s.readDone t v) ∧
        w = mergeBits (s.mdcrEl2 &&& s.cfg.mdcrEl2Mask) (s.unknown 0) s.mdcrEl2Unknown ∧
        (∀ i, 5 ≤ i → bit v i = bit w i) ∧
        (s.haveEL2 = true ∧ s.has .PMUv3 = true ∧ s.cfg.numCounters ≠ 0 ∧ s.hpmnReserved = true →
          if s.has .PMUv3_EXTPMN then fieldNat v 0 5 = s.numSelfHosted
          else field v 0 5 = field (s.unknown 0) 0 5) ∧
        (¬(s.haveEL2 = true ∧ s.has .PMUv3 = true ∧ s.cfg.numCounters ≠ 0 ∧ s.hpmnReserved = true) → v = w)) ∧
    (s.inp.el = .el3 → s.haveEL3 = true →
      exec (.mrsMdcrEl3 t) s =
        .next (s.readDone t (mergeBits (s.mdcrEl3 &&& s.cfg.mdcrEl3Mask) (s.unknown 0) s.mdcrEl3Unknown)) ∧
      ((s.has .FGWTE3 && s.inp.fgwte3Mdcr) = false → exec (.msrMdcrEl3 t) s =
        .next ({ s with mdcrEl3 := s.readX t &&& s.cfg.mdcrEl3Mask } : State).advance))

/-- O43. At EL0 with EN = 1, UEN not in force and no trap of EL2 or EL3 in force: MRS and MSR PMCCNTR_EL0 and
PMCCFILTR_EL0 read and write the register (the VS field UNKNOWN while it holds its reserved value), MRS
PMCNTENCLR_EL0 gives the enables, MSR PMOVSCLR_EL0 clears flags, and MSR PMSELR_EL0 stores SEL. With FEAT_PMUv3p9
and UEN = 1, MRS PMCCNTR_EL0 gives zero unless PMUACR_EL1.C is 1, and MSR PMCCNTR_EL0 is ignored when PMUACR_EL1.C
is 0 or CR is 1. (R318, R319, R326, R327, R428, R811, R835, R873, R887, R888, R892) -/
def Obligations.UserAccessesComplete : Prop :=
  ∀ (s : State) (t : Nat),
    (s.pmuUserReadOpen .PMCCNTR_EL0 → exec (.mrsPmccntrEl0 t) s = .next (s.readDone t s.pmu.pmccntr)) ∧
    (s.pmuUserWriteOpen .PMCCNTR_EL0 →
      exec (.msrPmccntrEl0 t) s = .next (s.pmuDone { s.pmu with pmccntr := s.readX t })) ∧
    (s.pmuUserReadOpen .PMCCFILTR_EL0 → exec (.mrsPmccfiltrEl0 t) s = .next (s.readDone t
      (mergeBits (s.pmu.pmccfiltr &&& s.cfg.filterMask) (s.unknown 0) (vsUnknown s.cfg s.pmu.pmccfiltr)))) ∧
    (s.pmuUserWriteOpen .PMCCFILTR_EL0 → exec (.msrPmccfiltrEl0 t) s =
      .next (s.pmuDone { s.pmu with pmccfiltr := s.readX t &&& s.cfg.filterMask })) ∧
    (s.pmuUserReadOpen .PMCNTEN →
      exec (.mrsPmcntenclrEl0 t) s = .next (s.readDone t (s.pmu.pmcnten &&& readMask s.countAccess))) ∧
    (s.pmuUserWriteOpen .PMOVS → exec (.msrPmovsclrEl0 t) s =
      .next (s.pmuDone { s.pmu with pmovs := s.pmu.pmovs &&& ~~~(s.readX t &&& writeMask s.countAccess) })) ∧
    (s.pmuUserWriteOpen .PMSELR_EL0 →
      exec (.msrPmselrEl0 t) s = .next (s.pmuDone { s.pmu with pmselr := s.readX t &&& 31 })) ∧
    (s.has .PMUv3 = true → s.has .AA64 = true → s.userUENOn = true →
      (s.userOpen s.mdcr3TPM ((!s.inp.inHostEL0 && s.fgtRead .PMCCNTR_EL0) || s.guestTPM) false →
        exec (.mrsPmccntrEl0 t) s =
          .next (if s.uacrC then s.readDone t s.pmu.pmccntr else (s.writeX t 0).advance)) ∧
      (s.userOpen s.mdcr3TPM ((!s.inp.inHostEL0 && s.fgtWrite .PMCCNTR_EL0) || s.guestTPM) false →
        exec (.msrPmccntrEl0 t) s = .next (if s.uacrC = true ∧ s.userCR = false
          then s.pmuDone { s.pmu with pmccntr := s.readX t } else s.advance)))

/-- O44. At EL0 with EN = 0, CR = ER = SW = 0 and UEN = 0, and EL3SDDUndefPriority() not in force, every EL0 accessor of
the list raises a System access trap with exception class 0x18 to EL2 if EL2Enabled() and HCR_EL2.TGE is 1, else to
EL1; MRS of an event counter or type too, for an index below GetNumEventCountersSelfHosted(). (R892, R1502) -/
def Obligations.UserAccessWithoutPermissionTraps : Prop :=
  ∀ (s : State) (t : Nat) (i : Instr), s.has .PMUv3 = true → s.has .AA64 = true → s.inp.el = .el0 →
    s.userEN = false → s.userUEN = false → s.userCR = false → s.userER = false → s.userSW = false →
    s.undefPriority = false →
    (i ∈ [.mrsPmccfiltrEl0 t, .msrPmccfiltrEl0 t, .mrsPmccntrEl0 t, .msrPmccntrEl0 t, .mrsPmceid0El0 t,
        .mrsPmceid1El0 t, .mrsPmcntenclrEl0 t, .msrPmcntenclrEl0 t, .mrsPmcntensetEl0 t, .msrPmcntensetEl0 t,
        .mrsPmcrEl0 t, .msrPmcrEl0 t, .mrsPmovsclrEl0 t, .msrPmovsclrEl0 t, .mrsPmovssetEl0 t, .msrPmovssetEl0 t,
        .mrsPmselrEl0 t, .msrPmselrEl0 t, .msrPmswincEl0 t] ∨
      ∃ m < s.numSelfHosted, some i ∈ [mrsPmevcntrRows[m]?.map (· t), msrPmevcntrRows[m]?.map (· t),
        mrsPmevtyperRows[m]?.map (· t), msrPmevtyperRows[m]?.map (· t)]) →
    exec i s = .next (takeException
      (.systemAccessTrap (if s.el2Enabled && s.inp.tge then .el2 else .el1) 0x18) s)

/-- O45. At EL0 every accessor of a register name that EL0 may not use raises Undefined, whatever the state and the
implementation. (R1501) -/
def Obligations.PrivilegedNamesUndefinedAtEL0 : Prop :=
  ∀ (s : State) (t : Nat) (i : Instr), s.inp.el = .el0 →
    (i ∈ [.mrsPmccntsvrEl1 t, .mrsPmecrEl1 t, .msrPmecrEl1 t, .mrsPmiarEl1 t, .msrPmiarEl1 t, .mrsPmicntsvrEl1 t,
        .mrsPmintenclrEl1 t, .msrPmintenclrEl1 t, .mrsPmintensetEl1 t, .msrPmintensetEl1 t, .mrsPmmirEl1 t,
        .mrsPmsscrEl1 t, .msrPmsscrEl1 t, .mrsPmuacrEl1 t, .msrPmuacrEl1 t, .msrPmuserenrEl0 t,
        .mrsSpmaccessrEl1 t, .msrSpmaccessrEl1 t, .mrsSpmaccessrEl12 t, .msrSpmaccessrEl12 t, .mrsSpmaccessrEl2 t,
        .msrSpmaccessrEl2 t, .mrsSpmaccessrEl3 t, .msrSpmaccessrEl3 t, .mrsSpmcfgrEl1 t, .mrsSpmcgcr0El1 t,
        .mrsSpmcgcr1El1 t, .mrsSpmdevaffEl1 t, .mrsSpmdevarchEl1 t, .mrsSpmiidrEl1 t, .mrsSpmintenclrEl1 t,
        .msrSpmintenclrEl1 t, .mrsSpmintensetEl1 t, .msrSpmintensetEl1 t, .mrsSpmrootcrEl3 t, .msrSpmrootcrEl3 t,
        .mrsSpmscrEl1 t, .msrSpmscrEl1 t, .mrsMdcrEl2 t, .msrMdcrEl2 t, .mrsMdcrEl3 t, .msrMdcrEl3 t] ∨
      ∃ f ∈ mrsPmevcntsvrRows, i = f t) →
    exec i s = .next (takeException .undefined s)

/-- O46. With EL3 implemented, at EL2 with MDCR_EL3.TPM = 1, the accessors of the list raise Undefined when
EL3SDDUndef() holds, and else a System access trap to EL3; at EL1 with EL2Enabled(), MDCR_EL2.TPM = 1 and
EL3SDDUndefPriority() not in force they raise one to EL2; the exception class is 0x18. (R1502, R1506, R1666, R1687)
-/
def Obligations.TpmTrapsTakePmuAccesses : Prop :=
  ∀ (s : State) (t : Nat) (i : Instr), s.has .PMUv3 = true → s.has .AA64 = true →
    i ∈ [.mrsPmccfiltrEl0 t, .msrPmccfiltrEl0 t, .mrsPmccntrEl0 t, .msrPmccntrEl0 t, .mrsPmceid0El0 t,
      .mrsPmceid1El0 t, .mrsPmcntenclrEl0 t, .msrPmcntenclrEl0 t, .mrsPmcntensetEl0 t, .msrPmcntensetEl0 t,
      .mrsPmcrEl0 t, .msrPmcrEl0 t, .mrsPmintenclrEl1 t, .msrPmintenclrEl1 t, .mrsPmintensetEl1 t,
      .msrPmintensetEl1 t, .mrsPmovsclrEl0 t, .msrPmovsclrEl0 t, .mrsPmovssetEl0 t, .msrPmovssetEl0 t,
      .mrsPmselrEl0 t, .msrPmselrEl0 t, .msrPmswincEl0 t, .mrsPmuserenrEl0 t, .msrPmuserenrEl0 t] →
    (s.inp.el = .el2 → s.haveEL3 = true → s.mdcr3TPM = true →
      (s.inp.sddUndefPriority = true → s.inp.sddUndef = true) →
      exec i s = .next (takeException (if s.inp.sddUndef then .undefined else .systemAccessTrap .el3 0x18) s)) ∧
    (s.inp.el = .el1 → s.el2Enabled = true → s.mdcr2TPM = true → s.undefPriority = false →
      exec i s = .next (takeException (.systemAccessTrap .el2 0x18) s))

/-- O47. With EL3SDDUndefPriority() not in force. At EL1 with EL2Enabled(), no fine-grained trap and MDCR_EL2.EnSPM = 1:
if the field of SPMACCESSR_EL2 for the selected System PMU is 0b00 every MRS of a register of a System PMU, and if
it is not 0b11 every MSR, raises a System access trap to EL2 with exception class 0x18 (SPMSCR_EL1 where it is not
UNDEFINED, SPMZR_EL0 with FEAT_SPMU2). At EL0: if MDSCR_EL1.EnSPM is 0 every EL0 accessor of a System PMU register,
and else, unless ELIsInHost(EL0), if the field of SPMACCESSR_EL1 is 0b00 every MRS of a register of a System PMU,
and if it is not 0b11 every MSR, raises one to EL2 when EL2Enabled() and HCR_EL2.TGE is 1, else to EL1. The lists of
R1002 and R1542 name the registers. (R1001, R1002, R1012, R1022, R1502, R1542) -/
def Obligations.SpmAccessFieldGatesTheGuest : Prop :=
  ∀ (s : State) (t : Nat) (i : Instr), s.has .AA64 = true → s.undefPriority = false →
    (s.inp.el = .el1 → s.el2Enabled = true → s.mdcr2EnSPM = true →
      (∀ b, s.fgt2Read b = false) → (∀ b, s.fgt2Write b = false) →
      (s.spmAccess s.spm.spmaccessr2 = 0 →
        s.has .SPMU = true → i ∈ spmuUserReads t ∨ i ∈ [.mrsSpmcfgrEl1 t, .mrsSpmcgcr0El1 t, .mrsSpmcgcr1El1 t,
          .mrsSpmdevaffEl1 t, .mrsSpmdevarchEl1 t, .mrsSpmiidrEl1 t, .mrsSpmintenclrEl1 t, .mrsSpmintensetEl1 t] ∨
          (s.secureAccess = true ∧ i = .mrsSpmscrEl1 t) →
        exec i s = .next (takeException (.systemAccessTrap .el2 0x18) s)) ∧
      (s.spmAccess s.spm.spmaccessr2 ≠ 3 →
        (s.has .SPMU2 = true ∧ i = .msrSpmzrEl0 t) ∨ (s.has .SPMU = true ∧ (i ∈ spmuUserWrites t ∨
          i ∈ [.msrSpmintenclrEl1 t, .msrSpmintensetEl1 t] ∨ (s.secureAccess = true ∧ i = .msrSpmscrEl1 t))) →
        exec i s = .next (takeException (.systemAccessTrap .el2 0x18) s))) ∧
    (s.inp.el = .el0 →
      (s.inp.mdscrEnSPM = false ∧ s.has .SPMU = true ∧
          i ∈ [.mrsSpmselrEl0 t, .msrSpmselrEl0 t] ++ spmuUserReads t ++ spmuUserWrites t) ∨
        (s.inp.mdscrEnSPM = false ∧ s.has .SPMU2 = true ∧ i = .msrSpmzrEl0 t) ∨
        (s.inp.inHostEL0 = false ∧ s.spmAccess s.spm.spmaccessr1 = 0 ∧ s.has .SPMU = true ∧ i ∈ spmuUserReads t) ∨
        (s.inp.inHostEL0 = false ∧ s.spmAccess s.spm.spmaccessr1 ≠ 3 ∧
          ((s.has .SPMU = true ∧ i ∈ spmuUserWrites t) ∨ (s.has .SPMU2 = true ∧ i = .msrSpmzrEl0 t))) →
      exec i s = .next (takeException
        (.systemAccessTrap (if s.el2Enabled && s.inp.tge then .el2 else .el1) 0x18) s))

/-- O48. With m at or above GetNumEventCountersSelfHosted(): with FEAT_FGT every MRS and MSR of PMEVCNTR<m>_EL0 and
PMEVTYPER<m>_EL0, and always MRS PMEVCNTSVR<m>_EL1, raises Undefined at every Exception level. With EL2 enabled and
m existing but at or above GetNumEventCountersAccessible(), MRS PMEVCNTSVR<m>_EL1 at EL1 raises a System access trap
to EL2. For those four accessors with m, and for PMXEVCNTR_EL0 and PMXEVTYPER_EL0 with m = SEL (not 31 for the
latter): m out of range is the first place; m existing but not accessible, with EL2 enabled, at EL1, or at EL0 where
PMUSERENR_EL0 permits the access (UEN, with FEAT_PMUv3p9, or EN, or ER for a read of a counter) is the second. With
FEAT_FGT the first is Undefined and the second a System access trap to EL2. Without FEAT_FGT, and at the second
place with MDCR_EL2.TPM not trapping, the access does what the choice in force for the name, direction, place and
level says: Undefined; RAZ/WI; no operation; the access to an accessible counter (Undefined if there is none); a
trap to EL2 at the second place; as SEL 31, which for PMXEVTYPER_EL0 is the same access to PMCCFILTR_EL0, and for
PMXEVCNTR_EL0 the first place once more without this choice. That a choice not available at a site acts as Undefined
is log 11, and how the other counter is taken log 12. (R558, R559, R573, R610, R611, R942, R950, R951, R954, R960,
R961, R1510) -/
def Obligations.CounterIndexOutOfRange : Prop :=
  ∀ (m : Nat) (s : State) (t : Nat) (f : Nat → Instr),
    (s.numSelfHosted ≤ m → s.has .FGT = true →
      some f ∈ [mrsPmevcntrRows[m]?, msrPmevcntrRows[m]?, mrsPmevtyperRows[m]?, msrPmevtyperRows[m]?] →
      exec (f t) s = .next (takeException .undefined s)) ∧
    (mrsPmevcntsvrRows[m]? = some f →
      (s.numSelfHosted ≤ m → exec (f t) s = .next (takeException .undefined s)) ∧
      (s.has .PMUv3_SS = true → s.has .AA64 = true → s.inp.el = .el1 → s.el2Enabled = true → s.numAccessible ≤ m →
        m < s.numSelfHosted → (s.undefPriority && !s.mdcr3EnPMSS) = false →
        exec (f t) s = .next (takeException (.systemAccessTrap .el2 0x18) s))) ∧
    (∀ (name : CuName) (dir : Direction) (rows : List (Nat → Instr)) (i : Instr) (place p : CuPlace)
      (choice c : CuChoice),
      (rows[m]? = some f ∧ i = f t ∧ (name, dir, rows) ∈
        [(.pmevcntr, .read, mrsPmevcntrRows), (.pmevcntr, .write, msrPmevcntrRows),
          (.pmevtyper, .read, mrsPmevtyperRows), (.pmevtyper, .write, msrPmevtyperRows)] ∨
        m = s.sel ∧ (name, dir, rows, i) ∈ [(.pmxevcntr, .read, mrsPmevcntrRows, .mrsPmxevcntrEl0 t),
          (.pmxevcntr, .write, msrPmevcntrRows, .msrPmxevcntrEl0 t),
          (.pmxevtyper, .read, mrsPmevtyperRows, .mrsPmxevtyperEl0 t),
          (.pmxevtyper, .write, msrPmevtyperRows, .msrPmxevtyperEl0 t)]) →
      (name = .pmxevtyper → m ≠ 31) → s.has .PMUv3 = true → s.has .AA64 = true →
      (place = .unimplemented ∧ s.numSelfHosted ≤ m ∨ place = .reservedForEL2 ∧ s.numAccessible ≤ m ∧
        m < s.numSelfHosted ∧ s.el2Enabled = true ∧ (s.undefPriority && s.mdcr3TPM) = false ∧
        (s.inp.el = .el1 ∨ s.inp.el = .el0 ∧ (s.userEN = true ∨ s.has .PMUv3p9 = true ∧ s.userUEN = true ∨
          s.userER = true ∧ dir = .read ∧ (name = .pmevcntr ∨ name = .pmxevcntr)))) →
      (s.has .FGT = true → exec i s = .next (takeException
        (if place = .unimplemented then .undefined else .systemAccessTrap .el2 0x18) s)) ∧
      (s.has .FGT = false → (place = .reservedForEL2 → s.guestTPM = false) →
        choice = cuChoice s.choices.cu name dir place s.inp.el →
        p = (if name = .pmxevcntr ∧ choice = .asSel31 then .unimplemented else place) →
        c = (if name = .pmxevcntr ∧ choice = .asSel31 then cuChoice s.choices.cu name dir p s.inp.el else choice) →
        (c = .undefined → exec i s = .next (takeException .undefined s)) ∧
        (c = .razWi → exec i s = .next (if dir = .read then (s.writeX t 0).advance else s.advance)) ∧
        (c = .nop → exec i s = .next s.advance) ∧
        (c = .otherCounter → if s.numAccessible = 0 then exec i s = .next (takeException .undefined s)
          else ∃ k < s.numAccessible, ∃ g, rows[k]? = some g ∧ exec i s = exec (g t) (s.drawn 1)) ∧
        (c = .trapEL2 → exec i s = .next (takeException
          (if p = .reservedForEL2 then .systemAccessTrap .el2 0x18 else .undefined) s)) ∧
        (c = .asSel31 → exec i s = if name = .pmxevtyper
          then exec (if dir = .read then .mrsPmccfiltrEl0 t else .msrPmccfiltrEl0 t) s
          else .next (takeException .undefined s))))

/-- O49. At EL1 with FEAT_SPMU: the name SPMACCESSR_EL1 with no trap in force and NVx = 0b111, and the name
SPMACCESSR_EL12 with NVx = 0b101, read and write the eight bytes at NVMEM_BASE + 0x8E8 and no System register; a
read of the cell gives the 64-bit value last written, for every base address and both byte orders. (R153, R160,
R1013, R1014, R1015, R1016, R1017) -/
def Obligations.NestedVirtualizationRedirectsToMemory : Prop :=
  ∀ (s : State) (t : Nat), s.inp.el = .el1 →
    (s.spmPeReadOpen .nSPMACCESSR_EL1 → s.inp.nvx = 7 →
      exec (.mrsSpmaccessrEl1 t) s = .next (s.writeX t s.nvmemRead).advance) ∧
    (s.spmPeWriteOpen .nSPMACCESSR_EL1 → s.inp.nvx = 7 →
      exec (.msrSpmaccessrEl1 t) s = .next (s.nvmemWrite (s.readX t)).advance) ∧
    (s.has .SPMU = true → s.has .AA64 = true → s.inp.nvx = 5 →
      exec (.mrsSpmaccessrEl12 t) s = .next (s.writeX t s.nvmemRead).advance ∧
      exec (.msrSpmaccessrEl12 t) s = .next (s.nvmemWrite (s.readX t)).advance) ∧
    (memWf s.mem = true → ∀ v, (s.nvmemWrite v).nvmemRead = v)

/-- O50. The cycle counter counts a cycle exactly when PMCR_EL0.E and PMCNTEN[31] are 1, its filter (O54) does not
forbid it, PMCR_EL0.DP is 0 or not implemented or first-range counting is neither prohibited nor frozen by FZO, nor
by FZS with FEAT_SPE_DPFZS (O54), and none of HCCD (EL2), SCCD (Secure state, EL3) and MCCD (EL3) prohibits it. In a
tick: if the cycle counter does not count, PMCCNTR_EL0 and its overflow flag are unchanged; if it counts without the
divide-by-64, PMCCNTR_EL0 is one more modulo 2^64; with it, one more exactly when the phase is 63 and else
unchanged. The phase is one more modulo 64 on every tick on which the counter counts, and on the others too where
the implementation follows U5 (one advance per tick) and not the words "each 64th counted cycle" of R120: both
readings are parameters (log 16). When PMCCNTR_EL0 advances, PMOVS[31] is set if it was set or if the low 32 bits
(Effective LC = 0) or all 64 bits (LC = 1) were all ones. The Effective LC is 1 without FEAT_AA32, while the PMU
Profiling exception is enabled (O57), and where PMCR_EL0.LC is 1; the divide-by-64 is in force when PMCR_EL0.D is 1
and the Effective LC is 0. (R54, R120, R125, R324, R469, R472, R808) -/
def Obligations.TickCountsTheCycle : Prop :=
  ∀ (s : State) (c : Context) (o : Occurrences) (k : Nat),
    (s.ccCounts c = true ↔ bit s.pmu.pmcr 0 = true ∧ bit s.pmu.pmcnten 31 = true ∧
      filtered s.cfg s.cfg.reserved.vsCycle s.pmu.pmccfiltr c = false ∧
      ¬(s.cfg.hasDP = true ∧ bit s.pmu.pmcr 5 = true ∧ (s.prohibitedFirst c = true ∨ s.frozenByFzoFirst = true ∨
        (s.has .SPE_DPFZS = true ∧ s.frozenByFzsFirst = true))) ∧
      ¬(s.has .PMUv3p5 = true ∧ s.haveEL2 = true ∧ bit s.mdcrEl2 23 = true ∧ c.el = .el2) ∧
      ¬(s.has .PMUv3p5 = true ∧ s.haveEL3 = true ∧ bit s.mdcrEl3 23 = true ∧ (c.ss = .secure ∨ c.el = .el3)) ∧
      ¬(s.has .PMUv3p7 = true ∧ s.haveEL3 = true ∧ bit s.mdcrEl3 34 = true ∧ c.el = .el3)) ∧
    (s.lcEff = true ↔ s.has .AA32 = false ∨ (s.has .EBEP = true ∧ s.pmeeEff = 3) ∨ bit s.pmu.pmcr 6 = true) ∧
    (s.divEff = true ↔ bit s.pmu.pmcr 3 = true ∧ s.lcEff = false) ∧
    (s.ccCounts c = false → (tick c o k s).pmu.pmccntr = s.pmu.pmccntr ∧
      bit (tick c o k s).pmu.pmovs 31 = bit s.pmu.pmovs 31) ∧
    (tick c o k s).pmu.divPhase = (if s.ccCounts c = true ∨ s.cfg.dividerReading = .everyTick
      then s.pmu.divPhase + 1 else s.pmu.divPhase) ∧
    (s.ccCounts c = true → s.divEff = false → (tick c o k s).pmu.pmccntr = s.pmu.pmccntr + 1) ∧
    (s.ccCounts c = true → s.divEff = true →
      (tick c o k s).pmu.pmccntr = if s.pmu.divPhase = 63 then s.pmu.pmccntr + 1 else s.pmu.pmccntr) ∧
    (s.ccCounts c = true → s.divEff = true → s.pmu.divPhase ≠ 63 →
      bit (tick c o k s).pmu.pmovs 31 = bit s.pmu.pmovs 31) ∧
    (s.ccCounts c = true → s.divEff = false ∨ s.pmu.divPhase = 63 →
      bit (tick c o k s).pmu.pmovs 31 = (bit s.pmu.pmovs 31 || (if s.lcEff then s.pmu.pmccntr == BitVec.allOnes 64
        else field s.pmu.pmccntr 0 32 == BitVec.allOnes 32)))

/-- O51. Over any sequence of ticks, each of which counts the cycle or not, the phase advances by the number of ticks
(the reading of U5) or by the number of those counted (the words of R120) modulo 64, as the parameter of log 16
says; without the divide-by-64 PMCCNTR_EL0 advances by the number of those counted; with it, 64 counted cycles in a
row advance it by exactly one from any phase, under either reading. (R54, R120, R324, R472) -/
def Obligations.DividedCyclesCountOnceInSixtyFour : Prop :=
  ∀ (s t : State) (l : List Bool), t = l.foldl (fun u counts => stepCycle counts u) s →
    t.pmu.divPhase = s.pmu.divPhase +
      BitVec.ofNat 6 (if s.cfg.dividerReading = .everyTick then l.length else l.count true) ∧
    (s.divEff = false → t.pmu.pmccntr = s.pmu.pmccntr + BitVec.ofNat 64 (l.count true)) ∧
    (s.divEff = true → l = List.replicate 64 true →
      t.pmu.divPhase = s.pmu.divPhase ∧ t.pmu.pmccntr = s.pmu.pmccntr + 1)

/-- O52. When hardware adds d n to every event counter n: each counter is the sum modulo 2^64, or 2^32 without
FEAT_PMUv3p5 (for d n = 0 it is unchanged); PMOVS[n] is set if it was set or if d n >= 1 and the addition carries
out of the overflow width, 32 bits or 64; the width is 32 without FEAT_PMUv3p5, and, unless the PMU Profiling
exception is enabled (O57), in the first range while PMCR_EL0.LP is 0 and in the second while MDCR_EL2.HLP is 0, and
else 64; PMOVS[31] and PMOVS[32] and every other register are unchanged. (R112, R468, R552, R808) -/
def Obligations.HardwareAdditionSetsOverflowFlag : Prop :=
  ∀ (s : State) (d : Nat → Nat) (n : Nat), n < 31 →
    arrayGet (addToCounters d s).pmu.pmevcntr n 0 = (if d n = 0 then s.evcntr n else
      BitVec.ofNat 64 (((s.evcntr n).toNat + d n) % 2 ^ (if s.has .PMUv3p5 then 64 else 32))) ∧
    bit (addToCounters d s).pmu.pmovs n = (bit s.pmu.pmovs n || (decide (1 ≤ d n) &&
      decide (2 ^ s.eventOvfWidth n ≤ (s.evcntr n).toNat % 2 ^ s.eventOvfWidth n + d n))) ∧
    s.eventOvfWidth n = (if s.has .PMUv3p5 = false then 32 else if s.has .EBEP = true ∧ s.pmeeEff = 3 then 64
      else if n < s.hpmnEff ∧ bit s.pmu.pmcr 7 = false then 32
      else if s.hpmnEff ≤ n ∧ n < s.numSelfHosted ∧ bit s.mdcrEl2 26 = false then 32 else 64) ∧
    bit (addToCounters d s).pmu.pmovs 31 = bit s.pmu.pmovs 31 ∧
    bit (addToCounters d s).pmu.pmovs 32 = bit s.pmu.pmovs 32 ∧
    addToCounters d s = { s with pmu := { s.pmu with pmevcntr := (addToCounters d s).pmu.pmevcntr,
                                                     pmovs := (addToCounters d s).pmu.pmovs } }

/-- O53. In a tick each event counter n becomes the sum with V[n] modulo its width (unchanged for V[n] = 0). The counter
counts exactly when it is below GetNumEventCountersSelfHosted(), PMCNTEN[n] is 1, the enable of its range
(PMCR_EL0.E or MDCR_EL2.HPME) is 1, its filter does not forbid it, and counting by its range is neither prohibited
nor frozen (O54). VB[n] is, for an event that the PE counts (O25, log 36), its occurrences on this PE and, where the
Effective MT is 1, on the other PEs (log 20); MT is in effect as MDCR_EL3.MTPME, or MDCR_EL2.MTPME without EL3, says
with FEAT_MTPMU, and by a parameter without it. For an event that the PE does not count VB[n] is 0 with FEAT_PMUv3p8
and in the ranges that R604 protects, and else that of the event, if any, that the implementation counts (log 36).
V[n] is 0 where the counter does not count and VB[n] without FEAT_PMUv3_TH. With it, while TC and TLC hold no
reserved value: cmp compares VB[n] with TH by TC[2:1]; without the edge form V[n] is, with TLC = 0b10, V[n-1] where
cmp holds and else 0, and otherwise VB[n] or 1 by TC[0] where cmp holds and else V[n-1] with TLC = 0b01 and 0
without; in the edge form V[n] is V[n-1] with TLC = 0b10 and else 1, on a change of cmp to true (TC[0] = 1) or in
either direction (TC[0] = 0), and else 0. The tick records cmp as the previous result of the next cycle, for every
counter, counting or not (that it does so for those that do not count is log 18; reserved values act by the
parameters of log 23). (R114, R121, R125, R584, R585, R586, R590, R604, R606, R808) -/
def Obligations.EventCountersCountTheirEvent : Prop :=
  ∀ (s : State) (c : Context) (o : Occurrences) (k n : Nat), n < 31 →
    (tick c o k s).evcntr n = (if s.v c o n = 0 then s.evcntr n else BitVec.ofNat 64
      (((s.evcntr n).toNat + s.v c o n) % 2 ^ (if s.has .PMUv3p5 then 64 else 32))) ∧
    (s.evCounts n c = true ↔ n < s.numSelfHosted ∧ bit s.pmu.pmcnten n = true ∧
      (if n < s.hpmnEff then bit s.pmu.pmcr 0 else bit s.mdcrEl2 7) = true ∧
      filtered s.cfg s.cfg.reserved.vsEvent (s.evtyper n) c = false ∧
      (if n < s.hpmnEff then s.prohibitedFirst c = false ∧ s.frozenByFzoFirst = false ∧ s.frozenByFzsFirst = false
        else s.prohibitedSecond c = false ∧ s.frozenByFzoSecond = false ∧ s.frozenByFzsSecond = false)) ∧
    (∀ (e : Nat) (mtpme mt : Bool) (occ : Nat → Nat),
      e = fieldNat (s.evtyper n) 0 (if s.has .PMUv3p1 then 16 else 10) →
      mtpme = ((if s.haveEL3 then bit s.mdcrEl3 28 else bit s.mdcrEl2 28) && !s.cfg.mtpmuDisabledElsewhere) →
      mt = (bit (s.evtyper n) 25 && (if s.has .MTPMU then mtpme else s.cfg.impdefMultiThread)) →
      occ = (fun e => occurrences o.own e + (if mt then occurrences o.others e else 0)) →
      s.vb o n = (if s.cfg.supported e then occ e
        else if s.has .PMUv3p8 = true ∨ e < 0x40 ∨ (s.has .PMUv3p1 = true ∧ 0x4000 ≤ e ∧ e < 0x4040) then 0
        else match unsupportedCounted s.cfg.unsupportedEvents e with | some e' => occ e' | none => 0)) ∧
    (s.evCounts n c = false → s.v c o n = 0) ∧
    (s.evCounts n c = true → s.has .PMUv3_TH = false → s.v c o n = s.vb o n) ∧
    (s.has .PMUv3_TH = true → tcReserved s.cfg n (s.evtyper n) = false →
      ∀ (link : Bool) (tlc : BitVec 2) (tc : BitVec 3) (edge cmp prev : Bool) (th vPrev : Nat),
      link = (s.has .PMUv3_TH2 && n % 2 == 1) → tlc = (if link then field (s.evtyper n) 54 2 else 0) → tlc ≠ 3 →
      tc = field (s.evtyper n) 61 3 → edge = (s.has .PMUv3_EDGE && bit (s.evtyper n) 60) →
      th = fieldNat (s.evtyper n) 32 12 % 2 ^ s.cfg.thWidth →
      cmp = (if tc.toNat / 2 = 0 then decide (s.vb o n ≠ th) else if tc.toNat / 2 = 1 then decide (s.vb o n = th)
        else if tc.toNat / 2 = 2 then decide (th ≤ s.vb o n) else decide (s.vb o n < th)) →
      prev = arrayGet s.pmu.edgePrev n false → vPrev = (if n = 0 then 0 else s.v c o (n - 1)) →
      (s.evCounts n c = true → s.v c o n =
        (if edge then
          (if (if tc.getLsbD 0 then cmp && !prev else cmp != prev) then (if tlc = 2 then vPrev else 1) else 0)
        else if tlc = 2 then (if cmp then vPrev else 0)
        else if cmp then (if tc.getLsbD 0 then 1 else s.vb o n)
        else if tlc = 1 then vPrev else 0)) ∧
      arrayGet (tick c o k s).pmu.edgePrev n false = cmp)

/-- O54. If PMCR_EL0.E is 0, a tick leaves PMCCNTR_EL0, PMICNTR_EL0 and every event counter in the first range
unchanged; if MDCR_EL2.HPME is 0 it leaves every event counter in the second range unchanged. In Debug state it
leaves PMICNTR_EL0 and every event counter unchanged; that Debug state is an input and that the cycle counter
follows PMCR_EL0.DP there is log 42. Prohibited in the first range (R123): in Debug state, at EL2 by HPMD, at EL3 by
MPMX, and without MPMX in Secure state and at EL3 by SPME = 0; in the second: in Debug state, at EL3 by MPMX unless
EL2 is implemented and SPME is 1, and without MPMX in Secure state and at EL3 by SPME = 0. Frozen by FZO or HPMFZO
(R124): by the flag of an event counter of the range that is not in synchronous mode, and the first range also by
that of the instruction counter; by FZS or HPMFZS while profiling stops them. The filter of a filter register f
(R314, R605, R675): by the VS field and the SVE mode (the reserved value acts as the parameter v of log 23); by P,
U, NSH or M for the Exception level; by NSK, NSU, SH, RLK, RLU or RLH, which also forbid (reading A) or decide alone
(reading B) in their own Security state. Which reading holds is a parameter (log 24). (R120, R121, R122, R123, R124,
R314, R475, R605, R675, R1512, R1548) -/
def Obligations.DisabledCountersDoNotCount : Prop :=
  ∀ (s : State) (c : Context) (o : Occurrences) (k : Nat),
    (bit s.pmu.pmcr 0 = false → (tick c o k s).pmu.pmccntr = s.pmu.pmccntr ∧
      (tick c o k s).pmu.pmicntr = s.pmu.pmicntr ∧ ∀ n < s.hpmnEff, (tick c o k s).evcntr n = s.evcntr n) ∧
    (bit s.mdcrEl2 7 = false → ∀ n < 31, s.hpmnEff ≤ n → (tick c o k s).evcntr n = s.evcntr n) ∧
    (s.inp.halted = true → (tick c o k s).pmu.pmicntr = s.pmu.pmicntr ∧
      ∀ n < 31, (tick c o k s).evcntr n = s.evcntr n) ∧
    (∀ hpmd spme mpmx secureOrEL3 : Bool,
      hpmd = (s.has .PMUv3p1 && s.haveEL2 && bit s.mdcrEl2 17 && (s.has .Debugv8p2 || !s.inp.nsd)) →
      spme = (s.haveEL3 && !bit s.mdcrEl3 17 && (s.has .PMUv3p7 || s.has .Debugv8p2 || !s.inp.nsd)) →
      mpmx = (s.has .PMUv3p7 && s.haveEL3 && bit s.mdcrEl3 35) → secureOrEL3 = (c.ss == .secure || c.el == .el3) →
      (s.prohibitedFirst c = true ↔ s.inp.halted = true ∨ (hpmd = true ∧ c.el = .el2) ∨ (mpmx = true ∧ c.el = .el3) ∨
        (mpmx = false ∧ spme = true ∧ secureOrEL3 = true)) ∧
      (s.prohibitedSecond c = true ↔ s.inp.halted = true ∨
        (mpmx = true ∧ c.el = .el3 ∧ (s.haveEL2 = false ∨ bit s.mdcrEl3 17 = false)) ∨
        (mpmx = false ∧ spme = true ∧ secureOrEL3 = true))) ∧
    (∀ (asynchronous : Word → Prop), (∀ f, asynchronous f ↔ s.has .SEBEP = false ∨ bit f 58 = false) →
      (s.frozenByFzoFirst = true ↔ s.has .PMUv3p7 = true ∧ bit s.pmu.pmcr 9 = true ∧
        ((∃ m < s.hpmnEff, bit s.pmu.pmovs m = true ∧ asynchronous (s.evtyper m)) ∨
          (s.has .PMUv3_ICNTR = true ∧ bit s.pmu.pmovs 32 = true ∧ asynchronous s.pmu.pmicfiltr))) ∧
      (s.frozenByFzoSecond = true ↔ s.has .PMUv3p7 = true ∧ bit s.mdcrEl2 29 = true ∧
        ∃ m < s.numSelfHosted, s.hpmnEff ≤ m ∧ bit s.pmu.pmovs m = true ∧ asynchronous (s.evtyper m)) ∧
      (s.frozenByFzsFirst = true ↔ s.has .SPEv1p2 = true ∧ bit s.pmu.pmcr 32 = true ∧ s.inp.speFreeze = true) ∧
      (s.frozenByFzsSecond = true ↔ s.has .SPEv1p2 = true ∧ bit s.mdcrEl2 36 = true ∧ s.inp.speFreeze = true)) ∧
    (∀ (f : Word) (v vs : BitVec 2) (vsLine general specific line ns realm secure : Bool),
      vs = (if field f 56 2 = 3 then v else field f 56 2) →
      vsLine = (s.has .PMUv3_SME && (if c.streaming then vs == 1 else vs == 2)) →
      ns = (c.ss == .nonSecure && s.haveEL3) → realm = (c.ss == .realm && s.has .RME) →
      secure = (c.ss == .secure && s.haveEL3 && s.haveEL2 && s.cfg.haveSecureEL1 && s.has .SEL2) →
      general = (match c.el with
        | .el0 => bit f 30 | .el1 => bit f 31 | .el2 => s.haveEL2 && !bit f 27
        | .el3 => s.haveEL3 && bit f 26 != bit f 31) →
      specific = (match c.el with
        | .el0 | .el1 => ns || realm | .el2 => s.haveEL2 && (secure || realm) | .el3 => false) →
      line = (match c.el with
        | .el0 => bit f (if ns then 28 else 21) != bit f 30 | .el1 => bit f (if ns then 29 else 22) != bit f 31
        | .el2 => bit f (if secure then 24 else 20) == bit f 27 | .el3 => false) →
      filtered s.cfg v f c = (vsLine || (match s.cfg.filterReading with
        | .disjunction => general || (specific && line)
        | .replacement => if specific then line else general)))

/-- O55. Adding k instructions in one tick gives the state of k single steps; a single step adds one to PMICNTR_EL0
modulo 2^64 and sets PMOVS[32] exactly when the old value is all ones; a tick in whose context the instruction
counter does not count leaves it unchanged. It counts exactly when FEAT_PMUv3_ICNTR is implemented, PMCR_EL0.E and
PMCNTEN[32] are 1, first-range counting is neither prohibited nor frozen, and its filter PMICFILTR_EL0 does not
forbid it (O54). (R122, R125, R675, R692) -/
def Obligations.InstructionCounterCountsOneByOne : Prop :=
  (∀ (s : State) (k : Nat), addInstructions k s = (addInstructions 1)^[k] s) ∧
  (∀ s : State, (addInstructions 1 s).pmu.pmicntr = s.pmu.pmicntr + 1 ∧
    bit (addInstructions 1 s).pmu.pmovs 32 = (bit s.pmu.pmovs 32 || s.pmu.pmicntr == BitVec.allOnes 64)) ∧
  (∀ (s : State) (c : Context) (o : Occurrences) (k : Nat),
    (s.icCounts c = true ↔ s.has .PMUv3_ICNTR = true ∧ bit s.pmu.pmcr 0 = true ∧ bit s.pmu.pmcnten 32 = true ∧
      s.prohibitedFirst c = false ∧ s.frozenByFzoFirst = false ∧ s.frozenByFzsFirst = false ∧
      filtered s.cfg s.cfg.reserved.vsInstr s.pmu.pmicfiltr c = false) ∧
    (s.icCounts c = false → (tick c o k s).pmu.pmicntr = s.pmu.pmicntr) ∧
    (s.icCounts c = true → (tick c o k s).pmu.pmicntr = s.pmu.pmicntr + BitVec.ofNat 64 k))

/-- O56. hpmn_eff() <= GetNumEventCountersSelfHosted() <= NUM_PMU_COUNTERS; a counter is in the first range exactly when
it is below hpmn_eff() and in the second when it is not and is below GetNumEventCountersSelfHosted(); the accessible
counters are those of both ranges at EL2 and EL3 and with EL2 disabled, and those of the first range at EL0 and EL1
with EL2 enabled. (R110, R111) -/
def Obligations.CounterRangesPartition : Prop :=
  ∀ s : State, s.hpmnEff ≤ s.numSelfHosted ∧ s.numSelfHosted ≤ s.cfg.numCounters ∧ s.cfg.numCounters ≤ 31 ∧
    (∀ n, (s.firstRange n = true ↔ n < s.hpmnEff) ∧
      (s.secondRange n = true ↔ s.hpmnEff ≤ n ∧ n < s.numSelfHosted)) ∧
    (s.inp.el = .el2 ∨ s.inp.el = .el3 ∨ s.el2Enabled = false → s.numAccessible = s.numSelfHosted) ∧
    (s.inp.el = .el0 ∨ s.inp.el = .el1 → s.el2Enabled = true → s.numAccessible = s.hpmnEff)

/-- O57. pmu_irq is asserted exactly when some counter has both its interrupt enable and its overflow flag set and it is
not the case that FEAT_EBEP is implemented and pmee_eff() is 0b11. pmee_eff() follows the chain that R1530 gives:
MDCR_EL3.PMEE if EL3 is implemented and the field is not 0b01; else MDCR_EL2.PMEE if EL2 is implemented and enabled
and the field is not 0b01; else PMECR_EL1.PMEE. A reserved value (0b10, and 0b01 in PMECR_EL1.PMEE) is treated as
0b00: the spec's own treatment of what R1512 leaves open, taken by the model (log 23, DESIGN CHOICE). (R1512, R1530,
R1531) -/
def Obligations.OverflowInterruptRequest : Prop :=
  ∀ (s : State) (m3 m2 m1 chosen : BitVec 2),
    m3 = (if s.haveEL3 then field s.mdcrEl3 40 2 else 1) →
    m2 = (if s.haveEL2 && s.el2Enabled then field s.mdcrEl2 40 2 else 1) → m1 = field s.pmu.pmecr 0 2 →
    chosen = (if m3 ≠ 1 then m3 else if m2 ≠ 1 then m2 else m1) →
    s.pmeeEff = (if chosen = 3 then 3 else 0) ∧
    (s.pmuIrq = true ↔
      (∃ i < 64, bit s.pmu.pminten i = true ∧ bit s.pmu.pmovs i = true) ∧ ¬(s.has .EBEP = true ∧ s.pmeeEff = 3))

/-- O58. spmu_step is possible exactly for an implemented counter of an implemented System PMU with E = 1 and the
counter enabled, a positive amount, and an event that the observation controls allow: Secure needs SPMSCR_EL1.SO,
Realm SPMROOTCR_EL3.RLO, Root SPMROOTCR_EL3.RTO, an event of no source SPMROOTCR_EL3.NAO and one of SPMSCR_EL1.NAO
and SO, where the register is implemented, Non-secure nothing. It adds d modulo the counter width, sets that
counter's flag exactly when the addition wraps and the counter has one, and changes no other System PMU, register or
memory. spmu_irq is asserted exactly when the System PMU is implemented, E is 1 and some flag is set and enabled.
That an event of no source needs a System PMU that can count such events (SPMU_HAS_NAO) is log 30. (R135, R1201,
R1203, R1437, R1532) -/
def Obligations.SystemPmuStepAndRequest : Prop :=
  ∀ (s : State) (n k d : Nat) (source : Option SecState) (p : SpmuConfig), n < 32 → s.cfg.spmuConfig n = some p →
    (s.spmuStepAllowed n k d source = true ↔
      s.cfg.spmuCounterImplemented n k = true ∧ 1 ≤ d ∧ bit (s.unit n).spmcr 0 = true ∧
        bit (s.unit n).spmcnten k = true ∧
        (source = some .secure → p.hasScr = true → bit (s.unit n).spmscr 0 = true) ∧
        (source = some .realm → p.hasRootcr = true → bit (s.unit n).spmrootcr 1 = true) ∧
        (source = some .root → p.hasRootcr = true → bit (s.unit n).spmrootcr 0 = true) ∧
        (source = none → p.hasNao = true ∧ (p.hasRootcr = true → bit (s.unit n).spmrootcr 3 = true) ∧
          (p.hasScr = true → bit (s.unit n).spmscr 0 = true ∨
            (p.scrHasNao = true ∧ bit (s.unit n).spmscr 4 = true)))) ∧
    (s.spmuStepAllowed n k d source = true →
      ∃ u : SpmUnit, spmuStep n k d s = s.withSpm { s.spm with units := arraySet s.spm.units n u } ∧
        arrayGet u.spmevcntr k 0 =
          BitVec.ofNat 64 (((arrayGet (s.unit n).spmevcntr k 0).toNat + d) % 2 ^ p.bits k) ∧
        (∀ j, j ≠ k → arrayGet u.spmevcntr j 0 = arrayGet (s.unit n).spmevcntr j 0 ∧
          bit u.spmovs j = bit (s.unit n).spmovs j) ∧
        bit u.spmovs k = (bit (s.unit n).spmovs k || (bit (s.cfg.spmuOvfMask n) k &&
          decide (2 ^ p.bits k ≤ (arrayGet (s.unit n).spmevcntr k 0).toNat + d))) ∧
        u = { s.unit n with spmevcntr := u.spmevcntr, spmovs := u.spmovs }) ∧
    (s.spmuIrq n = true ↔ bit (s.unit n).spmcr 0 = true ∧
      ((s.unit n).spmovs &&& (s.unit n).spminten &&& s.cfg.spmuIntMask n) ≠ 0)

/-- O59. After reset(Cold) and after reset(Warm), from any state: PMCR_EL0.E is 0, and FZS too with FEAT_AA32; the F0
bits of the three bitmaps are 0; PMSSCR_EL1 is NC = 1 and SS = 0; with FEAT_AA32EL1 TC, TE and TH are zero (on
either reset: log 33); with EL2 and PMUv3 HPMN is NUM_PMU_COUNTERS, HPMD and HCCD are 0; the fields of MDCR_EL3 that
R1607 sets to 0 are 0; the fields of R1605 are 0 in the register of the highest Exception level; MTPME is 1 after a
Cold reset and kept by a Warm one. After a Warm reset with FEAT_PMUv3_EXTPMN: PMCCNTR_EL0, PMICNTR_EL0,
PMCCFILTR_EL0, PMICFILTR_EL0, the snapshot registers, PMEVCNTR<n>_EL0 (with FEAT_PMUv3p5), the implemented bits of
PMEVTYPER<n>_EL0 outside TC, TE and TH, and bits 0 to 31 of the three bitmaps keep their values. That inputs and
memory are unchanged is log 32; System PMUs are unchanged. (R1601, R1602, R1603, R1605, R1607) -/
def Obligations.ResetStatedValues : Prop :=
  ∀ (s u w : State) (cold : Bool), u = resetPE cold s → w = resetPE false s →
    bit u.pmu.pmcr 0 = false ∧ (s.has .AA32 = true → bit u.pmu.pmcr 32 = false) ∧
    bit u.pmu.pmcnten 32 = false ∧ bit u.pmu.pminten 32 = false ∧
    bit u.pmu.pmovs 32 = false ∧ u.pmu.pmsscr = 0x100000000 ∧
    (s.has .AA32EL1 = true → ∀ n < 31, field (u.evtyper n) 61 3 = 0 ∧
      bit (u.evtyper n) 60 = false ∧ field (u.evtyper n) 32 12 = 0) ∧
    (s.cfg.haveEL2 = true → s.has .PMUv3 = true → fieldNat u.mdcrEl2 0 5 = s.cfg.numCounters) ∧
    bit u.mdcrEl2 17 = false ∧ bit u.mdcrEl2 23 = false ∧
    (∀ i ∈ [0, 2, 3, 4, 17, 18, 20, 21, 22, 23, 34, 35, 37, 43, 45, 46, 48, 49], bit u.mdcrEl3 i = false) ∧
    (s.haveEL3 = false → s.haveEL2 = false →
      field u.pmu.pmecr 0 2 = 0 ∧ (cold = true → field u.pmu.pmecr 3 2 = 0)) ∧
    (s.haveEL3 = false → s.haveEL2 = true →
      field u.mdcrEl2 40 2 = 0 ∧ bit u.mdcrEl2 43 = false ∧ (cold = true → field u.mdcrEl2 30 2 = 0)) ∧
    (s.haveEL3 = true → field u.mdcrEl3 40 2 = 0 ∧ field u.mdcrEl3 51 2 = 0 ∧ field u.mdcrEl3 53 2 = 0) ∧
    (cold = true → field u.mdcrEl3 30 2 = 0 ∧ bit u.mdcrEl3 38 = false) ∧
    (s.has .MTPMU = true → bit u.mdcrEl3 28 = (cold || bit s.mdcrEl3 28) ∧
      (s.haveEL3 = false → s.haveEL2 = true → bit u.mdcrEl2 28 = (cold || bit s.mdcrEl2 28))) ∧
    (s.has .PMUv3_EXTPMN = true →
      w.pmu.pmccntr = s.pmu.pmccntr ∧ w.pmu.pmicntr = s.pmu.pmicntr ∧ w.pmu.pmccfiltr = s.pmu.pmccfiltr ∧
      w.pmu.pmicfiltr = s.pmu.pmicfiltr ∧ w.pmu.pmccntsvr = s.pmu.pmccntsvr ∧ w.pmu.pmicntsvr = s.pmu.pmicntsvr ∧
      (∀ n < 31, arrayGet w.pmu.pmevcntsvr n 0 = arrayGet s.pmu.pmevcntsvr n 0 ∧
        (s.has .PMUv3p5 = true → w.evcntr n = s.evcntr n) ∧
        ∀ i < 64, i < 32 ∨ (44 ≤ i ∧ i < 60) → bit (w.evtyper n) i = bit (s.evtyper n &&& s.cfg.evtyperMask n) i) ∧
      ∀ i < 32, bit w.pmu.pmcnten i = bit s.pmu.pmcnten i ∧ bit w.pmu.pminten i = bit s.pmu.pminten i ∧
        bit w.pmu.pmovs i = bit s.pmu.pmovs i) ∧
    u.inp = s.inp ∧ u.mem = s.mem ∧ u.spm.units = s.spm.units

/-- O60. After reset(SystemPMU(n)) of an implemented System PMU: SPMCR_EL0.E is 0, spmu_irq(n) is deasserted,
SPMROOTCR_EL3.{RLO, RTO} and SPMSCR_EL1.{NAO, SO} are 0, SPMROOTCR_EL3.NAO is 1 where the register and the field
exist; every other System PMU and all state of the PE is unchanged. (R1604, R1611) -/
def Obligations.SystemPmuResetStatedValues : Prop :=
  ∀ (s : State) (n : Nat) (p : SpmuConfig), n < 32 → s.cfg.spmuConfig n = some p →
    bit ((resetSystemPMU n s).unit n).spmcr 0 = false ∧ (resetSystemPMU n s).spmuIrq n = false ∧
    field ((resetSystemPMU n s).unit n).spmrootcr 0 2 = 0 ∧
    bit ((resetSystemPMU n s).unit n).spmrootcr 3 = (p.hasRootcr && p.hasNao) ∧
    bit ((resetSystemPMU n s).unit n).spmscr 0 = false ∧ bit ((resetSystemPMU n s).unit n).spmscr 4 = false ∧
    (∀ m, m ≠ n → (resetSystemPMU n s).unit m = s.unit m) ∧
    resetSystemPMU n s = { s with spm := { s.spm with units := (resetSystemPMU n s).spm.units },
                                  freeCtr := s.freeCtr + 72 }
end

