-- ==== Sys2Proof/Laws/Bits.lean ====
section
/-! SUPPORT. The small lemmas of the bit-field, mask and array helpers. -/

namespace Sys2Proof.Machine

@[simp] theorem bit_and (a b : Word) (i : Nat) : bit (a &&& b) i = (bit a i && bit b i) := by simp [bit]

@[simp] theorem bit_or (a b : Word) (i : Nat) : bit (a ||| b) i = (bit a i || bit b i) := by simp [bit]

@[simp] theorem bit_not (a : Word) (i : Nat) (h : i < 64) : bit (~~~a) i = !bit a i := by simp [bit, h]

@[simp] theorem bit_zero (i : Nat) : bit 0 i = false := by simp [bit]

theorem bit_of_le (a : Word) (i : Nat) (h : 64 ≤ i) : bit a i = false := BitVec.getLsbD_of_ge a i h

theorem word_eq_of_bit {a b : Word} (h : ∀ i < 64, bit a i = bit b i) : a = b :=
  BitVec.eq_of_getLsbD_eq h

/-- Bit `i` of a mask built from a predicate. -/
theorem bit_maskOf (n : Nat) (hn : n ≤ 64) (p : Nat → Bool) (i : Nat) :
    bit (maskOf n p) i = (decide (i < n) && p i) := by
  induction n with
  | zero => simp [maskOf, bit]
  | succ n ih =>
    have h := ih (by omega)
    simp only [bit] at h
    by_cases hp : p n = true
    · by_cases hi : i = n
      · subst hi; simp [maskOf, hp, bit, BitVec.getLsbD_or, BitVec.getLsbD_twoPow]; omega
      · have : (i < n + 1) = (i < n) := by apply propext; omega
        simp [maskOf, hp, bit, h, BitVec.getLsbD_twoPow, this]
        omega
    · by_cases hi : i = n
      · subst hi; simp [maskOf, hp, bit, h]
      · have : (i < n + 1) = (i < n) := by apply propext; omega
        simp [maskOf, hp, bit, h, this]

theorem bit_bitIf (k : Nat) (hk : k < 64) (c : Bool) (i : Nat) : bit (bitIf k c) i = (c && decide (i = k)) := by
  cases c
  · simp [bitIf, bit]
  · by_cases h : i = k
    · subst h; simp [bitIf, bit, hk]
    · have : k ≠ i := fun e => h e.symm
      simp [bitIf, bit, BitVec.getLsbD_twoPow, h, this]

theorem bit_onesWord (n : Nat) (hn : n ≤ 64) (i : Nat) : bit (onesWord n) i = decide (i < n) := by
  simp only [bit, onesWord, BitVec.getLsbD_ofNat, Nat.testBit_two_pow_sub_one]
  by_cases h : i < n
  · have : i < 64 := by omega
    simp [h, this]
  · simp [h]

theorem bit_fieldIf (lo w : Nat) (h : lo + w ≤ 64) (c : Bool) (i : Nat) :
    bit (fieldIf lo w c) i = (c && decide (lo ≤ i ∧ i < lo + w)) := by
  cases c
  · simp [fieldIf, bit]
  · have := bit_onesWord w (by omega) (i - lo)
    simp only [bit, onesWord] at this
    simp only [fieldIf, bit, if_true, BitVec.getLsbD_shiftLeft, this, Bool.true_and]
    by_cases h1 : lo ≤ i <;> by_cases h2 : i < lo + w <;> simp [h1, h2] <;> omega

/-- Bit `i` of a field. -/
theorem getLsbD_field (v : Word) (lo w i : Nat) : (field v lo w).getLsbD i = (decide (i < w) && bit v (lo + i)) := by
  simp [field, bit]

/-- Bit `i` of a field as a number. -/
theorem testBit_fieldNat (v : Word) (lo w i : Nat) : (fieldNat v lo w).testBit i = (decide (i < w) && bit v (lo + i)) :=
  getLsbD_field v lo w i

/-- A field is zero exactly when each of its bits is 0. -/
theorem field_eq_zero_iff (v : Word) (lo w : Nat) : field v lo w = 0 ↔ ∀ i < w, bit v (lo + i) = false := by
  constructor
  · intro h i hi
    have := getLsbD_field v lo w i
    rw [h] at this
    simpa [hi] using this.symm
  · intro h
    apply BitVec.eq_of_getLsbD_eq
    intro i hi
    rw [getLsbD_field, h i hi]
    simp

/-- Bit `i` of a merge: the new bit where the mask is 1, the old bit elsewhere. -/
theorem bit_mergeBits (old v m : Word) (i : Nat) :
    bit (mergeBits old v m) i = if bit m i then bit v i else bit old i := by
  by_cases hi : i < 64
  · cases h : bit m i <;> simp [mergeBits, hi, h]
  · simp [bit_of_le _ _ (Nat.le_of_not_lt hi)]

@[simp] theorem mergeBits_zero_mask (old v : Word) : mergeBits old v 0 = old :=
  word_eq_of_bit fun i _ => by rw [bit_mergeBits, bit_zero]; rfl

theorem arrayGet_arraySet_self {α : Type} {n : Nat} (a : Vector α n) (i : Nat) (x d : α) (h : i < n) :
    arrayGet (arraySet a i x) i d = x := by simp [arrayGet, arraySet, h]

theorem arrayGet_arraySet_ne {α : Type} {n : Nat} (a : Vector α n) (i j : Nat) (x d : α) (h : i ≠ j) :
    arrayGet (arraySet a i x) j d = arrayGet a j d := by
  simp [arrayGet, arraySet, h]

theorem arrayGet_ofFn {α : Type} {n : Nat} (f : Fin n → α) (i : Nat) (d : α) (h : i < n) :
    arrayGet (Vector.ofFn f) i d = f ⟨i, h⟩ := by simp [arrayGet, h]

theorem arrayGet_of_le {α : Type} {n : Nat} (a : Vector α n) (i : Nat) (d : α) (h : n ≤ i) : arrayGet a i d = d := by
  simp [arrayGet, h]

end Sys2Proof.Machine
end

