-- ==== Sys2Proof/Laws/Memory.lean ====
section
/-! SUPPORT. The laws of the memory: read after write, and every operation keeps the canonical form. -/

namespace Sys2Proof.Machine

theorem memWfFrom_mono {lo lo' : Nat} (h : lo' ≤ lo) {m : List Host.Cell} (w : memWfFrom lo m = true) :
    memWfFrom lo' m = true := by
  cases m with
  | nil => rfl
  | cons c rest => simp only [memWfFrom, Bool.and_eq_true, decide_eq_true_eq] at w ⊢; exact ⟨⟨by omega, w.1.2⟩, w.2⟩

theorem readByte_below {lo a : Nat} (h : a < lo) {m : List Host.Cell} (w : memWfFrom lo m = true) :
    readByte m a = unlistedByte := by
  induction m generalizing lo with
  | nil => rfl
  | cons c rest ih =>
    simp only [memWfFrom, Bool.and_eq_true, decide_eq_true_eq] at w
    have hne : c.1 ≠ a := by omega
    simp only [readByte, hne, if_false]
    exact ih (by omega : a < c.1 + 1) w.2

/-- A write keeps the canonical form. -/
theorem memWfFrom_writeByte {lo a : Nat} (h : lo ≤ a) (b : Byte) {m : List Host.Cell} (w : memWfFrom lo m = true) :
    memWfFrom lo (writeByte m a b) = true := by
  induction m generalizing lo with
  | nil => by_cases hb : b = unlistedByte <;> simp [writeByte, memWfFrom, hb, h]
  | cons c rest ih =>
    obtain ⟨k, x⟩ := c
    simp only [memWfFrom, Bool.and_eq_true, decide_eq_true_eq] at w
    obtain ⟨⟨h1, h2⟩, h3⟩ := w
    rcases Nat.lt_trichotomy a k with hlt | heq | hgt
    · by_cases hb : b = unlistedByte
      · simp [writeByte, hlt, hb, memWfFrom, h1, h2, h3]
      · have : a + 1 ≤ k := hlt
        simp [writeByte, hlt, hb, memWfFrom, h, h2, h3, this]
    · subst heq
      by_cases hb : b = unlistedByte
      · simpa [writeByte, hb] using memWfFrom_mono (by omega) h3
      · simp [writeByte, hb, memWfFrom, h, h3]
    · have n1 : ¬ a < k := by omega
      have n2 : ¬ a = k := by omega
      simp only [writeByte, n1, n2, if_false, memWfFrom, Bool.and_eq_true, decide_eq_true_eq]
      exact ⟨⟨h1, h2⟩, ih (by omega) h3⟩

theorem memWf_writeByte (a : Nat) (b : Byte) {m : List Host.Cell} (w : memWf m = true) :
    memWf (writeByte m a b) = true := memWfFrom_writeByte (Nat.zero_le a) b w

theorem readByte_writeByte_self_from {lo : Nat} (a : Nat) (b : Byte) {m : List Host.Cell}
    (w : memWfFrom lo m = true) : readByte (writeByte m a b) a = b := by
  induction m generalizing lo with
  | nil => by_cases hb : b = unlistedByte <;> simp [writeByte, readByte, hb]
  | cons c rest ih =>
    obtain ⟨k, x⟩ := c
    have w' := w
    simp only [memWfFrom, Bool.and_eq_true, decide_eq_true_eq] at w
    rcases Nat.lt_trichotomy a k with hlt | heq | hgt
    · by_cases hb : b = unlistedByte
      · subst hb
        have h3 : memWfFrom (a + 1) rest = true := memWfFrom_mono (by omega) w.2
        have hne : k ≠ a := by omega
        simp [writeByte, hlt, readByte, hne, readByte_below (by omega : a < a + 1) h3]
      · simp [writeByte, hlt, hb, readByte]
    · subst heq
      by_cases hb : b = unlistedByte
      · subst hb; simp [writeByte, readByte_below (by omega : a < a + 1) w.2]
      · simp [writeByte, hb, readByte]
    · have n1 : ¬ a < k := by omega
      have n2 : ¬ a = k := by omega
      have n3 : k ≠ a := by omega
      simp only [writeByte, n1, n2, if_false, readByte, n3]
      exact ih w.2

/-- A read gives the byte last written there. -/
theorem readByte_writeByte_self (a : Nat) (b : Byte) {m : List Host.Cell} (w : memWf m = true) :
    readByte (writeByte m a b) a = b := readByte_writeByte_self_from a b w

/-- A write leaves every other byte. -/
theorem readByte_writeByte_ne {a a' : Nat} (h : a' ≠ a) (b : Byte) (m : List Host.Cell) :
    readByte (writeByte m a b) a' = readByte m a' := by
  induction m with
  | nil => by_cases hb : b = unlistedByte <;> simp [writeByte, readByte, hb, Ne.symm h]
  | cons c rest ih =>
    obtain ⟨k, x⟩ := c
    rcases Nat.lt_trichotomy a k with hlt | heq | hgt
    · by_cases hb : b = unlistedByte <;> simp [writeByte, hlt, hb, readByte, Ne.symm h]
    · subst heq
      by_cases hb : b = unlistedByte <;> simp [writeByte, hb, readByte, Ne.symm h]
    · have n1 : ¬ a < k := by omega
      have n2 : ¬ a = k := by omega
      simp [writeByte, n1, n2, readByte, ih]

theorem readByte_listed {lo : Nat} {c : Host.Cell} {rest : List Host.Cell} (w : memWfFrom lo (c :: rest) = true) :
    c.2 ≠ unlistedByte := by
  simp only [memWfFrom, Bool.and_eq_true, bne_iff_ne] at w
  exact w.1.2

/-- Memories in canonical form that read alike are equal. -/
theorem memWfFrom_ext {lo lo' : Nat} {m m' : List Host.Cell} (w : memWfFrom lo m = true) (w' : memWfFrom lo' m' = true)
    (h : ∀ a, readByte m a = readByte m' a) : m = m' := by
  induction m generalizing lo lo' m' with
  | nil =>
    cases m' with
    | nil => rfl
    | cons c rest =>
      have h1 := h c.1
      simp only [readByte, if_true] at h1
      exact absurd h1.symm (readByte_listed w')
  | cons c rest ih =>
    cases m' with
    | nil =>
      have h1 := h c.1
      simp only [readByte, if_true] at h1
      exact absurd h1 (readByte_listed w)
    | cons d rest' =>
      have e1 := readByte_listed w
      have e2 := readByte_listed w'
      obtain ⟨k, x⟩ := c
      obtain ⟨k', x'⟩ := d
      simp only [memWfFrom, Bool.and_eq_true, decide_eq_true_eq] at w w'
      rcases Nat.lt_trichotomy k k' with hlt | heq | hgt
      · have h1 := h k
        have hne : k' ≠ k := by omega
        simp only [readByte, if_true, hne, if_false] at h1
        rw [readByte_below (by omega : k < k' + 1) w'.2] at h1
        exact absurd h1 e1
      · subst heq
        have hx := h k
        simp only [readByte, if_true] at hx
        subst hx
        have hr : rest = rest' := by
          refine ih w.2 w'.2 fun a => ?_
          by_cases ha : k = a
          · subst ha
            rw [readByte_below (by omega : k < k + 1) w.2, readByte_below (by omega : k < k + 1) w'.2]
          · have h1 := h a
            simpa only [readByte, ha, if_false] using h1
        rw [hr]
      · have h1 := h k'
        have hne : k ≠ k' := by omega
        simp only [readByte, if_true, hne, if_false] at h1
        rw [readByte_below (by omega : k' < k + 1) w.2] at h1
        exact absurd h1.symm e2

theorem memWf_ext {m m' : List Host.Cell} (w : memWf m = true) (w' : memWf m' = true)
    (h : ∀ a, readByte m a = readByte m' a) : m = m' := memWfFrom_ext w w' h

/-- The memory write of R160 keeps the canonical form. -/
theorem memWf_nvmemWrite (s : State) (v : Word) (w : memWf s.mem = true) : memWf (s.nvmemWrite v).mem = true := by
  simp only [State.nvmemWrite, List.range, List.range.loop, List.foldl]
  iterate 8 apply memWf_writeByte
  exact w

/-- The memory write of R160 leaves every byte outside the cell. -/
theorem readByte_nvmemWrite_other (s : State) (v : Word) (a : Nat) (h : s.addressExists a = false) :
    readByte (s.nvmemWrite v).mem a = readByte s.mem a := by
  simp only [State.addressExists, List.range, List.range.loop, List.any, Bool.or_eq_false_iff, beq_eq_false_iff_ne] at h
  simp only [State.nvmemWrite, List.range, List.range.loop, List.foldl]
  obtain ⟨h0, h1, h2, h3, h4, h5, h6, h7, -⟩ := h
  rw [readByte_writeByte_ne (Ne.symm h7), readByte_writeByte_ne (Ne.symm h6), readByte_writeByte_ne (Ne.symm h5),
    readByte_writeByte_ne (Ne.symm h4), readByte_writeByte_ne (Ne.symm h3), readByte_writeByte_ne (Ne.symm h2),
    readByte_writeByte_ne (Ne.symm h1), readByte_writeByte_ne (Ne.symm h0)]

theorem memWf_reset : memWf State.reset.mem = true := rfl

end Sys2Proof.Machine
end

