-- ==== Sys2Proof/Laws/State.lean ====
section
/-! SUPPORT. One lemma per field of the state and per update, all true by definition, so that no later proof unfolds
a record update. -/

namespace Sys2Proof.Machine

@[simp] theorem writeX_cfg (s : State) (t : Nat) (v : Word) : (s.writeX t v).cfg = s.cfg := rfl
@[simp] theorem writeX_inp (s : State) (t : Nat) (v : Word) : (s.writeX t v).inp = s.inp := rfl
@[simp] theorem writeX_choices (s : State) (t : Nat) (v : Word) : (s.writeX t v).choices = s.choices := rfl
@[simp] theorem writeX_x (s : State) (t : Nat) (v : Word) : (s.writeX t v).x = arraySet s.x t v := rfl
@[simp] theorem writeX_pc (s : State) (t : Nat) (v : Word) : (s.writeX t v).pc = s.pc := rfl
@[simp] theorem writeX_program (s : State) (t : Nat) (v : Word) : (s.writeX t v).program = s.program := rfl
@[simp] theorem writeX_schedule (s : State) (t : Nat) (v : Word) : (s.writeX t v).schedule = s.schedule := rfl
@[simp] theorem writeX_pending (s : State) (t : Nat) (v : Word) : (s.writeX t v).pending = s.pending := rfl
@[simp] theorem writeX_pmu (s : State) (t : Nat) (v : Word) : (s.writeX t v).pmu = s.pmu := rfl
@[simp] theorem writeX_spm (s : State) (t : Nat) (v : Word) : (s.writeX t v).spm = s.spm := rfl
@[simp] theorem writeX_mdcrEl2 (s : State) (t : Nat) (v : Word) : (s.writeX t v).mdcrEl2 = s.mdcrEl2 := rfl
@[simp] theorem writeX_mdcrEl3 (s : State) (t : Nat) (v : Word) : (s.writeX t v).mdcrEl3 = s.mdcrEl3 := rfl
@[simp] theorem writeX_mem (s : State) (t : Nat) (v : Word) : (s.writeX t v).mem = s.mem := rfl
@[simp] theorem writeX_freeCtr (s : State) (t : Nat) (v : Word) : (s.writeX t v).freeCtr = s.freeCtr := rfl

@[simp] theorem advance_cfg (s : State) : s.advance.cfg = s.cfg := rfl
@[simp] theorem advance_inp (s : State) : s.advance.inp = s.inp := rfl
@[simp] theorem advance_choices (s : State) : s.advance.choices = s.choices := rfl
@[simp] theorem advance_x (s : State) : s.advance.x = s.x := rfl
@[simp] theorem advance_pc (s : State) : s.advance.pc = s.pc + 4 := rfl
@[simp] theorem advance_program (s : State) : s.advance.program = s.program.tail := rfl
@[simp] theorem advance_schedule (s : State) : s.advance.schedule = s.schedule := rfl
@[simp] theorem advance_pending (s : State) : s.advance.pending = s.pending := rfl
@[simp] theorem advance_pmu (s : State) : s.advance.pmu = s.pmu := rfl
@[simp] theorem advance_spm (s : State) : s.advance.spm = s.spm := rfl
@[simp] theorem advance_mdcrEl2 (s : State) : s.advance.mdcrEl2 = s.mdcrEl2 := rfl
@[simp] theorem advance_mdcrEl3 (s : State) : s.advance.mdcrEl3 = s.mdcrEl3 := rfl
@[simp] theorem advance_mem (s : State) : s.advance.mem = s.mem := rfl
@[simp] theorem advance_freeCtr (s : State) : s.advance.freeCtr = s.freeCtr := rfl

@[simp] theorem takeException_cfg (e : Exception) (s : State) : (takeException e s).cfg = s.cfg := rfl
@[simp] theorem takeException_inp (e : Exception) (s : State) : (takeException e s).inp = s.inp := rfl
@[simp] theorem takeException_choices (e : Exception) (s : State) : (takeException e s).choices = s.choices := rfl
@[simp] theorem takeException_x (e : Exception) (s : State) : (takeException e s).x = s.x := rfl
@[simp] theorem takeException_pc (e : Exception) (s : State) : (takeException e s).pc = s.pc := rfl
@[simp] theorem takeException_program (e : Exception) (s : State) : (takeException e s).program = s.program := rfl
@[simp] theorem takeException_schedule (e : Exception) (s : State) : (takeException e s).schedule = s.schedule := rfl
@[simp] theorem takeException_pending (e : Exception) (s : State) : (takeException e s).pending = some e := rfl
@[simp] theorem takeException_pmu (e : Exception) (s : State) : (takeException e s).pmu = s.pmu := rfl
@[simp] theorem takeException_spm (e : Exception) (s : State) : (takeException e s).spm = s.spm := rfl
@[simp] theorem takeException_mdcrEl2 (e : Exception) (s : State) : (takeException e s).mdcrEl2 = s.mdcrEl2 := rfl
@[simp] theorem takeException_mdcrEl3 (e : Exception) (s : State) : (takeException e s).mdcrEl3 = s.mdcrEl3 := rfl
@[simp] theorem takeException_mem (e : Exception) (s : State) : (takeException e s).mem = s.mem := rfl
@[simp] theorem takeException_freeCtr (e : Exception) (s : State) : (takeException e s).freeCtr = s.freeCtr := rfl

@[simp] theorem drawn_cfg (s : State) (k : Nat) : (s.drawn k).cfg = s.cfg := rfl
@[simp] theorem drawn_inp (s : State) (k : Nat) : (s.drawn k).inp = s.inp := rfl
@[simp] theorem drawn_choices (s : State) (k : Nat) : (s.drawn k).choices = s.choices := rfl
@[simp] theorem drawn_x (s : State) (k : Nat) : (s.drawn k).x = s.x := rfl
@[simp] theorem drawn_pc (s : State) (k : Nat) : (s.drawn k).pc = s.pc := rfl
@[simp] theorem drawn_program (s : State) (k : Nat) : (s.drawn k).program = s.program := rfl
@[simp] theorem drawn_schedule (s : State) (k : Nat) : (s.drawn k).schedule = s.schedule := rfl
@[simp] theorem drawn_pending (s : State) (k : Nat) : (s.drawn k).pending = s.pending := rfl
@[simp] theorem drawn_pmu (s : State) (k : Nat) : (s.drawn k).pmu = s.pmu := rfl
@[simp] theorem drawn_spm (s : State) (k : Nat) : (s.drawn k).spm = s.spm := rfl
@[simp] theorem drawn_mdcrEl2 (s : State) (k : Nat) : (s.drawn k).mdcrEl2 = s.mdcrEl2 := rfl
@[simp] theorem drawn_mdcrEl3 (s : State) (k : Nat) : (s.drawn k).mdcrEl3 = s.mdcrEl3 := rfl
@[simp] theorem drawn_mem (s : State) (k : Nat) : (s.drawn k).mem = s.mem := rfl
@[simp] theorem drawn_freeCtr (s : State) (k : Nat) : (s.drawn k).freeCtr = s.freeCtr + k := rfl

@[simp] theorem withPmu_cfg (s : State) (p : Pmu) : (s.withPmu p).cfg = s.cfg := rfl
@[simp] theorem withPmu_inp (s : State) (p : Pmu) : (s.withPmu p).inp = s.inp := rfl
@[simp] theorem withPmu_choices (s : State) (p : Pmu) : (s.withPmu p).choices = s.choices := rfl
@[simp] theorem withPmu_x (s : State) (p : Pmu) : (s.withPmu p).x = s.x := rfl
@[simp] theorem withPmu_pc (s : State) (p : Pmu) : (s.withPmu p).pc = s.pc := rfl
@[simp] theorem withPmu_program (s : State) (p : Pmu) : (s.withPmu p).program = s.program := rfl
@[simp] theorem withPmu_schedule (s : State) (p : Pmu) : (s.withPmu p).schedule = s.schedule := rfl
@[simp] theorem withPmu_pending (s : State) (p : Pmu) : (s.withPmu p).pending = s.pending := rfl
@[simp] theorem withPmu_pmu (s : State) (p : Pmu) : (s.withPmu p).pmu = p := rfl
@[simp] theorem withPmu_spm (s : State) (p : Pmu) : (s.withPmu p).spm = s.spm := rfl
@[simp] theorem withPmu_mdcrEl2 (s : State) (p : Pmu) : (s.withPmu p).mdcrEl2 = s.mdcrEl2 := rfl
@[simp] theorem withPmu_mdcrEl3 (s : State) (p : Pmu) : (s.withPmu p).mdcrEl3 = s.mdcrEl3 := rfl
@[simp] theorem withPmu_mem (s : State) (p : Pmu) : (s.withPmu p).mem = s.mem := rfl
@[simp] theorem withPmu_freeCtr (s : State) (p : Pmu) : (s.withPmu p).freeCtr = s.freeCtr := rfl

@[simp] theorem withSpm_cfg (s : State) (p : Spm) : (s.withSpm p).cfg = s.cfg := rfl
@[simp] theorem withSpm_inp (s : State) (p : Spm) : (s.withSpm p).inp = s.inp := rfl
@[simp] theorem withSpm_choices (s : State) (p : Spm) : (s.withSpm p).choices = s.choices := rfl
@[simp] theorem withSpm_x (s : State) (p : Spm) : (s.withSpm p).x = s.x := rfl
@[simp] theorem withSpm_pc (s : State) (p : Spm) : (s.withSpm p).pc = s.pc := rfl
@[simp] theorem withSpm_program (s : State) (p : Spm) : (s.withSpm p).program = s.program := rfl
@[simp] theorem withSpm_schedule (s : State) (p : Spm) : (s.withSpm p).schedule = s.schedule := rfl
@[simp] theorem withSpm_pending (s : State) (p : Spm) : (s.withSpm p).pending = s.pending := rfl
@[simp] theorem withSpm_pmu (s : State) (p : Spm) : (s.withSpm p).pmu = s.pmu := rfl
@[simp] theorem withSpm_spm (s : State) (p : Spm) : (s.withSpm p).spm = p := rfl
@[simp] theorem withSpm_mdcrEl2 (s : State) (p : Spm) : (s.withSpm p).mdcrEl2 = s.mdcrEl2 := rfl
@[simp] theorem withSpm_mdcrEl3 (s : State) (p : Spm) : (s.withSpm p).mdcrEl3 = s.mdcrEl3 := rfl
@[simp] theorem withSpm_mem (s : State) (p : Spm) : (s.withSpm p).mem = s.mem := rfl
@[simp] theorem withSpm_freeCtr (s : State) (p : Spm) : (s.withSpm p).freeCtr = s.freeCtr := rfl

@[simp] theorem nvmemWrite_cfg (s : State) (v : Word) : (s.nvmemWrite v).cfg = s.cfg := by
  unfold State.nvmemWrite; rfl
@[simp] theorem nvmemWrite_inp (s : State) (v : Word) : (s.nvmemWrite v).inp = s.inp := by
  unfold State.nvmemWrite; rfl
@[simp] theorem nvmemWrite_choices (s : State) (v : Word) : (s.nvmemWrite v).choices = s.choices := by
  unfold State.nvmemWrite; rfl
@[simp] theorem nvmemWrite_x (s : State) (v : Word) : (s.nvmemWrite v).x = s.x := by
  unfold State.nvmemWrite; rfl
@[simp] theorem nvmemWrite_pc (s : State) (v : Word) : (s.nvmemWrite v).pc = s.pc := by
  unfold State.nvmemWrite; rfl
@[simp] theorem nvmemWrite_program (s : State) (v : Word) : (s.nvmemWrite v).program = s.program := by
  unfold State.nvmemWrite; rfl
@[simp] theorem nvmemWrite_schedule (s : State) (v : Word) : (s.nvmemWrite v).schedule = s.schedule := by
  unfold State.nvmemWrite; rfl
@[simp] theorem nvmemWrite_pending (s : State) (v : Word) : (s.nvmemWrite v).pending = s.pending := by
  unfold State.nvmemWrite; rfl
@[simp] theorem nvmemWrite_pmu (s : State) (v : Word) : (s.nvmemWrite v).pmu = s.pmu := by
  unfold State.nvmemWrite; rfl
@[simp] theorem nvmemWrite_spm (s : State) (v : Word) : (s.nvmemWrite v).spm = s.spm := by
  unfold State.nvmemWrite; rfl
@[simp] theorem nvmemWrite_mdcrEl2 (s : State) (v : Word) : (s.nvmemWrite v).mdcrEl2 = s.mdcrEl2 := by
  unfold State.nvmemWrite; rfl
@[simp] theorem nvmemWrite_mdcrEl3 (s : State) (v : Word) : (s.nvmemWrite v).mdcrEl3 = s.mdcrEl3 := by
  unfold State.nvmemWrite; rfl
@[simp] theorem nvmemWrite_freeCtr (s : State) (v : Word) : (s.nvmemWrite v).freeCtr = s.freeCtr := by
  unfold State.nvmemWrite; rfl

@[simp] theorem zeroPmuCounters_cfg (v : Word) (s : State) : (zeroPmuCounters v s).cfg = s.cfg := by
  unfold zeroPmuCounters; rfl
@[simp] theorem zeroPmuCounters_inp (v : Word) (s : State) : (zeroPmuCounters v s).inp = s.inp := by
  unfold zeroPmuCounters; rfl
@[simp] theorem zeroPmuCounters_choices (v : Word) (s : State) : (zeroPmuCounters v s).choices = s.choices := by
  unfold zeroPmuCounters; rfl
@[simp] theorem zeroPmuCounters_x (v : Word) (s : State) : (zeroPmuCounters v s).x = s.x := by
  unfold zeroPmuCounters; rfl
@[simp] theorem zeroPmuCounters_pc (v : Word) (s : State) : (zeroPmuCounters v s).pc = s.pc := by
  unfold zeroPmuCounters; rfl
@[simp] theorem zeroPmuCounters_program (v : Word) (s : State) : (zeroPmuCounters v s).program = s.program := by
  unfold zeroPmuCounters; rfl
@[simp] theorem zeroPmuCounters_schedule (v : Word) (s : State) : (zeroPmuCounters v s).schedule = s.schedule := by
  unfold zeroPmuCounters; rfl
@[simp] theorem zeroPmuCounters_pending (v : Word) (s : State) : (zeroPmuCounters v s).pending = s.pending := by
  unfold zeroPmuCounters; rfl
@[simp] theorem zeroPmuCounters_spm (v : Word) (s : State) : (zeroPmuCounters v s).spm = s.spm := by
  unfold zeroPmuCounters; rfl
@[simp] theorem zeroPmuCounters_mdcrEl2 (v : Word) (s : State) : (zeroPmuCounters v s).mdcrEl2 = s.mdcrEl2 := by
  unfold zeroPmuCounters; rfl
@[simp] theorem zeroPmuCounters_mdcrEl3 (v : Word) (s : State) : (zeroPmuCounters v s).mdcrEl3 = s.mdcrEl3 := by
  unfold zeroPmuCounters; rfl
@[simp] theorem zeroPmuCounters_mem (v : Word) (s : State) : (zeroPmuCounters v s).mem = s.mem := by
  unfold zeroPmuCounters; rfl
@[simp] theorem zeroPmuCounters_freeCtr (v : Word) (s : State) : (zeroPmuCounters v s).freeCtr = s.freeCtr := by
  unfold zeroPmuCounters; rfl

@[simp] theorem writePmiar_cfg (v : Word) (s : State) : (writePmiar v s).cfg = s.cfg := by
  unfold writePmiar; rfl
@[simp] theorem writePmiar_inp (v : Word) (s : State) : (writePmiar v s).inp = s.inp := by
  unfold writePmiar; rfl
@[simp] theorem writePmiar_choices (v : Word) (s : State) : (writePmiar v s).choices = s.choices := by
  unfold writePmiar; rfl
@[simp] theorem writePmiar_x (v : Word) (s : State) : (writePmiar v s).x = s.x := by
  unfold writePmiar; rfl
@[simp] theorem writePmiar_pc (v : Word) (s : State) : (writePmiar v s).pc = s.pc := by
  unfold writePmiar; rfl
@[simp] theorem writePmiar_program (v : Word) (s : State) : (writePmiar v s).program = s.program := by
  unfold writePmiar; rfl
@[simp] theorem writePmiar_schedule (v : Word) (s : State) : (writePmiar v s).schedule = s.schedule := by
  unfold writePmiar; rfl
@[simp] theorem writePmiar_pending (v : Word) (s : State) : (writePmiar v s).pending = s.pending := by
  unfold writePmiar; rfl
@[simp] theorem writePmiar_spm (v : Word) (s : State) : (writePmiar v s).spm = s.spm := by
  unfold writePmiar; rfl
@[simp] theorem writePmiar_mdcrEl2 (v : Word) (s : State) : (writePmiar v s).mdcrEl2 = s.mdcrEl2 := by
  unfold writePmiar; rfl
@[simp] theorem writePmiar_mdcrEl3 (v : Word) (s : State) : (writePmiar v s).mdcrEl3 = s.mdcrEl3 := by
  unfold writePmiar; rfl
@[simp] theorem writePmiar_mem (v : Word) (s : State) : (writePmiar v s).mem = s.mem := by
  unfold writePmiar; rfl
@[simp] theorem writePmiar_freeCtr (v : Word) (s : State) : (writePmiar v s).freeCtr = s.freeCtr + 1 := by
  unfold writePmiar; rfl

@[simp] theorem writeEvtyper_cfg (n : Nat) (v : Word) (s : State) : (writeEvtyper n v s).cfg = s.cfg := by
  unfold writeEvtyper; rfl
@[simp] theorem writeEvtyper_inp (n : Nat) (v : Word) (s : State) : (writeEvtyper n v s).inp = s.inp := by
  unfold writeEvtyper; rfl
@[simp] theorem writeEvtyper_choices (n : Nat) (v : Word) (s : State) : (writeEvtyper n v s).choices = s.choices := by
  unfold writeEvtyper; rfl
@[simp] theorem writeEvtyper_x (n : Nat) (v : Word) (s : State) : (writeEvtyper n v s).x = s.x := by
  unfold writeEvtyper; rfl
@[simp] theorem writeEvtyper_pc (n : Nat) (v : Word) (s : State) : (writeEvtyper n v s).pc = s.pc := by
  unfold writeEvtyper; rfl
@[simp] theorem writeEvtyper_program (n : Nat) (v : Word) (s : State) : (writeEvtyper n v s).program = s.program := by
  unfold writeEvtyper; rfl
@[simp] theorem writeEvtyper_schedule (n : Nat) (v : Word) (s : State) : (writeEvtyper n v s).schedule = s.schedule := by
  unfold writeEvtyper; rfl
@[simp] theorem writeEvtyper_pending (n : Nat) (v : Word) (s : State) : (writeEvtyper n v s).pending = s.pending := by
  unfold writeEvtyper; rfl
@[simp] theorem writeEvtyper_spm (n : Nat) (v : Word) (s : State) : (writeEvtyper n v s).spm = s.spm := by
  unfold writeEvtyper; rfl
@[simp] theorem writeEvtyper_mdcrEl2 (n : Nat) (v : Word) (s : State) : (writeEvtyper n v s).mdcrEl2 = s.mdcrEl2 := by
  unfold writeEvtyper; rfl
@[simp] theorem writeEvtyper_mdcrEl3 (n : Nat) (v : Word) (s : State) : (writeEvtyper n v s).mdcrEl3 = s.mdcrEl3 := by
  unfold writeEvtyper; rfl
@[simp] theorem writeEvtyper_mem (n : Nat) (v : Word) (s : State) : (writeEvtyper n v s).mem = s.mem := by
  unfold writeEvtyper; rfl
@[simp] theorem writeEvtyper_freeCtr (n : Nat) (v : Word) (s : State) : (writeEvtyper n v s).freeCtr = s.freeCtr + 1 := by
  unfold writeEvtyper; rfl

@[simp] theorem redrawEdges_cfg (old s : State) : (redrawEdges old s).cfg = s.cfg := by
  unfold redrawEdges; rfl
@[simp] theorem redrawEdges_inp (old s : State) : (redrawEdges old s).inp = s.inp := by
  unfold redrawEdges; rfl
@[simp] theorem redrawEdges_choices (old s : State) : (redrawEdges old s).choices = s.choices := by
  unfold redrawEdges; rfl
@[simp] theorem redrawEdges_x (old s : State) : (redrawEdges old s).x = s.x := by
  unfold redrawEdges; rfl
@[simp] theorem redrawEdges_pc (old s : State) : (redrawEdges old s).pc = s.pc := by
  unfold redrawEdges; rfl
@[simp] theorem redrawEdges_program (old s : State) : (redrawEdges old s).program = s.program := by
  unfold redrawEdges; rfl
@[simp] theorem redrawEdges_schedule (old s : State) : (redrawEdges old s).schedule = s.schedule := by
  unfold redrawEdges; rfl
@[simp] theorem redrawEdges_pending (old s : State) : (redrawEdges old s).pending = s.pending := by
  unfold redrawEdges; rfl
@[simp] theorem redrawEdges_spm (old s : State) : (redrawEdges old s).spm = s.spm := by
  unfold redrawEdges; rfl
@[simp] theorem redrawEdges_mdcrEl2 (old s : State) : (redrawEdges old s).mdcrEl2 = s.mdcrEl2 := by
  unfold redrawEdges; rfl
@[simp] theorem redrawEdges_mdcrEl3 (old s : State) : (redrawEdges old s).mdcrEl3 = s.mdcrEl3 := by
  unfold redrawEdges; rfl
@[simp] theorem redrawEdges_mem (old s : State) : (redrawEdges old s).mem = s.mem := by
  unfold redrawEdges; rfl
@[simp] theorem redrawEdges_freeCtr (old s : State) : (redrawEdges old s).freeCtr = s.freeCtr + 1 := by
  unfold redrawEdges; rfl

@[simp] theorem writePmcr_cfg (v : Word) (s : State) : (writePmcr v s).cfg = s.cfg := by
  unfold writePmcr redrawEdges; rfl
@[simp] theorem writePmcr_inp (v : Word) (s : State) : (writePmcr v s).inp = s.inp := by
  unfold writePmcr redrawEdges; rfl
@[simp] theorem writePmcr_choices (v : Word) (s : State) : (writePmcr v s).choices = s.choices := by
  unfold writePmcr redrawEdges; rfl
@[simp] theorem writePmcr_x (v : Word) (s : State) : (writePmcr v s).x = s.x := by
  unfold writePmcr redrawEdges; rfl
@[simp] theorem writePmcr_pc (v : Word) (s : State) : (writePmcr v s).pc = s.pc := by
  unfold writePmcr redrawEdges; rfl
@[simp] theorem writePmcr_program (v : Word) (s : State) : (writePmcr v s).program = s.program := by
  unfold writePmcr redrawEdges; rfl
@[simp] theorem writePmcr_schedule (v : Word) (s : State) : (writePmcr v s).schedule = s.schedule := by
  unfold writePmcr redrawEdges; rfl
@[simp] theorem writePmcr_pending (v : Word) (s : State) : (writePmcr v s).pending = s.pending := by
  unfold writePmcr redrawEdges; rfl
@[simp] theorem writePmcr_spm (v : Word) (s : State) : (writePmcr v s).spm = s.spm := by
  unfold writePmcr redrawEdges; rfl
@[simp] theorem writePmcr_mdcrEl2 (v : Word) (s : State) : (writePmcr v s).mdcrEl2 = s.mdcrEl2 := by
  unfold writePmcr redrawEdges; rfl
@[simp] theorem writePmcr_mdcrEl3 (v : Word) (s : State) : (writePmcr v s).mdcrEl3 = s.mdcrEl3 := by
  unfold writePmcr redrawEdges; rfl
@[simp] theorem writePmcr_mem (v : Word) (s : State) : (writePmcr v s).mem = s.mem := by
  unfold writePmcr redrawEdges; rfl
@[simp] theorem writePmcr_freeCtr (v : Word) (s : State) : (writePmcr v s).freeCtr = s.freeCtr + 1 + 1 := by
  unfold writePmcr redrawEdges; rfl

@[simp] theorem addToCounters_cfg (d : Nat → Nat) (s : State) : (addToCounters d s).cfg = s.cfg := by
  unfold addToCounters; rfl
@[simp] theorem addToCounters_inp (d : Nat → Nat) (s : State) : (addToCounters d s).inp = s.inp := by
  unfold addToCounters; rfl
@[simp] theorem addToCounters_choices (d : Nat → Nat) (s : State) : (addToCounters d s).choices = s.choices := by
  unfold addToCounters; rfl
@[simp] theorem addToCounters_x (d : Nat → Nat) (s : State) : (addToCounters d s).x = s.x := by
  unfold addToCounters; rfl
@[simp] theorem addToCounters_pc (d : Nat → Nat) (s : State) : (addToCounters d s).pc = s.pc := by
  unfold addToCounters; rfl
@[simp] theorem addToCounters_program (d : Nat → Nat) (s : State) : (addToCounters d s).program = s.program := by
  unfold addToCounters; rfl
@[simp] theorem addToCounters_schedule (d : Nat → Nat) (s : State) : (addToCounters d s).schedule = s.schedule := by
  unfold addToCounters; rfl
@[simp] theorem addToCounters_pending (d : Nat → Nat) (s : State) : (addToCounters d s).pending = s.pending := by
  unfold addToCounters; rfl
@[simp] theorem addToCounters_spm (d : Nat → Nat) (s : State) : (addToCounters d s).spm = s.spm := by
  unfold addToCounters; rfl
@[simp] theorem addToCounters_mdcrEl2 (d : Nat → Nat) (s : State) : (addToCounters d s).mdcrEl2 = s.mdcrEl2 := by
  unfold addToCounters; rfl
@[simp] theorem addToCounters_mdcrEl3 (d : Nat → Nat) (s : State) : (addToCounters d s).mdcrEl3 = s.mdcrEl3 := by
  unfold addToCounters; rfl
@[simp] theorem addToCounters_mem (d : Nat → Nat) (s : State) : (addToCounters d s).mem = s.mem := by
  unfold addToCounters; rfl
@[simp] theorem addToCounters_freeCtr (d : Nat → Nat) (s : State) : (addToCounters d s).freeCtr = s.freeCtr := by
  unfold addToCounters; rfl

@[simp] theorem stepCycle_cfg (b : Bool) (s : State) : (stepCycle b s).cfg = s.cfg := by
  unfold stepCycle; rfl
@[simp] theorem stepCycle_inp (b : Bool) (s : State) : (stepCycle b s).inp = s.inp := by
  unfold stepCycle; rfl
@[simp] theorem stepCycle_choices (b : Bool) (s : State) : (stepCycle b s).choices = s.choices := by
  unfold stepCycle; rfl
@[simp] theorem stepCycle_x (b : Bool) (s : State) : (stepCycle b s).x = s.x := by
  unfold stepCycle; rfl
@[simp] theorem stepCycle_pc (b : Bool) (s : State) : (stepCycle b s).pc = s.pc := by
  unfold stepCycle; rfl
@[simp] theorem stepCycle_program (b : Bool) (s : State) : (stepCycle b s).program = s.program := by
  unfold stepCycle; rfl
@[simp] theorem stepCycle_schedule (b : Bool) (s : State) : (stepCycle b s).schedule = s.schedule := by
  unfold stepCycle; rfl
@[simp] theorem stepCycle_pending (b : Bool) (s : State) : (stepCycle b s).pending = s.pending := by
  unfold stepCycle; rfl
@[simp] theorem stepCycle_spm (b : Bool) (s : State) : (stepCycle b s).spm = s.spm := by
  unfold stepCycle; rfl
@[simp] theorem stepCycle_mdcrEl2 (b : Bool) (s : State) : (stepCycle b s).mdcrEl2 = s.mdcrEl2 := by
  unfold stepCycle; rfl
@[simp] theorem stepCycle_mdcrEl3 (b : Bool) (s : State) : (stepCycle b s).mdcrEl3 = s.mdcrEl3 := by
  unfold stepCycle; rfl
@[simp] theorem stepCycle_mem (b : Bool) (s : State) : (stepCycle b s).mem = s.mem := by
  unfold stepCycle; rfl
@[simp] theorem stepCycle_freeCtr (b : Bool) (s : State) : (stepCycle b s).freeCtr = s.freeCtr := by
  unfold stepCycle; rfl

@[simp] theorem addInstructions_cfg (k : Nat) (s : State) : (addInstructions k s).cfg = s.cfg := by
  unfold addInstructions; rfl
@[simp] theorem addInstructions_inp (k : Nat) (s : State) : (addInstructions k s).inp = s.inp := by
  unfold addInstructions; rfl
@[simp] theorem addInstructions_choices (k : Nat) (s : State) : (addInstructions k s).choices = s.choices := by
  unfold addInstructions; rfl
@[simp] theorem addInstructions_x (k : Nat) (s : State) : (addInstructions k s).x = s.x := by
  unfold addInstructions; rfl
@[simp] theorem addInstructions_pc (k : Nat) (s : State) : (addInstructions k s).pc = s.pc := by
  unfold addInstructions; rfl
@[simp] theorem addInstructions_program (k : Nat) (s : State) : (addInstructions k s).program = s.program := by
  unfold addInstructions; rfl
@[simp] theorem addInstructions_schedule (k : Nat) (s : State) : (addInstructions k s).schedule = s.schedule := by
  unfold addInstructions; rfl
@[simp] theorem addInstructions_pending (k : Nat) (s : State) : (addInstructions k s).pending = s.pending := by
  unfold addInstructions; rfl
@[simp] theorem addInstructions_spm (k : Nat) (s : State) : (addInstructions k s).spm = s.spm := by
  unfold addInstructions; rfl
@[simp] theorem addInstructions_mdcrEl2 (k : Nat) (s : State) : (addInstructions k s).mdcrEl2 = s.mdcrEl2 := by
  unfold addInstructions; rfl
@[simp] theorem addInstructions_mdcrEl3 (k : Nat) (s : State) : (addInstructions k s).mdcrEl3 = s.mdcrEl3 := by
  unfold addInstructions; rfl
@[simp] theorem addInstructions_mem (k : Nat) (s : State) : (addInstructions k s).mem = s.mem := by
  unfold addInstructions; rfl
@[simp] theorem addInstructions_freeCtr (k : Nat) (s : State) : (addInstructions k s).freeCtr = s.freeCtr := by
  unfold addInstructions; rfl

@[simp] theorem recordEdges_cfg (o : Occurrences) (s : State) : (recordEdges o s).cfg = s.cfg := by
  unfold recordEdges; rfl
@[simp] theorem recordEdges_inp (o : Occurrences) (s : State) : (recordEdges o s).inp = s.inp := by
  unfold recordEdges; rfl
@[simp] theorem recordEdges_choices (o : Occurrences) (s : State) : (recordEdges o s).choices = s.choices := by
  unfold recordEdges; rfl
@[simp] theorem recordEdges_x (o : Occurrences) (s : State) : (recordEdges o s).x = s.x := by
  unfold recordEdges; rfl
@[simp] theorem recordEdges_pc (o : Occurrences) (s : State) : (recordEdges o s).pc = s.pc := by
  unfold recordEdges; rfl
@[simp] theorem recordEdges_program (o : Occurrences) (s : State) : (recordEdges o s).program = s.program := by
  unfold recordEdges; rfl
@[simp] theorem recordEdges_schedule (o : Occurrences) (s : State) : (recordEdges o s).schedule = s.schedule := by
  unfold recordEdges; rfl
@[simp] theorem recordEdges_pending (o : Occurrences) (s : State) : (recordEdges o s).pending = s.pending := by
  unfold recordEdges; rfl
@[simp] theorem recordEdges_spm (o : Occurrences) (s : State) : (recordEdges o s).spm = s.spm := by
  unfold recordEdges; rfl
@[simp] theorem recordEdges_mdcrEl2 (o : Occurrences) (s : State) : (recordEdges o s).mdcrEl2 = s.mdcrEl2 := by
  unfold recordEdges; rfl
@[simp] theorem recordEdges_mdcrEl3 (o : Occurrences) (s : State) : (recordEdges o s).mdcrEl3 = s.mdcrEl3 := by
  unfold recordEdges; rfl
@[simp] theorem recordEdges_mem (o : Occurrences) (s : State) : (recordEdges o s).mem = s.mem := by
  unfold recordEdges; rfl
@[simp] theorem recordEdges_freeCtr (o : Occurrences) (s : State) : (recordEdges o s).freeCtr = s.freeCtr := by
  unfold recordEdges; rfl

end Sys2Proof.Machine
end

