-- ==== Sys2Proof/Laws/Ops.lean ====
section
/-! SUPPORT. What each shared operation can do, said once. -/

namespace Sys2Proof.Machine

/-! ## What the operations leave alone -/

@[simp] theorem updateUnit_cfg (n : Nat) (f : SpmuConfig → SpmUnit → SpmUnit) (s : State) :
    (updateUnit n f s).cfg = s.cfg := by
  unfold updateUnit; split <;> rfl
@[simp] theorem updateUnit_inp (n : Nat) (f : SpmuConfig → SpmUnit → SpmUnit) (s : State) :
    (updateUnit n f s).inp = s.inp := by
  unfold updateUnit; split <;> rfl
@[simp] theorem updateUnit_choices (n : Nat) (f : SpmuConfig → SpmUnit → SpmUnit) (s : State) :
    (updateUnit n f s).choices = s.choices := by
  unfold updateUnit; split <;> rfl
@[simp] theorem updateUnit_x (n : Nat) (f : SpmuConfig → SpmUnit → SpmUnit) (s : State) :
    (updateUnit n f s).x = s.x := by
  unfold updateUnit; split <;> rfl
@[simp] theorem updateUnit_pc (n : Nat) (f : SpmuConfig → SpmUnit → SpmUnit) (s : State) :
    (updateUnit n f s).pc = s.pc := by
  unfold updateUnit; split <;> rfl
@[simp] theorem updateUnit_program (n : Nat) (f : SpmuConfig → SpmUnit → SpmUnit) (s : State) :
    (updateUnit n f s).program = s.program := by
  unfold updateUnit; split <;> rfl
@[simp] theorem updateUnit_schedule (n : Nat) (f : SpmuConfig → SpmUnit → SpmUnit) (s : State) :
    (updateUnit n f s).schedule = s.schedule := by
  unfold updateUnit; split <;> rfl
@[simp] theorem updateUnit_pending (n : Nat) (f : SpmuConfig → SpmUnit → SpmUnit) (s : State) :
    (updateUnit n f s).pending = s.pending := by
  unfold updateUnit; split <;> rfl
@[simp] theorem updateUnit_mem (n : Nat) (f : SpmuConfig → SpmUnit → SpmUnit) (s : State) :
    (updateUnit n f s).mem = s.mem := by
  unfold updateUnit; split <;> rfl
@[simp] theorem updateUnit_pmu (n : Nat) (f : SpmuConfig → SpmUnit → SpmUnit) (s : State) :
    (updateUnit n f s).pmu = s.pmu := by
  unfold updateUnit; split <;> rfl
@[simp] theorem updateUnit_mdcrEl2 (n : Nat) (f : SpmuConfig → SpmUnit → SpmUnit) (s : State) :
    (updateUnit n f s).mdcrEl2 = s.mdcrEl2 := by
  unfold updateUnit; split <;> rfl
@[simp] theorem updateUnit_mdcrEl3 (n : Nat) (f : SpmuConfig → SpmUnit → SpmUnit) (s : State) :
    (updateUnit n f s).mdcrEl3 = s.mdcrEl3 := by
  unfold updateUnit; split <;> rfl
@[simp] theorem updateUnit_freeCtr (n : Nat) (f : SpmuConfig → SpmUnit → SpmUnit) (s : State) :
    (updateUnit n f s).freeCtr = s.freeCtr := by
  unfold updateUnit; split <;> rfl

@[simp] theorem updateCounter_cfg (n k : Nat) (f : SpmuConfig → SpmUnit → SpmUnit) (s : State) :
    (updateCounter n k f s).cfg = s.cfg := by
  unfold updateCounter; split <;> simp
@[simp] theorem updateCounter_inp (n k : Nat) (f : SpmuConfig → SpmUnit → SpmUnit) (s : State) :
    (updateCounter n k f s).inp = s.inp := by
  unfold updateCounter; split <;> simp
@[simp] theorem updateCounter_choices (n k : Nat) (f : SpmuConfig → SpmUnit → SpmUnit) (s : State) :
    (updateCounter n k f s).choices = s.choices := by
  unfold updateCounter; split <;> simp
@[simp] theorem updateCounter_x (n k : Nat) (f : SpmuConfig → SpmUnit → SpmUnit) (s : State) :
    (updateCounter n k f s).x = s.x := by
  unfold updateCounter; split <;> simp
@[simp] theorem updateCounter_pc (n k : Nat) (f : SpmuConfig → SpmUnit → SpmUnit) (s : State) :
    (updateCounter n k f s).pc = s.pc := by
  unfold updateCounter; split <;> simp
@[simp] theorem updateCounter_program (n k : Nat) (f : SpmuConfig → SpmUnit → SpmUnit) (s : State) :
    (updateCounter n k f s).program = s.program := by
  unfold updateCounter; split <;> simp
@[simp] theorem updateCounter_schedule (n k : Nat) (f : SpmuConfig → SpmUnit → SpmUnit) (s : State) :
    (updateCounter n k f s).schedule = s.schedule := by
  unfold updateCounter; split <;> simp
@[simp] theorem updateCounter_pending (n k : Nat) (f : SpmuConfig → SpmUnit → SpmUnit) (s : State) :
    (updateCounter n k f s).pending = s.pending := by
  unfold updateCounter; split <;> simp
@[simp] theorem updateCounter_mem (n k : Nat) (f : SpmuConfig → SpmUnit → SpmUnit) (s : State) :
    (updateCounter n k f s).mem = s.mem := by
  unfold updateCounter; split <;> simp
@[simp] theorem updateCounter_pmu (n k : Nat) (f : SpmuConfig → SpmUnit → SpmUnit) (s : State) :
    (updateCounter n k f s).pmu = s.pmu := by
  unfold updateCounter; split <;> simp
@[simp] theorem updateCounter_mdcrEl2 (n k : Nat) (f : SpmuConfig → SpmUnit → SpmUnit) (s : State) :
    (updateCounter n k f s).mdcrEl2 = s.mdcrEl2 := by
  unfold updateCounter; split <;> simp
@[simp] theorem updateCounter_mdcrEl3 (n k : Nat) (f : SpmuConfig → SpmUnit → SpmUnit) (s : State) :
    (updateCounter n k f s).mdcrEl3 = s.mdcrEl3 := by
  unfold updateCounter; split <;> simp
@[simp] theorem updateCounter_freeCtr (n k : Nat) (f : SpmuConfig → SpmUnit → SpmUnit) (s : State) :
    (updateCounter n k f s).freeCtr = s.freeCtr := by
  unfold updateCounter; split <;> simp

@[simp] theorem writePmsscr_cfg (v : Word) (s : State) : (writePmsscr v s).cfg = s.cfg := by
  unfold writePmsscr; repeat (first | split | rfl)
@[simp] theorem writePmsscr_inp (v : Word) (s : State) : (writePmsscr v s).inp = s.inp := by
  unfold writePmsscr; repeat (first | split | rfl)
@[simp] theorem writePmsscr_choices (v : Word) (s : State) : (writePmsscr v s).choices = s.choices := by
  unfold writePmsscr; repeat (first | split | rfl)
@[simp] theorem writePmsscr_x (v : Word) (s : State) : (writePmsscr v s).x = s.x := by
  unfold writePmsscr; repeat (first | split | rfl)
@[simp] theorem writePmsscr_pc (v : Word) (s : State) : (writePmsscr v s).pc = s.pc := by
  unfold writePmsscr; repeat (first | split | rfl)
@[simp] theorem writePmsscr_program (v : Word) (s : State) : (writePmsscr v s).program = s.program := by
  unfold writePmsscr; repeat (first | split | rfl)
@[simp] theorem writePmsscr_schedule (v : Word) (s : State) : (writePmsscr v s).schedule = s.schedule := by
  unfold writePmsscr; repeat (first | split | rfl)
@[simp] theorem writePmsscr_pending (v : Word) (s : State) : (writePmsscr v s).pending = s.pending := by
  unfold writePmsscr; repeat (first | split | rfl)
@[simp] theorem writePmsscr_mem (v : Word) (s : State) : (writePmsscr v s).mem = s.mem := by
  unfold writePmsscr; repeat (first | split | rfl)
@[simp] theorem writePmsscr_spm (v : Word) (s : State) : (writePmsscr v s).spm = s.spm := by
  unfold writePmsscr; repeat (first | split | rfl)
@[simp] theorem writePmsscr_mdcrEl2 (v : Word) (s : State) : (writePmsscr v s).mdcrEl2 = s.mdcrEl2 := by
  unfold writePmsscr; repeat (first | split | rfl)
@[simp] theorem writePmsscr_mdcrEl3 (v : Word) (s : State) : (writePmsscr v s).mdcrEl3 = s.mdcrEl3 := by
  unfold writePmsscr; repeat (first | split | rfl)
@[simp] theorem writePmsscr_freeCtr (v : Word) (s : State) : (writePmsscr v s).freeCtr = s.freeCtr := by
  unfold writePmsscr; repeat (first | split | rfl)

@[simp] theorem writeReg_cfg (r : Reg) (v : Word) (s : State) : (writeReg r v s).cfg = s.cfg := by
  cases r <;> simp only [writeReg, withPmu_cfg, withSpm_cfg, writePmcr_cfg, redrawEdges_cfg, writePmiar_cfg, writePmsscr_cfg,
    addToCounters_cfg, zeroPmuCounters_cfg, writeEvtyper_cfg, updateUnit_cfg, updateCounter_cfg]
@[simp] theorem writeReg_inp (r : Reg) (v : Word) (s : State) : (writeReg r v s).inp = s.inp := by
  cases r <;> simp only [writeReg, withPmu_inp, withSpm_inp, writePmcr_inp, redrawEdges_inp, writePmiar_inp, writePmsscr_inp,
    addToCounters_inp, zeroPmuCounters_inp, writeEvtyper_inp, updateUnit_inp, updateCounter_inp]
@[simp] theorem writeReg_choices (r : Reg) (v : Word) (s : State) : (writeReg r v s).choices = s.choices := by
  cases r <;> simp only [writeReg, withPmu_choices, withSpm_choices, writePmcr_choices, redrawEdges_choices, writePmiar_choices, writePmsscr_choices,
    addToCounters_choices, zeroPmuCounters_choices, writeEvtyper_choices, updateUnit_choices, updateCounter_choices]
@[simp] theorem writeReg_x (r : Reg) (v : Word) (s : State) : (writeReg r v s).x = s.x := by
  cases r <;> simp only [writeReg, withPmu_x, withSpm_x, writePmcr_x, redrawEdges_x, writePmiar_x, writePmsscr_x,
    addToCounters_x, zeroPmuCounters_x, writeEvtyper_x, updateUnit_x, updateCounter_x]
@[simp] theorem writeReg_pc (r : Reg) (v : Word) (s : State) : (writeReg r v s).pc = s.pc := by
  cases r <;> simp only [writeReg, withPmu_pc, withSpm_pc, writePmcr_pc, redrawEdges_pc, writePmiar_pc, writePmsscr_pc,
    addToCounters_pc, zeroPmuCounters_pc, writeEvtyper_pc, updateUnit_pc, updateCounter_pc]
@[simp] theorem writeReg_program (r : Reg) (v : Word) (s : State) : (writeReg r v s).program = s.program := by
  cases r <;> simp only [writeReg, withPmu_program, withSpm_program, writePmcr_program, redrawEdges_program, writePmiar_program, writePmsscr_program,
    addToCounters_program, zeroPmuCounters_program, writeEvtyper_program, updateUnit_program, updateCounter_program]
@[simp] theorem writeReg_schedule (r : Reg) (v : Word) (s : State) : (writeReg r v s).schedule = s.schedule := by
  cases r <;> simp only [writeReg, withPmu_schedule, withSpm_schedule, writePmcr_schedule, redrawEdges_schedule, writePmiar_schedule, writePmsscr_schedule,
    addToCounters_schedule, zeroPmuCounters_schedule, writeEvtyper_schedule, updateUnit_schedule, updateCounter_schedule]
@[simp] theorem writeReg_pending (r : Reg) (v : Word) (s : State) : (writeReg r v s).pending = s.pending := by
  cases r <;> simp only [writeReg, withPmu_pending, withSpm_pending, writePmcr_pending, redrawEdges_pending, writePmiar_pending, writePmsscr_pending,
    addToCounters_pending, zeroPmuCounters_pending, writeEvtyper_pending, updateUnit_pending, updateCounter_pending]
@[simp] theorem writeReg_mem (r : Reg) (v : Word) (s : State) : (writeReg r v s).mem = s.mem := by
  cases r <;> simp only [writeReg, withPmu_mem, withSpm_mem, writePmcr_mem, redrawEdges_mem, writePmiar_mem, writePmsscr_mem,
    addToCounters_mem, zeroPmuCounters_mem, writeEvtyper_mem, updateUnit_mem, updateCounter_mem]

@[simp] theorem tick_cfg (c : Context) (o : Occurrences) (k : Nat) (s : State) : (tick c o k s).cfg = s.cfg := by
  unfold tick; dsimp only; split <;> simp
@[simp] theorem tick_inp (c : Context) (o : Occurrences) (k : Nat) (s : State) : (tick c o k s).inp = s.inp := by
  unfold tick; dsimp only; split <;> simp
@[simp] theorem tick_choices (c : Context) (o : Occurrences) (k : Nat) (s : State) : (tick c o k s).choices = s.choices := by
  unfold tick; dsimp only; split <;> simp
@[simp] theorem tick_x (c : Context) (o : Occurrences) (k : Nat) (s : State) : (tick c o k s).x = s.x := by
  unfold tick; dsimp only; split <;> simp
@[simp] theorem tick_pc (c : Context) (o : Occurrences) (k : Nat) (s : State) : (tick c o k s).pc = s.pc := by
  unfold tick; dsimp only; split <;> simp
@[simp] theorem tick_program (c : Context) (o : Occurrences) (k : Nat) (s : State) : (tick c o k s).program = s.program := by
  unfold tick; dsimp only; split <;> simp
@[simp] theorem tick_schedule (c : Context) (o : Occurrences) (k : Nat) (s : State) : (tick c o k s).schedule = s.schedule := by
  unfold tick; dsimp only; split <;> simp
@[simp] theorem tick_pending (c : Context) (o : Occurrences) (k : Nat) (s : State) : (tick c o k s).pending = s.pending := by
  unfold tick; dsimp only; split <;> simp
@[simp] theorem tick_mem (c : Context) (o : Occurrences) (k : Nat) (s : State) : (tick c o k s).mem = s.mem := by
  unfold tick; dsimp only; split <;> simp
@[simp] theorem tick_spm (c : Context) (o : Occurrences) (k : Nat) (s : State) : (tick c o k s).spm = s.spm := by
  unfold tick; dsimp only; split <;> simp
@[simp] theorem tick_mdcrEl2 (c : Context) (o : Occurrences) (k : Nat) (s : State) : (tick c o k s).mdcrEl2 = s.mdcrEl2 := by
  unfold tick; dsimp only; split <;> simp
@[simp] theorem tick_mdcrEl3 (c : Context) (o : Occurrences) (k : Nat) (s : State) : (tick c o k s).mdcrEl3 = s.mdcrEl3 := by
  unfold tick; dsimp only; split <;> simp
@[simp] theorem tick_freeCtr (c : Context) (o : Occurrences) (k : Nat) (s : State) : (tick c o k s).freeCtr = s.freeCtr := by
  unfold tick; dsimp only; split <;> simp

/-! ## The ends of an access -/

/-- All that the end of an `MRS` can do. -/
theorem finishRead_eq (a : Access) (t : Nat) (s : State) :
    (∃ r, a = .perform r ∧ finishRead a t s = .next ((s.drawn 1).writeX t (s.regValue r)).advance) ∨
    (a = .razWi ∧ finishRead a t s = .next (s.writeX t 0).advance) ∨
    (a = .nop ∧ finishRead a t s = .next s.advance) ∨
    (a = .nvmem ∧ finishRead a t s = .next (s.writeX t s.nvmemRead).advance) ∨
    ((a = .undefined ∨ ∃ p, a = .constrained p) ∧ finishRead a t s = .next (takeException .undefined s)) ∨
    (∃ el, a = .trap el ∧ finishRead a t s = .next (takeException (.systemAccessTrap el trapClass) s)) := by
  cases a <;> simp [finishRead]

/-- All that the end of an `MSR` can do. -/
theorem finishWrite_eq (a : Access) (t : Nat) (s : State) :
    (∃ r, a = .perform r ∧ finishWrite a t s = .next (writeReg r (s.readX t) s).advance) ∨
    ((a = .razWi ∨ a = .nop) ∧ finishWrite a t s = .next s.advance) ∨
    (a = .nvmem ∧ finishWrite a t s = .next (s.nvmemWrite (s.readX t)).advance) ∨
    ((a = .undefined ∨ ∃ p, a = .constrained p) ∧ finishWrite a t s = .next (takeException .undefined s)) ∨
    (∃ el, a = .trap el ∧ finishWrite a t s = .next (takeException (.systemAccessTrap el trapClass) s)) := by
  cases a <;> simp [finishWrite]

/-- The state after resolving a CONSTRAINED UNPREDICTABLE case: at most one value drawn. -/
theorem constrainUnpredictable_state (name : CuName) (dir : Direction) (l : Nat → State → Access) (p : CuPlace)
    (i : Nat) (s : State) :
    (constrainUnpredictable name dir l p i s).2 = s ∨ (constrainUnpredictable name dir l p i s).2 = s.drawn 1 := by
  unfold constrainUnpredictable
  split <;> try exact .inl rfl
  · split
    · exact .inl rfl
    · exact .inr rfl
  · split <;> exact .inl rfl
  · split <;> exact .inl rfl

theorem resolve_state (name : CuName) (dir : Direction) (l : Nat → State → Access) (i : Nat) (s : State) :
    (resolve name dir l i s).2 = s ∨ (resolve name dir l i s).2 = s.drawn 1 := by
  unfold resolve
  split
  · split
    · split
      · exact constrainUnpredictable_state ..
      · exact .inl rfl
    · exact constrainUnpredictable_state ..
  · exact .inl rfl

/-- A listing that decides without a CONSTRAINED UNPREDICTABLE case is its own resolution. -/
theorem resolve_of_decided (name : CuName) (dir : Direction) (l : Nat → State → Access) (i : Nat) (s : State)
    (h : ∀ p, l i s ≠ .constrained p) : resolve name dir l i s = (l i s, s) := by
  unfold resolve
  split
  · rename_i p hp; exact absurd hp (h p)
  · rfl

/-! ## Numbers of counters -/

theorem numSelfHosted_le (s : State) : s.numSelfHosted ≤ s.cfg.numCounters := by
  unfold State.numSelfHosted; split <;> omega

theorem numCounters_le (c : Config) : c.numCounters ≤ 31 := by unfold Config.numCounters; omega

theorem hpmnEff_le (s : State) : s.hpmnEff ≤ s.numSelfHosted := by
  unfold State.hpmnEff
  split
  · omega
  · split
    · split
      · omega
      · rename_i h; simp only [State.numSelfHosted, h]; simp
    · rename_i h
      simp only [State.hpmnReserved, Bool.or_eq_true, decide_eq_true_eq] at h
      omega

theorem numAccessible_le (s : State) : s.numAccessible ≤ s.numSelfHosted := by
  unfold State.numAccessible; split
  · exact hpmnEff_le s
  · omega

theorem pmiarP_le (c : Config) : pmiarP c ≤ 64 := by
  unfold pmiarP
  repeat' split
  all_goals omega

/-- What MSR PMIAR_EL1 stores: a canonical value unchanged, of any other bits [P-1:2] as written and the other bits by
the parameter (R653, D13). -/
theorem writePmiar_pmiar (v : Word) (s : State) :
    (pmiarCanonical (pmiarP s.cfg) v = true → (writePmiar v s).pmu.pmiar = v) ∧
    ∀ i < 64, bit (writePmiar v s).pmu.pmiar i = if pmiarCanonical (pmiarP s.cfg) v || decide (2 ≤ i ∧ i < pmiarP s.cfg)
      then bit v i else bit (pmiarRest s.cfg (s.unknown 0) v) i := by
  refine ⟨fun h => by simp [writePmiar, State.drawn, State.withPmu, h], fun i hi => ?_⟩
  by_cases h : pmiarCanonical (pmiarP s.cfg) v = true
  · simp [writePmiar, State.drawn, State.withPmu, h]
  · have hm : bit (onesWord (pmiarP s.cfg) &&& ~~~3) i = decide (2 ≤ i ∧ i < pmiarP s.cfg) := by
      rw [bit_and, bit_not _ _ hi, bit_onesWord _ (pmiarP_le _), show (3 : Word) = onesWord 2 from rfl, bit_onesWord 2 (by omega),
        Bool.eq_iff_iff]
      simp
      omega
    rw [show (writePmiar v s).pmu.pmiar = mergeBits (pmiarRest s.cfg (s.unknown 0) v) v _ by
      simp only [writePmiar, State.drawn, State.withPmu, h]; rfl, bit_mergeBits, hm]
    simp [h]

/-! ## Parameters held to their constraints -/

/-- An implemented System PMU has the supplied parameters, held to their constraints. -/
theorem spmuConfig_eq_some {c : Config} {n : Nat} {p : SpmuConfig} (h : c.spmuConfig n = some p) :
    (n < 32 ∧ n ≤ c.sysPmuId) ∧ ∃ q, (c.spmu[n]?).join = some q ∧ p = q.normalised (c.has .RME) := by
  unfold Config.spmuConfig at h
  split at h
  · rename_i hn
    obtain ⟨q, hq, rfl⟩ := Option.map_eq_some_iff.1 h
    exact ⟨hn, q, hq, rfl⟩
  · cases h

theorem bits_le_size (p : SpmuConfig) (k : Nat) : p.bits k ≤ p.size := Nat.min_le_right _ _

theorem size_le (p : SpmuConfig) : p.size ≤ 64 := (field p.cfgr 8 6).isLt

theorem spmcgcrCap_le (ncg : Nat) : spmcgcrCap ncg ≤ 32 := by
  unfold spmcgcrCap
  repeat' split
  all_goals omega

/-- The field N<m> of what SPMCGCR<k>_EL1 holds of `v`. -/
theorem fieldNat_spmcgcrHeld (ncg k m : Nat) (hm : m < 8) (v : Word) :
    fieldNat (spmcgcrHeld ncg k v) (8 * m) 8 = spmcgcrCount ncg k m v := by
  have hle : spmcgcrCount ncg k m v < 2 ^ 8 := by
    have := spmcgcrCap_le ncg
    unfold spmcgcrCount
    split <;> omega
  apply Nat.eq_of_testBit_eq
  intro i
  rw [testBit_fieldNat]
  by_cases hi : i < 8
  · have e1 : (8 * m + i) / 8 = m := by omega
    have e2 : (8 * m + i) % 8 = i := by omega
    rw [spmcgcrHeld, bit_maskOf 64 (Nat.le_refl _)]
    simp only [e1, e2, hi, decide_true, Bool.true_and]
    simp only [show 8 * m + i < 64 by omega, decide_true, Bool.true_and]
  · rw [Nat.testBit_lt_two_pow (lt_of_lt_of_le hle (Nat.pow_le_pow_right (by omega) (by omega)))]
    simp [hi]

/-- Without F0V, SPMDEVAFF_EL1 holds a nonzero Aff0, Aff1 or Aff2, or it is zero (R1166, R1170). -/
theorem spmdevaffValue_level (v : Word) (h : bit v 31 = false) (h0 : field (spmdevaffValue v) 0 24 = 0) :
    spmdevaffValue v = 0 := by
  by_cases hz : (spmdevaffNoLevel v && field v 32 8 == 0) = true
  · rw [spmdevaffValue, if_pos hz]
  have hb (i : Nat) (hi : i < 24) : (bit v i || (spmdevaffNoLevel v && decide (i = 23))) = false := by
    have := (field_eq_zero_iff _ 0 24).1 h0 i hi
    rw [spmdevaffValue, if_neg hz] at this
    simpa [bit_fieldIf, bit_bitIf, show i < 25 by omega] using this
  have hn : spmdevaffNoLevel v = false := by simpa using (Bool.or_eq_false_iff.1 (hb 23 (by omega))).2
  have hf : field v 0 24 = 0 := (field_eq_zero_iff v 0 24).2 fun i hi => by
    simpa using (Bool.or_eq_false_iff.1 (hb i hi)).1
  simp [spmdevaffNoLevel, h, hf] at hn

/-- Bit `i` of what PMEVTYPER<n>_EL0 holds of `v`. -/
theorem bit_evtyperStored (c : Config) (n : Nat) (v : Word) (i : Nat) : bit (c.evtyperStored n v) i =
    (bit v i && bit (c.evtyperMask n) i && !(c.tcRes0 n v && decide (61 ≤ i))) := by
  by_cases hi : i < 64
  · have h : ∀ b, bit (fieldIf 61 3 b) i = (b && decide (61 ≤ i)) := by
      intro b
      cases b
      · simpa [fieldIf] using bit_zero i
      · revert i; decide
    simp only [Config.evtyperStored, bit_and, bit_not _ _ hi, h]
  · simp [bit_of_le _ _ (Nat.le_of_not_lt hi)]

/-- Whether TC is RES0 does not depend on the bits that are not stored. -/
theorem tcRes0_stored (c : Config) (n : Nat) (v : Word) : c.tcRes0 n (c.evtyperStored n v) = c.tcRes0 n v := by
  have m60 : c.has .PMUv3_EDGE = true → bit (c.evtyperMask n) 60 = true := by
    intro h; simp [Config.evtyperMask, h, bit, bitIf]
  have m54 : c.hasTLC n = true → bit (c.evtyperMask n) 54 = true ∧ bit (c.evtyperMask n) 55 = true := by
    intro h; constructor <;> simp [Config.evtyperMask, h, bit, fieldIf]
  cases ht : c.hasTLC n
  · simp [Config.tcRes0, ht]
  · have e : field (c.evtyperStored n v) 54 2 = field v 54 2 := by
      apply BitVec.eq_of_getLsbD_eq
      intro i hi
      have hb := bit_evtyperStored c n v (54 + i)
      have : bit (c.evtyperMask n) (54 + i) = true := by
        rcases (by omega : i = 0 ∨ i = 1) with rfl | rfl
        · exact (m54 ht).1
        · exact (m54 ht).2
      have h61 : ¬61 ≤ 54 + i := by omega
      simp only [this, h61, decide_false, Bool.and_false, Bool.not_false, Bool.and_true] at hb
      simpa [field, hi, bit] using hb
    have e60 : (c.has .PMUv3_EDGE && bit (c.evtyperStored n v) 60) = (c.has .PMUv3_EDGE && bit v 60) := by
      cases h : c.has .PMUv3_EDGE
      · rfl
      · simp [bit_evtyperStored, m60 h]
    simp only [Config.tcRes0, ht, e, e60]

/-- What PMEVTYPER<n>_EL0 holds is held unchanged. -/
theorem evtyperStored_idem (c : Config) (n : Nat) (v : Word) :
    c.evtyperStored n (c.evtyperStored n v) = c.evtyperStored n v := by
  apply word_eq_of_bit
  intro i _
  simp only [bit_evtyperStored, tcRes0_stored]
  cases bit v i <;> cases bit (c.evtyperMask n) i <;> cases c.tcRes0 n v && decide (61 ≤ i) <;> rfl

/-! ## The environment -/

/-- A tick, a System PMU step, a reset and the writes of the rest of the system never change the implementation. -/
theorem envStep_cfg {e : EnvEvent} {s s' : State} (h : envStep e s = .next s') : s'.cfg = s.cfg := by
  unfold envStep at h
  split at h <;> (try split at h) <;> simp only [Host.Outcome.next.injEq, reduceCtorEq] at h <;> subst h <;>
    simp [spmuStep, reset, resetSystemPMU, resetPE, sharedWrite]
  rename_i k _
  cases k <;> simp

end Sys2Proof.Machine
end

