-- ==== Sys2Proof/Laws/Exec.lean ====
section
/-! SUPPORT. The shape of every meaning: it ends an access, on the state or on the state after one drawn value. A proof
about all instructions needs this lemma and the two of Laws/Ops.lean on the ends of an access, and no case split. -/

namespace Sys2Proof.Machine

theorem finishIndexedRead_shape (name : CuName) (l : Nat → State → Access) (i t : Nat) (s : State) :
    ∃ a s₁, (s₁ = s ∨ s₁ = s.drawn 1) ∧ finishIndexedRead name l i t s = finishRead a t s₁ :=
  ⟨_, _, resolve_state name .read l i s, rfl⟩

theorem finishIndexedWrite_shape (name : CuName) (l : Nat → State → Access) (i t : Nat) (s : State) :
    ∃ a s₁, (s₁ = s ∨ s₁ = s.drawn 1) ∧ finishIndexedWrite name l i t s = finishWrite a t s₁ :=
  ⟨_, _, resolve_state name .write l i s, rfl⟩

/-- Every instruction is an `MRS` whose end reads into `Xt`, or an `MSR` whose end writes `Xt`. -/
theorem exec_shape (i : Instr) (s : State) :
    ∃ a s₁, (s₁ = s ∨ s₁ = s.drawn 1) ∧ (exec i s = finishRead a i.rt s₁ ∨ exec i s = finishWrite a i.rt s₁) := by
  cases i with
  | mrsPmccfiltrEl0 t => exact ⟨_, s, .inl rfl, .inl rfl⟩
  | msrPmccfiltrEl0 t => exact ⟨_, s, .inl rfl, .inr rfl⟩
  | mrsPmccntrEl0 t => exact ⟨_, s, .inl rfl, .inl rfl⟩
  | msrPmccntrEl0 t => exact ⟨_, s, .inl rfl, .inr rfl⟩
  | mrsPmccntsvrEl1 t => exact ⟨_, s, .inl rfl, .inl rfl⟩
  | mrsPmceid0El0 t => exact ⟨_, s, .inl rfl, .inl rfl⟩
  | mrsPmceid1El0 t => exact ⟨_, s, .inl rfl, .inl rfl⟩
  | mrsPmcntenclrEl0 t => exact ⟨_, s, .inl rfl, .inl rfl⟩
  | msrPmcntenclrEl0 t => exact ⟨_, s, .inl rfl, .inr rfl⟩
  | mrsPmcntensetEl0 t => exact ⟨_, s, .inl rfl, .inl rfl⟩
  | msrPmcntensetEl0 t => exact ⟨_, s, .inl rfl, .inr rfl⟩
  | mrsPmcrEl0 t => exact ⟨_, s, .inl rfl, .inl rfl⟩
  | msrPmcrEl0 t => exact ⟨_, s, .inl rfl, .inr rfl⟩
  | mrsPmecrEl1 t => exact ⟨_, s, .inl rfl, .inl rfl⟩
  | msrPmecrEl1 t => exact ⟨_, s, .inl rfl, .inr rfl⟩
  | mrsPmevcntr0El0 t => exact ⟨_, _, resolve_state .pmevcntr .read listingMrsPmevcntrEl0 0 s, .inl rfl⟩
  | mrsPmevcntr1El0 t => exact ⟨_, _, resolve_state .pmevcntr .read listingMrsPmevcntrEl0 1 s, .inl rfl⟩
  | mrsPmevcntr2El0 t => exact ⟨_, _, resolve_state .pmevcntr .read listingMrsPmevcntrEl0 2 s, .inl rfl⟩
  | mrsPmevcntr3El0 t => exact ⟨_, _, resolve_state .pmevcntr .read listingMrsPmevcntrEl0 3 s, .inl rfl⟩
  | mrsPmevcntr4El0 t => exact ⟨_, _, resolve_state .pmevcntr .read listingMrsPmevcntrEl0 4 s, .inl rfl⟩
  | mrsPmevcntr5El0 t => exact ⟨_, _, resolve_state .pmevcntr .read listingMrsPmevcntrEl0 5 s, .inl rfl⟩
  | mrsPmevcntr6El0 t => exact ⟨_, _, resolve_state .pmevcntr .read listingMrsPmevcntrEl0 6 s, .inl rfl⟩
  | mrsPmevcntr7El0 t => exact ⟨_, _, resolve_state .pmevcntr .read listingMrsPmevcntrEl0 7 s, .inl rfl⟩
  | mrsPmevcntr8El0 t => exact ⟨_, _, resolve_state .pmevcntr .read listingMrsPmevcntrEl0 8 s, .inl rfl⟩
  | mrsPmevcntr9El0 t => exact ⟨_, _, resolve_state .pmevcntr .read listingMrsPmevcntrEl0 9 s, .inl rfl⟩
  | mrsPmevcntr10El0 t => exact ⟨_, _, resolve_state .pmevcntr .read listingMrsPmevcntrEl0 10 s, .inl rfl⟩
  | mrsPmevcntr11El0 t => exact ⟨_, _, resolve_state .pmevcntr .read listingMrsPmevcntrEl0 11 s, .inl rfl⟩
  | mrsPmevcntr12El0 t => exact ⟨_, _, resolve_state .pmevcntr .read listingMrsPmevcntrEl0 12 s, .inl rfl⟩
  | mrsPmevcntr13El0 t => exact ⟨_, _, resolve_state .pmevcntr .read listingMrsPmevcntrEl0 13 s, .inl rfl⟩
  | mrsPmevcntr14El0 t => exact ⟨_, _, resolve_state .pmevcntr .read listingMrsPmevcntrEl0 14 s, .inl rfl⟩
  | mrsPmevcntr15El0 t => exact ⟨_, _, resolve_state .pmevcntr .read listingMrsPmevcntrEl0 15 s, .inl rfl⟩
  | mrsPmevcntr16El0 t => exact ⟨_, _, resolve_state .pmevcntr .read listingMrsPmevcntrEl0 16 s, .inl rfl⟩
  | mrsPmevcntr17El0 t => exact ⟨_, _, resolve_state .pmevcntr .read listingMrsPmevcntrEl0 17 s, .inl rfl⟩
  | mrsPmevcntr18El0 t => exact ⟨_, _, resolve_state .pmevcntr .read listingMrsPmevcntrEl0 18 s, .inl rfl⟩
  | mrsPmevcntr19El0 t => exact ⟨_, _, resolve_state .pmevcntr .read listingMrsPmevcntrEl0 19 s, .inl rfl⟩
  | mrsPmevcntr20El0 t => exact ⟨_, _, resolve_state .pmevcntr .read listingMrsPmevcntrEl0 20 s, .inl rfl⟩
  | mrsPmevcntr21El0 t => exact ⟨_, _, resolve_state .pmevcntr .read listingMrsPmevcntrEl0 21 s, .inl rfl⟩
  | mrsPmevcntr22El0 t => exact ⟨_, _, resolve_state .pmevcntr .read listingMrsPmevcntrEl0 22 s, .inl rfl⟩
  | mrsPmevcntr23El0 t => exact ⟨_, _, resolve_state .pmevcntr .read listingMrsPmevcntrEl0 23 s, .inl rfl⟩
  | mrsPmevcntr24El0 t => exact ⟨_, _, resolve_state .pmevcntr .read listingMrsPmevcntrEl0 24 s, .inl rfl⟩
  | mrsPmevcntr25El0 t => exact ⟨_, _, resolve_state .pmevcntr .read listingMrsPmevcntrEl0 25 s, .inl rfl⟩
  | mrsPmevcntr26El0 t => exact ⟨_, _, resolve_state .pmevcntr .read listingMrsPmevcntrEl0 26 s, .inl rfl⟩
  | mrsPmevcntr27El0 t => exact ⟨_, _, resolve_state .pmevcntr .read listingMrsPmevcntrEl0 27 s, .inl rfl⟩
  | mrsPmevcntr28El0 t => exact ⟨_, _, resolve_state .pmevcntr .read listingMrsPmevcntrEl0 28 s, .inl rfl⟩
  | mrsPmevcntr29El0 t => exact ⟨_, _, resolve_state .pmevcntr .read listingMrsPmevcntrEl0 29 s, .inl rfl⟩
  | mrsPmevcntr30El0 t => exact ⟨_, _, resolve_state .pmevcntr .read listingMrsPmevcntrEl0 30 s, .inl rfl⟩
  | msrPmevcntr0El0 t => exact ⟨_, _, resolve_state .pmevcntr .write listingMsrPmevcntrEl0 0 s, .inr rfl⟩
  | msrPmevcntr1El0 t => exact ⟨_, _, resolve_state .pmevcntr .write listingMsrPmevcntrEl0 1 s, .inr rfl⟩
  | msrPmevcntr2El0 t => exact ⟨_, _, resolve_state .pmevcntr .write listingMsrPmevcntrEl0 2 s, .inr rfl⟩
  | msrPmevcntr3El0 t => exact ⟨_, _, resolve_state .pmevcntr .write listingMsrPmevcntrEl0 3 s, .inr rfl⟩
  | msrPmevcntr4El0 t => exact ⟨_, _, resolve_state .pmevcntr .write listingMsrPmevcntrEl0 4 s, .inr rfl⟩
  | msrPmevcntr5El0 t => exact ⟨_, _, resolve_state .pmevcntr .write listingMsrPmevcntrEl0 5 s, .inr rfl⟩
  | msrPmevcntr6El0 t => exact ⟨_, _, resolve_state .pmevcntr .write listingMsrPmevcntrEl0 6 s, .inr rfl⟩
  | msrPmevcntr7El0 t => exact ⟨_, _, resolve_state .pmevcntr .write listingMsrPmevcntrEl0 7 s, .inr rfl⟩
  | msrPmevcntr8El0 t => exact ⟨_, _, resolve_state .pmevcntr .write listingMsrPmevcntrEl0 8 s, .inr rfl⟩
  | msrPmevcntr9El0 t => exact ⟨_, _, resolve_state .pmevcntr .write listingMsrPmevcntrEl0 9 s, .inr rfl⟩
  | msrPmevcntr10El0 t => exact ⟨_, _, resolve_state .pmevcntr .write listingMsrPmevcntrEl0 10 s, .inr rfl⟩
  | msrPmevcntr11El0 t => exact ⟨_, _, resolve_state .pmevcntr .write listingMsrPmevcntrEl0 11 s, .inr rfl⟩
  | msrPmevcntr12El0 t => exact ⟨_, _, resolve_state .pmevcntr .write listingMsrPmevcntrEl0 12 s, .inr rfl⟩
  | msrPmevcntr13El0 t => exact ⟨_, _, resolve_state .pmevcntr .write listingMsrPmevcntrEl0 13 s, .inr rfl⟩
  | msrPmevcntr14El0 t => exact ⟨_, _, resolve_state .pmevcntr .write listingMsrPmevcntrEl0 14 s, .inr rfl⟩
  | msrPmevcntr15El0 t => exact ⟨_, _, resolve_state .pmevcntr .write listingMsrPmevcntrEl0 15 s, .inr rfl⟩
  | msrPmevcntr16El0 t => exact ⟨_, _, resolve_state .pmevcntr .write listingMsrPmevcntrEl0 16 s, .inr rfl⟩
  | msrPmevcntr17El0 t => exact ⟨_, _, resolve_state .pmevcntr .write listingMsrPmevcntrEl0 17 s, .inr rfl⟩
  | msrPmevcntr18El0 t => exact ⟨_, _, resolve_state .pmevcntr .write listingMsrPmevcntrEl0 18 s, .inr rfl⟩
  | msrPmevcntr19El0 t => exact ⟨_, _, resolve_state .pmevcntr .write listingMsrPmevcntrEl0 19 s, .inr rfl⟩
  | msrPmevcntr20El0 t => exact ⟨_, _, resolve_state .pmevcntr .write listingMsrPmevcntrEl0 20 s, .inr rfl⟩
  | msrPmevcntr21El0 t => exact ⟨_, _, resolve_state .pmevcntr .write listingMsrPmevcntrEl0 21 s, .inr rfl⟩
  | msrPmevcntr22El0 t => exact ⟨_, _, resolve_state .pmevcntr .write listingMsrPmevcntrEl0 22 s, .inr rfl⟩
  | msrPmevcntr23El0 t => exact ⟨_, _, resolve_state .pmevcntr .write listingMsrPmevcntrEl0 23 s, .inr rfl⟩
  | msrPmevcntr24El0 t => exact ⟨_, _, resolve_state .pmevcntr .write listingMsrPmevcntrEl0 24 s, .inr rfl⟩
  | msrPmevcntr25El0 t => exact ⟨_, _, resolve_state .pmevcntr .write listingMsrPmevcntrEl0 25 s, .inr rfl⟩
  | msrPmevcntr26El0 t => exact ⟨_, _, resolve_state .pmevcntr .write listingMsrPmevcntrEl0 26 s, .inr rfl⟩
  | msrPmevcntr27El0 t => exact ⟨_, _, resolve_state .pmevcntr .write listingMsrPmevcntrEl0 27 s, .inr rfl⟩
  | msrPmevcntr28El0 t => exact ⟨_, _, resolve_state .pmevcntr .write listingMsrPmevcntrEl0 28 s, .inr rfl⟩
  | msrPmevcntr29El0 t => exact ⟨_, _, resolve_state .pmevcntr .write listingMsrPmevcntrEl0 29 s, .inr rfl⟩
  | msrPmevcntr30El0 t => exact ⟨_, _, resolve_state .pmevcntr .write listingMsrPmevcntrEl0 30 s, .inr rfl⟩
  | mrsPmevcntsvr0El1 t => exact ⟨_, s, .inl rfl, .inl rfl⟩
  | mrsPmevcntsvr1El1 t => exact ⟨_, s, .inl rfl, .inl rfl⟩
  | mrsPmevcntsvr2El1 t => exact ⟨_, s, .inl rfl, .inl rfl⟩
  | mrsPmevcntsvr3El1 t => exact ⟨_, s, .inl rfl, .inl rfl⟩
  | mrsPmevcntsvr4El1 t => exact ⟨_, s, .inl rfl, .inl rfl⟩
  | mrsPmevcntsvr5El1 t => exact ⟨_, s, .inl rfl, .inl rfl⟩
  | mrsPmevcntsvr6El1 t => exact ⟨_, s, .inl rfl, .inl rfl⟩
  | mrsPmevcntsvr7El1 t => exact ⟨_, s, .inl rfl, .inl rfl⟩
  | mrsPmevcntsvr8El1 t => exact ⟨_, s, .inl rfl, .inl rfl⟩
  | mrsPmevcntsvr9El1 t => exact ⟨_, s, .inl rfl, .inl rfl⟩
  | mrsPmevcntsvr10El1 t => exact ⟨_, s, .inl rfl, .inl rfl⟩
  | mrsPmevcntsvr11El1 t => exact ⟨_, s, .inl rfl, .inl rfl⟩
  | mrsPmevcntsvr12El1 t => exact ⟨_, s, .inl rfl, .inl rfl⟩
  | mrsPmevcntsvr13El1 t => exact ⟨_, s, .inl rfl, .inl rfl⟩
  | mrsPmevcntsvr14El1 t => exact ⟨_, s, .inl rfl, .inl rfl⟩
  | mrsPmevcntsvr15El1 t => exact ⟨_, s, .inl rfl, .inl rfl⟩
  | mrsPmevcntsvr16El1 t => exact ⟨_, s, .inl rfl, .inl rfl⟩
  | mrsPmevcntsvr17El1 t => exact ⟨_, s, .inl rfl, .inl rfl⟩
  | mrsPmevcntsvr18El1 t => exact ⟨_, s, .inl rfl, .inl rfl⟩
  | mrsPmevcntsvr19El1 t => exact ⟨_, s, .inl rfl, .inl rfl⟩
  | mrsPmevcntsvr20El1 t => exact ⟨_, s, .inl rfl, .inl rfl⟩
  | mrsPmevcntsvr21El1 t => exact ⟨_, s, .inl rfl, .inl rfl⟩
  | mrsPmevcntsvr22El1 t => exact ⟨_, s, .inl rfl, .inl rfl⟩
  | mrsPmevcntsvr23El1 t => exact ⟨_, s, .inl rfl, .inl rfl⟩
  | mrsPmevcntsvr24El1 t => exact ⟨_, s, .inl rfl, .inl rfl⟩
  | mrsPmevcntsvr25El1 t => exact ⟨_, s, .inl rfl, .inl rfl⟩
  | mrsPmevcntsvr26El1 t => exact ⟨_, s, .inl rfl, .inl rfl⟩
  | mrsPmevcntsvr27El1 t => exact ⟨_, s, .inl rfl, .inl rfl⟩
  | mrsPmevcntsvr28El1 t => exact ⟨_, s, .inl rfl, .inl rfl⟩
  | mrsPmevcntsvr29El1 t => exact ⟨_, s, .inl rfl, .inl rfl⟩
  | mrsPmevcntsvr30El1 t => exact ⟨_, s, .inl rfl, .inl rfl⟩
  | mrsPmevtyper0El0 t => exact ⟨_, _, resolve_state .pmevtyper .read listingMrsPmevtyperEl0 0 s, .inl rfl⟩
  | mrsPmevtyper1El0 t => exact ⟨_, _, resolve_state .pmevtyper .read listingMrsPmevtyperEl0 1 s, .inl rfl⟩
  | mrsPmevtyper2El0 t => exact ⟨_, _, resolve_state .pmevtyper .read listingMrsPmevtyperEl0 2 s, .inl rfl⟩
  | mrsPmevtyper3El0 t => exact ⟨_, _, resolve_state .pmevtyper .read listingMrsPmevtyperEl0 3 s, .inl rfl⟩
  | mrsPmevtyper4El0 t => exact ⟨_, _, resolve_state .pmevtyper .read listingMrsPmevtyperEl0 4 s, .inl rfl⟩
  | mrsPmevtyper5El0 t => exact ⟨_, _, resolve_state .pmevtyper .read listingMrsPmevtyperEl0 5 s, .inl rfl⟩
  | mrsPmevtyper6El0 t => exact ⟨_, _, resolve_state .pmevtyper .read listingMrsPmevtyperEl0 6 s, .inl rfl⟩
  | mrsPmevtyper7El0 t => exact ⟨_, _, resolve_state .pmevtyper .read listingMrsPmevtyperEl0 7 s, .inl rfl⟩
  | mrsPmevtyper8El0 t => exact ⟨_, _, resolve_state .pmevtyper .read listingMrsPmevtyperEl0 8 s, .inl rfl⟩
  | mrsPmevtyper9El0 t => exact ⟨_, _, resolve_state .pmevtyper .read listingMrsPmevtyperEl0 9 s, .inl rfl⟩
  | mrsPmevtyper10El0 t => exact ⟨_, _, resolve_state .pmevtyper .read listingMrsPmevtyperEl0 10 s, .inl rfl⟩
  | mrsPmevtyper11El0 t => exact ⟨_, _, resolve_state .pmevtyper .read listingMrsPmevtyperEl0 11 s, .inl rfl⟩
  | mrsPmevtyper12El0 t => exact ⟨_, _, resolve_state .pmevtyper .read listingMrsPmevtyperEl0 12 s, .inl rfl⟩
  | mrsPmevtyper13El0 t => exact ⟨_, _, resolve_state .pmevtyper .read listingMrsPmevtyperEl0 13 s, .inl rfl⟩
  | mrsPmevtyper14El0 t => exact ⟨_, _, resolve_state .pmevtyper .read listingMrsPmevtyperEl0 14 s, .inl rfl⟩
  | mrsPmevtyper15El0 t => exact ⟨_, _, resolve_state .pmevtyper .read listingMrsPmevtyperEl0 15 s, .inl rfl⟩
  | mrsPmevtyper16El0 t => exact ⟨_, _, resolve_state .pmevtyper .read listingMrsPmevtyperEl0 16 s, .inl rfl⟩
  | mrsPmevtyper17El0 t => exact ⟨_, _, resolve_state .pmevtyper .read listingMrsPmevtyperEl0 17 s, .inl rfl⟩
  | mrsPmevtyper18El0 t => exact ⟨_, _, resolve_state .pmevtyper .read listingMrsPmevtyperEl0 18 s, .inl rfl⟩
  | mrsPmevtyper19El0 t => exact ⟨_, _, resolve_state .pmevtyper .read listingMrsPmevtyperEl0 19 s, .inl rfl⟩
  | mrsPmevtyper20El0 t => exact ⟨_, _, resolve_state .pmevtyper .read listingMrsPmevtyperEl0 20 s, .inl rfl⟩
  | mrsPmevtyper21El0 t => exact ⟨_, _, resolve_state .pmevtyper .read listingMrsPmevtyperEl0 21 s, .inl rfl⟩
  | mrsPmevtyper22El0 t => exact ⟨_, _, resolve_state .pmevtyper .read listingMrsPmevtyperEl0 22 s, .inl rfl⟩
  | mrsPmevtyper23El0 t => exact ⟨_, _, resolve_state .pmevtyper .read listingMrsPmevtyperEl0 23 s, .inl rfl⟩
  | mrsPmevtyper24El0 t => exact ⟨_, _, resolve_state .pmevtyper .read listingMrsPmevtyperEl0 24 s, .inl rfl⟩
  | mrsPmevtyper25El0 t => exact ⟨_, _, resolve_state .pmevtyper .read listingMrsPmevtyperEl0 25 s, .inl rfl⟩
  | mrsPmevtyper26El0 t => exact ⟨_, _, resolve_state .pmevtyper .read listingMrsPmevtyperEl0 26 s, .inl rfl⟩
  | mrsPmevtyper27El0 t => exact ⟨_, _, resolve_state .pmevtyper .read listingMrsPmevtyperEl0 27 s, .inl rfl⟩
  | mrsPmevtyper28El0 t => exact ⟨_, _, resolve_state .pmevtyper .read listingMrsPmevtyperEl0 28 s, .inl rfl⟩
  | mrsPmevtyper29El0 t => exact ⟨_, _, resolve_state .pmevtyper .read listingMrsPmevtyperEl0 29 s, .inl rfl⟩
  | mrsPmevtyper30El0 t => exact ⟨_, _, resolve_state .pmevtyper .read listingMrsPmevtyperEl0 30 s, .inl rfl⟩
  | msrPmevtyper0El0 t => exact ⟨_, _, resolve_state .pmevtyper .write listingMsrPmevtyperEl0 0 s, .inr rfl⟩
  | msrPmevtyper1El0 t => exact ⟨_, _, resolve_state .pmevtyper .write listingMsrPmevtyperEl0 1 s, .inr rfl⟩
  | msrPmevtyper2El0 t => exact ⟨_, _, resolve_state .pmevtyper .write listingMsrPmevtyperEl0 2 s, .inr rfl⟩
  | msrPmevtyper3El0 t => exact ⟨_, _, resolve_state .pmevtyper .write listingMsrPmevtyperEl0 3 s, .inr rfl⟩
  | msrPmevtyper4El0 t => exact ⟨_, _, resolve_state .pmevtyper .write listingMsrPmevtyperEl0 4 s, .inr rfl⟩
  | msrPmevtyper5El0 t => exact ⟨_, _, resolve_state .pmevtyper .write listingMsrPmevtyperEl0 5 s, .inr rfl⟩
  | msrPmevtyper6El0 t => exact ⟨_, _, resolve_state .pmevtyper .write listingMsrPmevtyperEl0 6 s, .inr rfl⟩
  | msrPmevtyper7El0 t => exact ⟨_, _, resolve_state .pmevtyper .write listingMsrPmevtyperEl0 7 s, .inr rfl⟩
  | msrPmevtyper8El0 t => exact ⟨_, _, resolve_state .pmevtyper .write listingMsrPmevtyperEl0 8 s, .inr rfl⟩
  | msrPmevtyper9El0 t => exact ⟨_, _, resolve_state .pmevtyper .write listingMsrPmevtyperEl0 9 s, .inr rfl⟩
  | msrPmevtyper10El0 t => exact ⟨_, _, resolve_state .pmevtyper .write listingMsrPmevtyperEl0 10 s, .inr rfl⟩
  | msrPmevtyper11El0 t => exact ⟨_, _, resolve_state .pmevtyper .write listingMsrPmevtyperEl0 11 s, .inr rfl⟩
  | msrPmevtyper12El0 t => exact ⟨_, _, resolve_state .pmevtyper .write listingMsrPmevtyperEl0 12 s, .inr rfl⟩
  | msrPmevtyper13El0 t => exact ⟨_, _, resolve_state .pmevtyper .write listingMsrPmevtyperEl0 13 s, .inr rfl⟩
  | msrPmevtyper14El0 t => exact ⟨_, _, resolve_state .pmevtyper .write listingMsrPmevtyperEl0 14 s, .inr rfl⟩
  | msrPmevtyper15El0 t => exact ⟨_, _, resolve_state .pmevtyper .write listingMsrPmevtyperEl0 15 s, .inr rfl⟩
  | msrPmevtyper16El0 t => exact ⟨_, _, resolve_state .pmevtyper .write listingMsrPmevtyperEl0 16 s, .inr rfl⟩
  | msrPmevtyper17El0 t => exact ⟨_, _, resolve_state .pmevtyper .write listingMsrPmevtyperEl0 17 s, .inr rfl⟩
  | msrPmevtyper18El0 t => exact ⟨_, _, resolve_state .pmevtyper .write listingMsrPmevtyperEl0 18 s, .inr rfl⟩
  | msrPmevtyper19El0 t => exact ⟨_, _, resolve_state .pmevtyper .write listingMsrPmevtyperEl0 19 s, .inr rfl⟩
  | msrPmevtyper20El0 t => exact ⟨_, _, resolve_state .pmevtyper .write listingMsrPmevtyperEl0 20 s, .inr rfl⟩
  | msrPmevtyper21El0 t => exact ⟨_, _, resolve_state .pmevtyper .write listingMsrPmevtyperEl0 21 s, .inr rfl⟩
  | msrPmevtyper22El0 t => exact ⟨_, _, resolve_state .pmevtyper .write listingMsrPmevtyperEl0 22 s, .inr rfl⟩
  | msrPmevtyper23El0 t => exact ⟨_, _, resolve_state .pmevtyper .write listingMsrPmevtyperEl0 23 s, .inr rfl⟩
  | msrPmevtyper24El0 t => exact ⟨_, _, resolve_state .pmevtyper .write listingMsrPmevtyperEl0 24 s, .inr rfl⟩
  | msrPmevtyper25El0 t => exact ⟨_, _, resolve_state .pmevtyper .write listingMsrPmevtyperEl0 25 s, .inr rfl⟩
  | msrPmevtyper26El0 t => exact ⟨_, _, resolve_state .pmevtyper .write listingMsrPmevtyperEl0 26 s, .inr rfl⟩
  | msrPmevtyper27El0 t => exact ⟨_, _, resolve_state .pmevtyper .write listingMsrPmevtyperEl0 27 s, .inr rfl⟩
  | msrPmevtyper28El0 t => exact ⟨_, _, resolve_state .pmevtyper .write listingMsrPmevtyperEl0 28 s, .inr rfl⟩
  | msrPmevtyper29El0 t => exact ⟨_, _, resolve_state .pmevtyper .write listingMsrPmevtyperEl0 29 s, .inr rfl⟩
  | msrPmevtyper30El0 t => exact ⟨_, _, resolve_state .pmevtyper .write listingMsrPmevtyperEl0 30 s, .inr rfl⟩
  | mrsPmiarEl1 t => exact ⟨_, s, .inl rfl, .inl rfl⟩
  | msrPmiarEl1 t => exact ⟨_, s, .inl rfl, .inr rfl⟩
  | mrsPmicfiltrEl0 t => exact ⟨_, s, .inl rfl, .inl rfl⟩
  | msrPmicfiltrEl0 t => exact ⟨_, s, .inl rfl, .inr rfl⟩
  | mrsPmicntrEl0 t => exact ⟨_, s, .inl rfl, .inl rfl⟩
  | msrPmicntrEl0 t => exact ⟨_, s, .inl rfl, .inr rfl⟩
  | mrsPmicntsvrEl1 t => exact ⟨_, s, .inl rfl, .inl rfl⟩
  | mrsPmintenclrEl1 t => exact ⟨_, s, .inl rfl, .inl rfl⟩
  | msrPmintenclrEl1 t => exact ⟨_, s, .inl rfl, .inr rfl⟩
  | mrsPmintensetEl1 t => exact ⟨_, s, .inl rfl, .inl rfl⟩
  | msrPmintensetEl1 t => exact ⟨_, s, .inl rfl, .inr rfl⟩
  | mrsPmmirEl1 t => exact ⟨_, s, .inl rfl, .inl rfl⟩
  | mrsPmovsclrEl0 t => exact ⟨_, s, .inl rfl, .inl rfl⟩
  | msrPmovsclrEl0 t => exact ⟨_, s, .inl rfl, .inr rfl⟩
  | mrsPmovssetEl0 t => exact ⟨_, s, .inl rfl, .inl rfl⟩
  | msrPmovssetEl0 t => exact ⟨_, s, .inl rfl, .inr rfl⟩
  | mrsPmselrEl0 t => exact ⟨_, s, .inl rfl, .inl rfl⟩
  | msrPmselrEl0 t => exact ⟨_, s, .inl rfl, .inr rfl⟩
  | mrsPmsscrEl1 t => exact ⟨_, s, .inl rfl, .inl rfl⟩
  | msrPmsscrEl1 t => exact ⟨_, s, .inl rfl, .inr rfl⟩
  | msrPmswincEl0 t => exact ⟨_, s, .inl rfl, .inr rfl⟩
  | mrsPmuacrEl1 t => exact ⟨_, s, .inl rfl, .inl rfl⟩
  | msrPmuacrEl1 t => exact ⟨_, s, .inl rfl, .inr rfl⟩
  | mrsPmuserenrEl0 t => exact ⟨_, s, .inl rfl, .inl rfl⟩
  | msrPmuserenrEl0 t => exact ⟨_, s, .inl rfl, .inr rfl⟩
  | mrsPmxevcntrEl0 t => exact ⟨_, _, resolve_state .pmxevcntr .read listingMrsPmxevcntrEl0 s.sel s, .inl rfl⟩
  | msrPmxevcntrEl0 t => exact ⟨_, _, resolve_state .pmxevcntr .write listingMsrPmxevcntrEl0 s.sel s, .inr rfl⟩
  | mrsPmxevtyperEl0 t => exact ⟨_, _, resolve_state .pmxevtyper .read listingMrsPmxevtyperEl0 s.sel s, .inl rfl⟩
  | msrPmxevtyperEl0 t => exact ⟨_, _, resolve_state .pmxevtyper .write listingMsrPmxevtyperEl0 s.sel s, .inr rfl⟩
  | msrPmzrEl0 t => exact ⟨_, s, .inl rfl, .inr rfl⟩
  | mrsSpmaccessrEl1 t => exact ⟨_, s, .inl rfl, .inl rfl⟩
  | msrSpmaccessrEl1 t => exact ⟨_, s, .inl rfl, .inr rfl⟩
  | mrsSpmaccessrEl12 t => exact ⟨_, s, .inl rfl, .inl rfl⟩
  | msrSpmaccessrEl12 t => exact ⟨_, s, .inl rfl, .inr rfl⟩
  | mrsSpmaccessrEl2 t => exact ⟨_, s, .inl rfl, .inl rfl⟩
  | msrSpmaccessrEl2 t => exact ⟨_, s, .inl rfl, .inr rfl⟩
  | mrsSpmaccessrEl3 t => exact ⟨_, s, .inl rfl, .inl rfl⟩
  | msrSpmaccessrEl3 t => exact ⟨_, s, .inl rfl, .inr rfl⟩
  | mrsSpmcfgrEl1 t => exact ⟨_, s, .inl rfl, .inl rfl⟩
  | mrsSpmcgcr0El1 t => exact ⟨_, s, .inl rfl, .inl rfl⟩
  | mrsSpmcgcr1El1 t => exact ⟨_, s, .inl rfl, .inl rfl⟩
  | mrsSpmcntenclrEl0 t => exact ⟨_, s, .inl rfl, .inl rfl⟩
  | msrSpmcntenclrEl0 t => exact ⟨_, s, .inl rfl, .inr rfl⟩
  | mrsSpmcntensetEl0 t => exact ⟨_, s, .inl rfl, .inl rfl⟩
  | msrSpmcntensetEl0 t => exact ⟨_, s, .inl rfl, .inr rfl⟩
  | mrsSpmcrEl0 t => exact ⟨_, s, .inl rfl, .inl rfl⟩
  | msrSpmcrEl0 t => exact ⟨_, s, .inl rfl, .inr rfl⟩
  | mrsSpmdevaffEl1 t => exact ⟨_, s, .inl rfl, .inl rfl⟩
  | mrsSpmdevarchEl1 t => exact ⟨_, s, .inl rfl, .inl rfl⟩
  | mrsSpmevcntr0El0 t => exact ⟨_, s, .inl rfl, .inl rfl⟩
  | mrsSpmevcntr1El0 t => exact ⟨_, s, .inl rfl, .inl rfl⟩
  | mrsSpmevcntr2El0 t => exact ⟨_, s, .inl rfl, .inl rfl⟩
  | mrsSpmevcntr3El0 t => exact ⟨_, s, .inl rfl, .inl rfl⟩
  | mrsSpmevcntr4El0 t => exact ⟨_, s, .inl rfl, .inl rfl⟩
  | mrsSpmevcntr5El0 t => exact ⟨_, s, .inl rfl, .inl rfl⟩
  | mrsSpmevcntr6El0 t => exact ⟨_, s, .inl rfl, .inl rfl⟩
  | mrsSpmevcntr7El0 t => exact ⟨_, s, .inl rfl, .inl rfl⟩
  | mrsSpmevcntr8El0 t => exact ⟨_, s, .inl rfl, .inl rfl⟩
  | mrsSpmevcntr9El0 t => exact ⟨_, s, .inl rfl, .inl rfl⟩
  | mrsSpmevcntr10El0 t => exact ⟨_, s, .inl rfl, .inl rfl⟩
  | mrsSpmevcntr11El0 t => exact ⟨_, s, .inl rfl, .inl rfl⟩
  | mrsSpmevcntr12El0 t => exact ⟨_, s, .inl rfl, .inl rfl⟩
  | mrsSpmevcntr13El0 t => exact ⟨_, s, .inl rfl, .inl rfl⟩
  | mrsSpmevcntr14El0 t => exact ⟨_, s, .inl rfl, .inl rfl⟩
  | mrsSpmevcntr15El0 t => exact ⟨_, s, .inl rfl, .inl rfl⟩
  | msrSpmevcntr0El0 t => exact ⟨_, s, .inl rfl, .inr rfl⟩
  | msrSpmevcntr1El0 t => exact ⟨_, s, .inl rfl, .inr rfl⟩
  | msrSpmevcntr2El0 t => exact ⟨_, s, .inl rfl, .inr rfl⟩
  | msrSpmevcntr3El0 t => exact ⟨_, s, .inl rfl, .inr rfl⟩
  | msrSpmevcntr4El0 t => exact ⟨_, s, .inl rfl, .inr rfl⟩
  | msrSpmevcntr5El0 t => exact ⟨_, s, .inl rfl, .inr rfl⟩
  | msrSpmevcntr6El0 t => exact ⟨_, s, .inl rfl, .inr rfl⟩
  | msrSpmevcntr7El0 t => exact ⟨_, s, .inl rfl, .inr rfl⟩
  | msrSpmevcntr8El0 t => exact ⟨_, s, .inl rfl, .inr rfl⟩
  | msrSpmevcntr9El0 t => exact ⟨_, s, .inl rfl, .inr rfl⟩
  | msrSpmevcntr10El0 t => exact ⟨_, s, .inl rfl, .inr rfl⟩
  | msrSpmevcntr11El0 t => exact ⟨_, s, .inl rfl, .inr rfl⟩
  | msrSpmevcntr12El0 t => exact ⟨_, s, .inl rfl, .inr rfl⟩
  | msrSpmevcntr13El0 t => exact ⟨_, s, .inl rfl, .inr rfl⟩
  | msrSpmevcntr14El0 t => exact ⟨_, s, .inl rfl, .inr rfl⟩
  | msrSpmevcntr15El0 t => exact ⟨_, s, .inl rfl, .inr rfl⟩
  | mrsSpmevfilt2r0El0 t => exact ⟨_, s, .inl rfl, .inl rfl⟩
  | mrsSpmevfilt2r1El0 t => exact ⟨_, s, .inl rfl, .inl rfl⟩
  | mrsSpmevfilt2r2El0 t => exact ⟨_, s, .inl rfl, .inl rfl⟩
  | mrsSpmevfilt2r3El0 t => exact ⟨_, s, .inl rfl, .inl rfl⟩
  | mrsSpmevfilt2r4El0 t => exact ⟨_, s, .inl rfl, .inl rfl⟩
  | mrsSpmevfilt2r5El0 t => exact ⟨_, s, .inl rfl, .inl rfl⟩
  | mrsSpmevfilt2r6El0 t => exact ⟨_, s, .inl rfl, .inl rfl⟩
  | mrsSpmevfilt2r7El0 t => exact ⟨_, s, .inl rfl, .inl rfl⟩
  | mrsSpmevfilt2r8El0 t => exact ⟨_, s, .inl rfl, .inl rfl⟩
  | mrsSpmevfilt2r9El0 t => exact ⟨_, s, .inl rfl, .inl rfl⟩
  | mrsSpmevfilt2r10El0 t => exact ⟨_, s, .inl rfl, .inl rfl⟩
  | mrsSpmevfilt2r11El0 t => exact ⟨_, s, .inl rfl, .inl rfl⟩
  | mrsSpmevfilt2r12El0 t => exact ⟨_, s, .inl rfl, .inl rfl⟩
  | mrsSpmevfilt2r13El0 t => exact ⟨_, s, .inl rfl, .inl rfl⟩
  | mrsSpmevfilt2r14El0 t => exact ⟨_, s, .inl rfl, .inl rfl⟩
  | mrsSpmevfilt2r15El0 t => exact ⟨_, s, .inl rfl, .inl rfl⟩
  | msrSpmevfilt2r0El0 t => exact ⟨_, s, .inl rfl, .inr rfl⟩
  | msrSpmevfilt2r1El0 t => exact ⟨_, s, .inl rfl, .inr rfl⟩
  | msrSpmevfilt2r2El0 t => exact ⟨_, s, .inl rfl, .inr rfl⟩
  | msrSpmevfilt2r3El0 t => exact ⟨_, s, .inl rfl, .inr rfl⟩
  | msrSpmevfilt2r4El0 t => exact ⟨_, s, .inl rfl, .inr rfl⟩
  | msrSpmevfilt2r5El0 t => exact ⟨_, s, .inl rfl, .inr rfl⟩
  | msrSpmevfilt2r6El0 t => exact ⟨_, s, .inl rfl, .inr rfl⟩
  | msrSpmevfilt2r7El0 t => exact ⟨_, s, .inl rfl, .inr rfl⟩
  | msrSpmevfilt2r8El0 t => exact ⟨_, s, .inl rfl, .inr rfl⟩
  | msrSpmevfilt2r9El0 t => exact ⟨_, s, .inl rfl, .inr rfl⟩
  | msrSpmevfilt2r10El0 t => exact ⟨_, s, .inl rfl, .inr rfl⟩
  | msrSpmevfilt2r11El0 t => exact ⟨_, s, .inl rfl, .inr rfl⟩
  | msrSpmevfilt2r12El0 t => exact ⟨_, s, .inl rfl, .inr rfl⟩
  | msrSpmevfilt2r13El0 t => exact ⟨_, s, .inl rfl, .inr rfl⟩
  | msrSpmevfilt2r14El0 t => exact ⟨_, s, .inl rfl, .inr rfl⟩
  | msrSpmevfilt2r15El0 t => exact ⟨_, s, .inl rfl, .inr rfl⟩
  | mrsSpmevfiltr0El0 t => exact ⟨_, s, .inl rfl, .inl rfl⟩
  | mrsSpmevfiltr1El0 t => exact ⟨_, s, .inl rfl, .inl rfl⟩
  | mrsSpmevfiltr2El0 t => exact ⟨_, s, .inl rfl, .inl rfl⟩
  | mrsSpmevfiltr3El0 t => exact ⟨_, s, .inl rfl, .inl rfl⟩
  | mrsSpmevfiltr4El0 t => exact ⟨_, s, .inl rfl, .inl rfl⟩
  | mrsSpmevfiltr5El0 t => exact ⟨_, s, .inl rfl, .inl rfl⟩
  | mrsSpmevfiltr6El0 t => exact ⟨_, s, .inl rfl, .inl rfl⟩
  | mrsSpmevfiltr7El0 t => exact ⟨_, s, .inl rfl, .inl rfl⟩
  | mrsSpmevfiltr8El0 t => exact ⟨_, s, .inl rfl, .inl rfl⟩
  | mrsSpmevfiltr9El0 t => exact ⟨_, s, .inl rfl, .inl rfl⟩
  | mrsSpmevfiltr10El0 t => exact ⟨_, s, .inl rfl, .inl rfl⟩
  | mrsSpmevfiltr11El0 t => exact ⟨_, s, .inl rfl, .inl rfl⟩
  | mrsSpmevfiltr12El0 t => exact ⟨_, s, .inl rfl, .inl rfl⟩
  | mrsSpmevfiltr13El0 t => exact ⟨_, s, .inl rfl, .inl rfl⟩
  | mrsSpmevfiltr14El0 t => exact ⟨_, s, .inl rfl, .inl rfl⟩
  | mrsSpmevfiltr15El0 t => exact ⟨_, s, .inl rfl, .inl rfl⟩
  | msrSpmevfiltr0El0 t => exact ⟨_, s, .inl rfl, .inr rfl⟩
  | msrSpmevfiltr1El0 t => exact ⟨_, s, .inl rfl, .inr rfl⟩
  | msrSpmevfiltr2El0 t => exact ⟨_, s, .inl rfl, .inr rfl⟩
  | msrSpmevfiltr3El0 t => exact ⟨_, s, .inl rfl, .inr rfl⟩
  | msrSpmevfiltr4El0 t => exact ⟨_, s, .inl rfl, .inr rfl⟩
  | msrSpmevfiltr5El0 t => exact ⟨_, s, .inl rfl, .inr rfl⟩
  | msrSpmevfiltr6El0 t => exact ⟨_, s, .inl rfl, .inr rfl⟩
  | msrSpmevfiltr7El0 t => exact ⟨_, s, .inl rfl, .inr rfl⟩
  | msrSpmevfiltr8El0 t => exact ⟨_, s, .inl rfl, .inr rfl⟩
  | msrSpmevfiltr9El0 t => exact ⟨_, s, .inl rfl, .inr rfl⟩
  | msrSpmevfiltr10El0 t => exact ⟨_, s, .inl rfl, .inr rfl⟩
  | msrSpmevfiltr11El0 t => exact ⟨_, s, .inl rfl, .inr rfl⟩
  | msrSpmevfiltr12El0 t => exact ⟨_, s, .inl rfl, .inr rfl⟩
  | msrSpmevfiltr13El0 t => exact ⟨_, s, .inl rfl, .inr rfl⟩
  | msrSpmevfiltr14El0 t => exact ⟨_, s, .inl rfl, .inr rfl⟩
  | msrSpmevfiltr15El0 t => exact ⟨_, s, .inl rfl, .inr rfl⟩
  | mrsSpmevtyper0El0 t => exact ⟨_, s, .inl rfl, .inl rfl⟩
  | mrsSpmevtyper1El0 t => exact ⟨_, s, .inl rfl, .inl rfl⟩
  | mrsSpmevtyper2El0 t => exact ⟨_, s, .inl rfl, .inl rfl⟩
  | mrsSpmevtyper3El0 t => exact ⟨_, s, .inl rfl, .inl rfl⟩
  | mrsSpmevtyper4El0 t => exact ⟨_, s, .inl rfl, .inl rfl⟩
  | mrsSpmevtyper5El0 t => exact ⟨_, s, .inl rfl, .inl rfl⟩
  | mrsSpmevtyper6El0 t => exact ⟨_, s, .inl rfl, .inl rfl⟩
  | mrsSpmevtyper7El0 t => exact ⟨_, s, .inl rfl, .inl rfl⟩
  | mrsSpmevtyper8El0 t => exact ⟨_, s, .inl rfl, .inl rfl⟩
  | mrsSpmevtyper9El0 t => exact ⟨_, s, .inl rfl, .inl rfl⟩
  | mrsSpmevtyper10El0 t => exact ⟨_, s, .inl rfl, .inl rfl⟩
  | mrsSpmevtyper11El0 t => exact ⟨_, s, .inl rfl, .inl rfl⟩
  | mrsSpmevtyper12El0 t => exact ⟨_, s, .inl rfl, .inl rfl⟩
  | mrsSpmevtyper13El0 t => exact ⟨_, s, .inl rfl, .inl rfl⟩
  | mrsSpmevtyper14El0 t => exact ⟨_, s, .inl rfl, .inl rfl⟩
  | mrsSpmevtyper15El0 t => exact ⟨_, s, .inl rfl, .inl rfl⟩
  | msrSpmevtyper0El0 t => exact ⟨_, s, .inl rfl, .inr rfl⟩
  | msrSpmevtyper1El0 t => exact ⟨_, s, .inl rfl, .inr rfl⟩
  | msrSpmevtyper2El0 t => exact ⟨_, s, .inl rfl, .inr rfl⟩
  | msrSpmevtyper3El0 t => exact ⟨_, s, .inl rfl, .inr rfl⟩
  | msrSpmevtyper4El0 t => exact ⟨_, s, .inl rfl, .inr rfl⟩
  | msrSpmevtyper5El0 t => exact ⟨_, s, .inl rfl, .inr rfl⟩
  | msrSpmevtyper6El0 t => exact ⟨_, s, .inl rfl, .inr rfl⟩
  | msrSpmevtyper7El0 t => exact ⟨_, s, .inl rfl, .inr rfl⟩
  | msrSpmevtyper8El0 t => exact ⟨_, s, .inl rfl, .inr rfl⟩
  | msrSpmevtyper9El0 t => exact ⟨_, s, .inl rfl, .inr rfl⟩
  | msrSpmevtyper10El0 t => exact ⟨_, s, .inl rfl, .inr rfl⟩
  | msrSpmevtyper11El0 t => exact ⟨_, s, .inl rfl, .inr rfl⟩
  | msrSpmevtyper12El0 t => exact ⟨_, s, .inl rfl, .inr rfl⟩
  | msrSpmevtyper13El0 t => exact ⟨_, s, .inl rfl, .inr rfl⟩
  | msrSpmevtyper14El0 t => exact ⟨_, s, .inl rfl, .inr rfl⟩
  | msrSpmevtyper15El0 t => exact ⟨_, s, .inl rfl, .inr rfl⟩
  | mrsSpmiidrEl1 t => exact ⟨_, s, .inl rfl, .inl rfl⟩
  | mrsSpmintenclrEl1 t => exact ⟨_, s, .inl rfl, .inl rfl⟩
  | msrSpmintenclrEl1 t => exact ⟨_, s, .inl rfl, .inr rfl⟩
  | mrsSpmintensetEl1 t => exact ⟨_, s, .inl rfl, .inl rfl⟩
  | msrSpmintensetEl1 t => exact ⟨_, s, .inl rfl, .inr rfl⟩
  | mrsSpmovsclrEl0 t => exact ⟨_, s, .inl rfl, .inl rfl⟩
  | msrSpmovsclrEl0 t => exact ⟨_, s, .inl rfl, .inr rfl⟩
  | mrsSpmovssetEl0 t => exact ⟨_, s, .inl rfl, .inl rfl⟩
  | msrSpmovssetEl0 t => exact ⟨_, s, .inl rfl, .inr rfl⟩
  | mrsSpmrootcrEl3 t => exact ⟨_, s, .inl rfl, .inl rfl⟩
  | msrSpmrootcrEl3 t => exact ⟨_, s, .inl rfl, .inr rfl⟩
  | mrsSpmscrEl1 t => exact ⟨_, s, .inl rfl, .inl rfl⟩
  | msrSpmscrEl1 t => exact ⟨_, s, .inl rfl, .inr rfl⟩
  | mrsSpmselrEl0 t => exact ⟨_, s, .inl rfl, .inl rfl⟩
  | msrSpmselrEl0 t => exact ⟨_, s, .inl rfl, .inr rfl⟩
  | msrSpmzrEl0 t => exact ⟨_, s, .inl rfl, .inr rfl⟩
  | mrsMdcrEl2 t => exact ⟨_, s, .inl rfl, .inl rfl⟩
  | msrMdcrEl2 t => exact ⟨_, s, .inl rfl, .inr rfl⟩
  | mrsMdcrEl3 t => exact ⟨_, s, .inl rfl, .inl rfl⟩
  | msrMdcrEl3 t => exact ⟨_, s, .inl rfl, .inr rfl⟩

/-- The next state of a write keeps everything but the registers it may write. -/
theorem finishWrite_next {a : Access} {t : Nat} {s s' : State} (h : finishWrite a t s = .next s') :
    s'.cfg = s.cfg ∧ s'.inp = s.inp ∧ s'.choices = s.choices ∧ s'.x = s.x ∧ s'.schedule = s.schedule := by
  rcases finishWrite_eq a t s with ⟨r, _, e⟩ | ⟨_, e⟩ | ⟨_, e⟩ | ⟨_, e⟩ | ⟨el, _, e⟩ <;>
    rw [e] at h <;> cases h <;> simp

/-- The next state of a read keeps everything but `Xt`. -/
theorem finishRead_next {a : Access} {t : Nat} {s s' : State} (h : finishRead a t s = .next s') :
    s'.cfg = s.cfg ∧ s'.inp = s.inp ∧ s'.choices = s.choices ∧ s'.pmu = s.pmu ∧ s'.spm = s.spm ∧
      s'.mdcrEl2 = s.mdcrEl2 ∧ s'.mdcrEl3 = s.mdcrEl3 ∧ s'.mem = s.mem ∧ s'.schedule = s.schedule := by
  rcases finishRead_eq a t s with ⟨r, _, e⟩ | ⟨_, e⟩ | ⟨_, e⟩ | ⟨_, e⟩ | ⟨_, e⟩ | ⟨el, _, e⟩ <;>
    rw [e] at h <;> cases h <;> simp

end Sys2Proof.Machine
end

