-- ==== Sys2Proof/Laws/PerInstr.lean ====
section
/-! SUPPORT. The family of lemmas about every instruction as syntax: its word has the class bits of an `MRS` or `MSR`
(register), R201. -/

namespace Sys2Proof.Laws

/-- Bits [31:22] of the word are 0b1101010100 and bit [20] (op0<1>) is 1 (R201). The key is the word without its five
low bits. -/
def KeyClass.Statement (i : Instr) : Prop := i.key &&& 0x7FE8000#27 = 0x6A88000#27

theorem keyClass_sysKey {k : BitVec 27} {i : Instr} (h : i.key = k) (d : k &&& 0x7FE8000#27 = 0x6A88000#27) :
    KeyClass.Statement i := by rw [KeyClass.Statement, h, d]

theorem KeyClass.mrsPmccfiltrEl0 (t : Nat) : KeyClass.Statement (.mrsPmccfiltrEl0 t) :=
  keyClass_sysKey (k := sysKey 1 3 3 14 15 7) rfl (by decide)
theorem KeyClass.msrPmccfiltrEl0 (t : Nat) : KeyClass.Statement (.msrPmccfiltrEl0 t) :=
  keyClass_sysKey (k := sysKey 0 3 3 14 15 7) rfl (by decide)
theorem KeyClass.mrsPmccntrEl0 (t : Nat) : KeyClass.Statement (.mrsPmccntrEl0 t) :=
  keyClass_sysKey (k := sysKey 1 3 3 9 13 0) rfl (by decide)
theorem KeyClass.msrPmccntrEl0 (t : Nat) : KeyClass.Statement (.msrPmccntrEl0 t) :=
  keyClass_sysKey (k := sysKey 0 3 3 9 13 0) rfl (by decide)
theorem KeyClass.mrsPmccntsvrEl1 (t : Nat) : KeyClass.Statement (.mrsPmccntsvrEl1 t) :=
  keyClass_sysKey (k := sysKey 1 2 0 14 11 7) rfl (by decide)
theorem KeyClass.mrsPmceid0El0 (t : Nat) : KeyClass.Statement (.mrsPmceid0El0 t) :=
  keyClass_sysKey (k := sysKey 1 3 3 9 12 6) rfl (by decide)
theorem KeyClass.mrsPmceid1El0 (t : Nat) : KeyClass.Statement (.mrsPmceid1El0 t) :=
  keyClass_sysKey (k := sysKey 1 3 3 9 12 7) rfl (by decide)
theorem KeyClass.mrsPmcntenclrEl0 (t : Nat) : KeyClass.Statement (.mrsPmcntenclrEl0 t) :=
  keyClass_sysKey (k := sysKey 1 3 3 9 12 2) rfl (by decide)
theorem KeyClass.msrPmcntenclrEl0 (t : Nat) : KeyClass.Statement (.msrPmcntenclrEl0 t) :=
  keyClass_sysKey (k := sysKey 0 3 3 9 12 2) rfl (by decide)
theorem KeyClass.mrsPmcntensetEl0 (t : Nat) : KeyClass.Statement (.mrsPmcntensetEl0 t) :=
  keyClass_sysKey (k := sysKey 1 3 3 9 12 1) rfl (by decide)
theorem KeyClass.msrPmcntensetEl0 (t : Nat) : KeyClass.Statement (.msrPmcntensetEl0 t) :=
  keyClass_sysKey (k := sysKey 0 3 3 9 12 1) rfl (by decide)
theorem KeyClass.mrsPmcrEl0 (t : Nat) : KeyClass.Statement (.mrsPmcrEl0 t) :=
  keyClass_sysKey (k := sysKey 1 3 3 9 12 0) rfl (by decide)
theorem KeyClass.msrPmcrEl0 (t : Nat) : KeyClass.Statement (.msrPmcrEl0 t) :=
  keyClass_sysKey (k := sysKey 0 3 3 9 12 0) rfl (by decide)
theorem KeyClass.mrsPmecrEl1 (t : Nat) : KeyClass.Statement (.mrsPmecrEl1 t) :=
  keyClass_sysKey (k := sysKey 1 3 0 9 14 5) rfl (by decide)
theorem KeyClass.msrPmecrEl1 (t : Nat) : KeyClass.Statement (.msrPmecrEl1 t) :=
  keyClass_sysKey (k := sysKey 0 3 0 9 14 5) rfl (by decide)
theorem KeyClass.mrsPmevcntr0El0 (t : Nat) : KeyClass.Statement (.mrsPmevcntr0El0 t) :=
  keyClass_sysKey (k := sysKey 1 3 3 14 8 0) rfl (by decide)
theorem KeyClass.mrsPmevcntr1El0 (t : Nat) : KeyClass.Statement (.mrsPmevcntr1El0 t) :=
  keyClass_sysKey (k := sysKey 1 3 3 14 8 1) rfl (by decide)
theorem KeyClass.mrsPmevcntr2El0 (t : Nat) : KeyClass.Statement (.mrsPmevcntr2El0 t) :=
  keyClass_sysKey (k := sysKey 1 3 3 14 8 2) rfl (by decide)
theorem KeyClass.mrsPmevcntr3El0 (t : Nat) : KeyClass.Statement (.mrsPmevcntr3El0 t) :=
  keyClass_sysKey (k := sysKey 1 3 3 14 8 3) rfl (by decide)
theorem KeyClass.mrsPmevcntr4El0 (t : Nat) : KeyClass.Statement (.mrsPmevcntr4El0 t) :=
  keyClass_sysKey (k := sysKey 1 3 3 14 8 4) rfl (by decide)
theorem KeyClass.mrsPmevcntr5El0 (t : Nat) : KeyClass.Statement (.mrsPmevcntr5El0 t) :=
  keyClass_sysKey (k := sysKey 1 3 3 14 8 5) rfl (by decide)
theorem KeyClass.mrsPmevcntr6El0 (t : Nat) : KeyClass.Statement (.mrsPmevcntr6El0 t) :=
  keyClass_sysKey (k := sysKey 1 3 3 14 8 6) rfl (by decide)
theorem KeyClass.mrsPmevcntr7El0 (t : Nat) : KeyClass.Statement (.mrsPmevcntr7El0 t) :=
  keyClass_sysKey (k := sysKey 1 3 3 14 8 7) rfl (by decide)
theorem KeyClass.mrsPmevcntr8El0 (t : Nat) : KeyClass.Statement (.mrsPmevcntr8El0 t) :=
  keyClass_sysKey (k := sysKey 1 3 3 14 9 0) rfl (by decide)
theorem KeyClass.mrsPmevcntr9El0 (t : Nat) : KeyClass.Statement (.mrsPmevcntr9El0 t) :=
  keyClass_sysKey (k := sysKey 1 3 3 14 9 1) rfl (by decide)
theorem KeyClass.mrsPmevcntr10El0 (t : Nat) : KeyClass.Statement (.mrsPmevcntr10El0 t) :=
  keyClass_sysKey (k := sysKey 1 3 3 14 9 2) rfl (by decide)
theorem KeyClass.mrsPmevcntr11El0 (t : Nat) : KeyClass.Statement (.mrsPmevcntr11El0 t) :=
  keyClass_sysKey (k := sysKey 1 3 3 14 9 3) rfl (by decide)
theorem KeyClass.mrsPmevcntr12El0 (t : Nat) : KeyClass.Statement (.mrsPmevcntr12El0 t) :=
  keyClass_sysKey (k := sysKey 1 3 3 14 9 4) rfl (by decide)
theorem KeyClass.mrsPmevcntr13El0 (t : Nat) : KeyClass.Statement (.mrsPmevcntr13El0 t) :=
  keyClass_sysKey (k := sysKey 1 3 3 14 9 5) rfl (by decide)
theorem KeyClass.mrsPmevcntr14El0 (t : Nat) : KeyClass.Statement (.mrsPmevcntr14El0 t) :=
  keyClass_sysKey (k := sysKey 1 3 3 14 9 6) rfl (by decide)
theorem KeyClass.mrsPmevcntr15El0 (t : Nat) : KeyClass.Statement (.mrsPmevcntr15El0 t) :=
  keyClass_sysKey (k := sysKey 1 3 3 14 9 7) rfl (by decide)
theorem KeyClass.mrsPmevcntr16El0 (t : Nat) : KeyClass.Statement (.mrsPmevcntr16El0 t) :=
  keyClass_sysKey (k := sysKey 1 3 3 14 10 0) rfl (by decide)
theorem KeyClass.mrsPmevcntr17El0 (t : Nat) : KeyClass.Statement (.mrsPmevcntr17El0 t) :=
  keyClass_sysKey (k := sysKey 1 3 3 14 10 1) rfl (by decide)
theorem KeyClass.mrsPmevcntr18El0 (t : Nat) : KeyClass.Statement (.mrsPmevcntr18El0 t) :=
  keyClass_sysKey (k := sysKey 1 3 3 14 10 2) rfl (by decide)
theorem KeyClass.mrsPmevcntr19El0 (t : Nat) : KeyClass.Statement (.mrsPmevcntr19El0 t) :=
  keyClass_sysKey (k := sysKey 1 3 3 14 10 3) rfl (by decide)
theorem KeyClass.mrsPmevcntr20El0 (t : Nat) : KeyClass.Statement (.mrsPmevcntr20El0 t) :=
  keyClass_sysKey (k := sysKey 1 3 3 14 10 4) rfl (by decide)
theorem KeyClass.mrsPmevcntr21El0 (t : Nat) : KeyClass.Statement (.mrsPmevcntr21El0 t) :=
  keyClass_sysKey (k := sysKey 1 3 3 14 10 5) rfl (by decide)
theorem KeyClass.mrsPmevcntr22El0 (t : Nat) : KeyClass.Statement (.mrsPmevcntr22El0 t) :=
  keyClass_sysKey (k := sysKey 1 3 3 14 10 6) rfl (by decide)
theorem KeyClass.mrsPmevcntr23El0 (t : Nat) : KeyClass.Statement (.mrsPmevcntr23El0 t) :=
  keyClass_sysKey (k := sysKey 1 3 3 14 10 7) rfl (by decide)
theorem KeyClass.mrsPmevcntr24El0 (t : Nat) : KeyClass.Statement (.mrsPmevcntr24El0 t) :=
  keyClass_sysKey (k := sysKey 1 3 3 14 11 0) rfl (by decide)
theorem KeyClass.mrsPmevcntr25El0 (t : Nat) : KeyClass.Statement (.mrsPmevcntr25El0 t) :=
  keyClass_sysKey (k := sysKey 1 3 3 14 11 1) rfl (by decide)
theorem KeyClass.mrsPmevcntr26El0 (t : Nat) : KeyClass.Statement (.mrsPmevcntr26El0 t) :=
  keyClass_sysKey (k := sysKey 1 3 3 14 11 2) rfl (by decide)
theorem KeyClass.mrsPmevcntr27El0 (t : Nat) : KeyClass.Statement (.mrsPmevcntr27El0 t) :=
  keyClass_sysKey (k := sysKey 1 3 3 14 11 3) rfl (by decide)
theorem KeyClass.mrsPmevcntr28El0 (t : Nat) : KeyClass.Statement (.mrsPmevcntr28El0 t) :=
  keyClass_sysKey (k := sysKey 1 3 3 14 11 4) rfl (by decide)
theorem KeyClass.mrsPmevcntr29El0 (t : Nat) : KeyClass.Statement (.mrsPmevcntr29El0 t) :=
  keyClass_sysKey (k := sysKey 1 3 3 14 11 5) rfl (by decide)
theorem KeyClass.mrsPmevcntr30El0 (t : Nat) : KeyClass.Statement (.mrsPmevcntr30El0 t) :=
  keyClass_sysKey (k := sysKey 1 3 3 14 11 6) rfl (by decide)
theorem KeyClass.msrPmevcntr0El0 (t : Nat) : KeyClass.Statement (.msrPmevcntr0El0 t) :=
  keyClass_sysKey (k := sysKey 0 3 3 14 8 0) rfl (by decide)
theorem KeyClass.msrPmevcntr1El0 (t : Nat) : KeyClass.Statement (.msrPmevcntr1El0 t) :=
  keyClass_sysKey (k := sysKey 0 3 3 14 8 1) rfl (by decide)
theorem KeyClass.msrPmevcntr2El0 (t : Nat) : KeyClass.Statement (.msrPmevcntr2El0 t) :=
  keyClass_sysKey (k := sysKey 0 3 3 14 8 2) rfl (by decide)
theorem KeyClass.msrPmevcntr3El0 (t : Nat) : KeyClass.Statement (.msrPmevcntr3El0 t) :=
  keyClass_sysKey (k := sysKey 0 3 3 14 8 3) rfl (by decide)
theorem KeyClass.msrPmevcntr4El0 (t : Nat) : KeyClass.Statement (.msrPmevcntr4El0 t) :=
  keyClass_sysKey (k := sysKey 0 3 3 14 8 4) rfl (by decide)
theorem KeyClass.msrPmevcntr5El0 (t : Nat) : KeyClass.Statement (.msrPmevcntr5El0 t) :=
  keyClass_sysKey (k := sysKey 0 3 3 14 8 5) rfl (by decide)
theorem KeyClass.msrPmevcntr6El0 (t : Nat) : KeyClass.Statement (.msrPmevcntr6El0 t) :=
  keyClass_sysKey (k := sysKey 0 3 3 14 8 6) rfl (by decide)
theorem KeyClass.msrPmevcntr7El0 (t : Nat) : KeyClass.Statement (.msrPmevcntr7El0 t) :=
  keyClass_sysKey (k := sysKey 0 3 3 14 8 7) rfl (by decide)
theorem KeyClass.msrPmevcntr8El0 (t : Nat) : KeyClass.Statement (.msrPmevcntr8El0 t) :=
  keyClass_sysKey (k := sysKey 0 3 3 14 9 0) rfl (by decide)
theorem KeyClass.msrPmevcntr9El0 (t : Nat) : KeyClass.Statement (.msrPmevcntr9El0 t) :=
  keyClass_sysKey (k := sysKey 0 3 3 14 9 1) rfl (by decide)
theorem KeyClass.msrPmevcntr10El0 (t : Nat) : KeyClass.Statement (.msrPmevcntr10El0 t) :=
  keyClass_sysKey (k := sysKey 0 3 3 14 9 2) rfl (by decide)
theorem KeyClass.msrPmevcntr11El0 (t : Nat) : KeyClass.Statement (.msrPmevcntr11El0 t) :=
  keyClass_sysKey (k := sysKey 0 3 3 14 9 3) rfl (by decide)
theorem KeyClass.msrPmevcntr12El0 (t : Nat) : KeyClass.Statement (.msrPmevcntr12El0 t) :=
  keyClass_sysKey (k := sysKey 0 3 3 14 9 4) rfl (by decide)
theorem KeyClass.msrPmevcntr13El0 (t : Nat) : KeyClass.Statement (.msrPmevcntr13El0 t) :=
  keyClass_sysKey (k := sysKey 0 3 3 14 9 5) rfl (by decide)
theorem KeyClass.msrPmevcntr14El0 (t : Nat) : KeyClass.Statement (.msrPmevcntr14El0 t) :=
  keyClass_sysKey (k := sysKey 0 3 3 14 9 6) rfl (by decide)
theorem KeyClass.msrPmevcntr15El0 (t : Nat) : KeyClass.Statement (.msrPmevcntr15El0 t) :=
  keyClass_sysKey (k := sysKey 0 3 3 14 9 7) rfl (by decide)
theorem KeyClass.msrPmevcntr16El0 (t : Nat) : KeyClass.Statement (.msrPmevcntr16El0 t) :=
  keyClass_sysKey (k := sysKey 0 3 3 14 10 0) rfl (by decide)
theorem KeyClass.msrPmevcntr17El0 (t : Nat) : KeyClass.Statement (.msrPmevcntr17El0 t) :=
  keyClass_sysKey (k := sysKey 0 3 3 14 10 1) rfl (by decide)
theorem KeyClass.msrPmevcntr18El0 (t : Nat) : KeyClass.Statement (.msrPmevcntr18El0 t) :=
  keyClass_sysKey (k := sysKey 0 3 3 14 10 2) rfl (by decide)
theorem KeyClass.msrPmevcntr19El0 (t : Nat) : KeyClass.Statement (.msrPmevcntr19El0 t) :=
  keyClass_sysKey (k := sysKey 0 3 3 14 10 3) rfl (by decide)
theorem KeyClass.msrPmevcntr20El0 (t : Nat) : KeyClass.Statement (.msrPmevcntr20El0 t) :=
  keyClass_sysKey (k := sysKey 0 3 3 14 10 4) rfl (by decide)
theorem KeyClass.msrPmevcntr21El0 (t : Nat) : KeyClass.Statement (.msrPmevcntr21El0 t) :=
  keyClass_sysKey (k := sysKey 0 3 3 14 10 5) rfl (by decide)
theorem KeyClass.msrPmevcntr22El0 (t : Nat) : KeyClass.Statement (.msrPmevcntr22El0 t) :=
  keyClass_sysKey (k := sysKey 0 3 3 14 10 6) rfl (by decide)
theorem KeyClass.msrPmevcntr23El0 (t : Nat) : KeyClass.Statement (.msrPmevcntr23El0 t) :=
  keyClass_sysKey (k := sysKey 0 3 3 14 10 7) rfl (by decide)
theorem KeyClass.msrPmevcntr24El0 (t : Nat) : KeyClass.Statement (.msrPmevcntr24El0 t) :=
  keyClass_sysKey (k := sysKey 0 3 3 14 11 0) rfl (by decide)
theorem KeyClass.msrPmevcntr25El0 (t : Nat) : KeyClass.Statement (.msrPmevcntr25El0 t) :=
  keyClass_sysKey (k := sysKey 0 3 3 14 11 1) rfl (by decide)
theorem KeyClass.msrPmevcntr26El0 (t : Nat) : KeyClass.Statement (.msrPmevcntr26El0 t) :=
  keyClass_sysKey (k := sysKey 0 3 3 14 11 2) rfl (by decide)
theorem KeyClass.msrPmevcntr27El0 (t : Nat) : KeyClass.Statement (.msrPmevcntr27El0 t) :=
  keyClass_sysKey (k := sysKey 0 3 3 14 11 3) rfl (by decide)
theorem KeyClass.msrPmevcntr28El0 (t : Nat) : KeyClass.Statement (.msrPmevcntr28El0 t) :=
  keyClass_sysKey (k := sysKey 0 3 3 14 11 4) rfl (by decide)
theorem KeyClass.msrPmevcntr29El0 (t : Nat) : KeyClass.Statement (.msrPmevcntr29El0 t) :=
  keyClass_sysKey (k := sysKey 0 3 3 14 11 5) rfl (by decide)
theorem KeyClass.msrPmevcntr30El0 (t : Nat) : KeyClass.Statement (.msrPmevcntr30El0 t) :=
  keyClass_sysKey (k := sysKey 0 3 3 14 11 6) rfl (by decide)
theorem KeyClass.mrsPmevcntsvr0El1 (t : Nat) : KeyClass.Statement (.mrsPmevcntsvr0El1 t) :=
  keyClass_sysKey (k := sysKey 1 2 0 14 8 0) rfl (by decide)
theorem KeyClass.mrsPmevcntsvr1El1 (t : Nat) : KeyClass.Statement (.mrsPmevcntsvr1El1 t) :=
  keyClass_sysKey (k := sysKey 1 2 0 14 8 1) rfl (by decide)
theorem KeyClass.mrsPmevcntsvr2El1 (t : Nat) : KeyClass.Statement (.mrsPmevcntsvr2El1 t) :=
  keyClass_sysKey (k := sysKey 1 2 0 14 8 2) rfl (by decide)
theorem KeyClass.mrsPmevcntsvr3El1 (t : Nat) : KeyClass.Statement (.mrsPmevcntsvr3El1 t) :=
  keyClass_sysKey (k := sysKey 1 2 0 14 8 3) rfl (by decide)
theorem KeyClass.mrsPmevcntsvr4El1 (t : Nat) : KeyClass.Statement (.mrsPmevcntsvr4El1 t) :=
  keyClass_sysKey (k := sysKey 1 2 0 14 8 4) rfl (by decide)
theorem KeyClass.mrsPmevcntsvr5El1 (t : Nat) : KeyClass.Statement (.mrsPmevcntsvr5El1 t) :=
  keyClass_sysKey (k := sysKey 1 2 0 14 8 5) rfl (by decide)
theorem KeyClass.mrsPmevcntsvr6El1 (t : Nat) : KeyClass.Statement (.mrsPmevcntsvr6El1 t) :=
  keyClass_sysKey (k := sysKey 1 2 0 14 8 6) rfl (by decide)
theorem KeyClass.mrsPmevcntsvr7El1 (t : Nat) : KeyClass.Statement (.mrsPmevcntsvr7El1 t) :=
  keyClass_sysKey (k := sysKey 1 2 0 14 8 7) rfl (by decide)
theorem KeyClass.mrsPmevcntsvr8El1 (t : Nat) : KeyClass.Statement (.mrsPmevcntsvr8El1 t) :=
  keyClass_sysKey (k := sysKey 1 2 0 14 9 0) rfl (by decide)
theorem KeyClass.mrsPmevcntsvr9El1 (t : Nat) : KeyClass.Statement (.mrsPmevcntsvr9El1 t) :=
  keyClass_sysKey (k := sysKey 1 2 0 14 9 1) rfl (by decide)
theorem KeyClass.mrsPmevcntsvr10El1 (t : Nat) : KeyClass.Statement (.mrsPmevcntsvr10El1 t) :=
  keyClass_sysKey (k := sysKey 1 2 0 14 9 2) rfl (by decide)
theorem KeyClass.mrsPmevcntsvr11El1 (t : Nat) : KeyClass.Statement (.mrsPmevcntsvr11El1 t) :=
  keyClass_sysKey (k := sysKey 1 2 0 14 9 3) rfl (by decide)
theorem KeyClass.mrsPmevcntsvr12El1 (t : Nat) : KeyClass.Statement (.mrsPmevcntsvr12El1 t) :=
  keyClass_sysKey (k := sysKey 1 2 0 14 9 4) rfl (by decide)
theorem KeyClass.mrsPmevcntsvr13El1 (t : Nat) : KeyClass.Statement (.mrsPmevcntsvr13El1 t) :=
  keyClass_sysKey (k := sysKey 1 2 0 14 9 5) rfl (by decide)
theorem KeyClass.mrsPmevcntsvr14El1 (t : Nat) : KeyClass.Statement (.mrsPmevcntsvr14El1 t) :=
  keyClass_sysKey (k := sysKey 1 2 0 14 9 6) rfl (by decide)
theorem KeyClass.mrsPmevcntsvr15El1 (t : Nat) : KeyClass.Statement (.mrsPmevcntsvr15El1 t) :=
  keyClass_sysKey (k := sysKey 1 2 0 14 9 7) rfl (by decide)
theorem KeyClass.mrsPmevcntsvr16El1 (t : Nat) : KeyClass.Statement (.mrsPmevcntsvr16El1 t) :=
  keyClass_sysKey (k := sysKey 1 2 0 14 10 0) rfl (by decide)
theorem KeyClass.mrsPmevcntsvr17El1 (t : Nat) : KeyClass.Statement (.mrsPmevcntsvr17El1 t) :=
  keyClass_sysKey (k := sysKey 1 2 0 14 10 1) rfl (by decide)
theorem KeyClass.mrsPmevcntsvr18El1 (t : Nat) : KeyClass.Statement (.mrsPmevcntsvr18El1 t) :=
  keyClass_sysKey (k := sysKey 1 2 0 14 10 2) rfl (by decide)
theorem KeyClass.mrsPmevcntsvr19El1 (t : Nat) : KeyClass.Statement (.mrsPmevcntsvr19El1 t) :=
  keyClass_sysKey (k := sysKey 1 2 0 14 10 3) rfl (by decide)
theorem KeyClass.mrsPmevcntsvr20El1 (t : Nat) : KeyClass.Statement (.mrsPmevcntsvr20El1 t) :=
  keyClass_sysKey (k := sysKey 1 2 0 14 10 4) rfl (by decide)
theorem KeyClass.mrsPmevcntsvr21El1 (t : Nat) : KeyClass.Statement (.mrsPmevcntsvr21El1 t) :=
  keyClass_sysKey (k := sysKey 1 2 0 14 10 5) rfl (by decide)
theorem KeyClass.mrsPmevcntsvr22El1 (t : Nat) : KeyClass.Statement (.mrsPmevcntsvr22El1 t) :=
  keyClass_sysKey (k := sysKey 1 2 0 14 10 6) rfl (by decide)
theorem KeyClass.mrsPmevcntsvr23El1 (t : Nat) : KeyClass.Statement (.mrsPmevcntsvr23El1 t) :=
  keyClass_sysKey (k := sysKey 1 2 0 14 10 7) rfl (by decide)
theorem KeyClass.mrsPmevcntsvr24El1 (t : Nat) : KeyClass.Statement (.mrsPmevcntsvr24El1 t) :=
  keyClass_sysKey (k := sysKey 1 2 0 14 11 0) rfl (by decide)
theorem KeyClass.mrsPmevcntsvr25El1 (t : Nat) : KeyClass.Statement (.mrsPmevcntsvr25El1 t) :=
  keyClass_sysKey (k := sysKey 1 2 0 14 11 1) rfl (by decide)
theorem KeyClass.mrsPmevcntsvr26El1 (t : Nat) : KeyClass.Statement (.mrsPmevcntsvr26El1 t) :=
  keyClass_sysKey (k := sysKey 1 2 0 14 11 2) rfl (by decide)
theorem KeyClass.mrsPmevcntsvr27El1 (t : Nat) : KeyClass.Statement (.mrsPmevcntsvr27El1 t) :=
  keyClass_sysKey (k := sysKey 1 2 0 14 11 3) rfl (by decide)
theorem KeyClass.mrsPmevcntsvr28El1 (t : Nat) : KeyClass.Statement (.mrsPmevcntsvr28El1 t) :=
  keyClass_sysKey (k := sysKey 1 2 0 14 11 4) rfl (by decide)
theorem KeyClass.mrsPmevcntsvr29El1 (t : Nat) : KeyClass.Statement (.mrsPmevcntsvr29El1 t) :=
  keyClass_sysKey (k := sysKey 1 2 0 14 11 5) rfl (by decide)
theorem KeyClass.mrsPmevcntsvr30El1 (t : Nat) : KeyClass.Statement (.mrsPmevcntsvr30El1 t) :=
  keyClass_sysKey (k := sysKey 1 2 0 14 11 6) rfl (by decide)
theorem KeyClass.mrsPmevtyper0El0 (t : Nat) : KeyClass.Statement (.mrsPmevtyper0El0 t) :=
  keyClass_sysKey (k := sysKey 1 3 3 14 12 0) rfl (by decide)
theorem KeyClass.mrsPmevtyper1El0 (t : Nat) : KeyClass.Statement (.mrsPmevtyper1El0 t) :=
  keyClass_sysKey (k := sysKey 1 3 3 14 12 1) rfl (by decide)
theorem KeyClass.mrsPmevtyper2El0 (t : Nat) : KeyClass.Statement (.mrsPmevtyper2El0 t) :=
  keyClass_sysKey (k := sysKey 1 3 3 14 12 2) rfl (by decide)
theorem KeyClass.mrsPmevtyper3El0 (t : Nat) : KeyClass.Statement (.mrsPmevtyper3El0 t) :=
  keyClass_sysKey (k := sysKey 1 3 3 14 12 3) rfl (by decide)
theorem KeyClass.mrsPmevtyper4El0 (t : Nat) : KeyClass.Statement (.mrsPmevtyper4El0 t) :=
  keyClass_sysKey (k := sysKey 1 3 3 14 12 4) rfl (by decide)
theorem KeyClass.mrsPmevtyper5El0 (t : Nat) : KeyClass.Statement (.mrsPmevtyper5El0 t) :=
  keyClass_sysKey (k := sysKey 1 3 3 14 12 5) rfl (by decide)
theorem KeyClass.mrsPmevtyper6El0 (t : Nat) : KeyClass.Statement (.mrsPmevtyper6El0 t) :=
  keyClass_sysKey (k := sysKey 1 3 3 14 12 6) rfl (by decide)
theorem KeyClass.mrsPmevtyper7El0 (t : Nat) : KeyClass.Statement (.mrsPmevtyper7El0 t) :=
  keyClass_sysKey (k := sysKey 1 3 3 14 12 7) rfl (by decide)
theorem KeyClass.mrsPmevtyper8El0 (t : Nat) : KeyClass.Statement (.mrsPmevtyper8El0 t) :=
  keyClass_sysKey (k := sysKey 1 3 3 14 13 0) rfl (by decide)
theorem KeyClass.mrsPmevtyper9El0 (t : Nat) : KeyClass.Statement (.mrsPmevtyper9El0 t) :=
  keyClass_sysKey (k := sysKey 1 3 3 14 13 1) rfl (by decide)
theorem KeyClass.mrsPmevtyper10El0 (t : Nat) : KeyClass.Statement (.mrsPmevtyper10El0 t) :=
  keyClass_sysKey (k := sysKey 1 3 3 14 13 2) rfl (by decide)
theorem KeyClass.mrsPmevtyper11El0 (t : Nat) : KeyClass.Statement (.mrsPmevtyper11El0 t) :=
  keyClass_sysKey (k := sysKey 1 3 3 14 13 3) rfl (by decide)
theorem KeyClass.mrsPmevtyper12El0 (t : Nat) : KeyClass.Statement (.mrsPmevtyper12El0 t) :=
  keyClass_sysKey (k := sysKey 1 3 3 14 13 4) rfl (by decide)
theorem KeyClass.mrsPmevtyper13El0 (t : Nat) : KeyClass.Statement (.mrsPmevtyper13El0 t) :=
  keyClass_sysKey (k := sysKey 1 3 3 14 13 5) rfl (by decide)
theorem KeyClass.mrsPmevtyper14El0 (t : Nat) : KeyClass.Statement (.mrsPmevtyper14El0 t) :=
  keyClass_sysKey (k := sysKey 1 3 3 14 13 6) rfl (by decide)
theorem KeyClass.mrsPmevtyper15El0 (t : Nat) : KeyClass.Statement (.mrsPmevtyper15El0 t) :=
  keyClass_sysKey (k := sysKey 1 3 3 14 13 7) rfl (by decide)
theorem KeyClass.mrsPmevtyper16El0 (t : Nat) : KeyClass.Statement (.mrsPmevtyper16El0 t) :=
  keyClass_sysKey (k := sysKey 1 3 3 14 14 0) rfl (by decide)
theorem KeyClass.mrsPmevtyper17El0 (t : Nat) : KeyClass.Statement (.mrsPmevtyper17El0 t) :=
  keyClass_sysKey (k := sysKey 1 3 3 14 14 1) rfl (by decide)
theorem KeyClass.mrsPmevtyper18El0 (t : Nat) : KeyClass.Statement (.mrsPmevtyper18El0 t) :=
  keyClass_sysKey (k := sysKey 1 3 3 14 14 2) rfl (by decide)
theorem KeyClass.mrsPmevtyper19El0 (t : Nat) : KeyClass.Statement (.mrsPmevtyper19El0 t) :=
  keyClass_sysKey (k := sysKey 1 3 3 14 14 3) rfl (by decide)
theorem KeyClass.mrsPmevtyper20El0 (t : Nat) : KeyClass.Statement (.mrsPmevtyper20El0 t) :=
  keyClass_sysKey (k := sysKey 1 3 3 14 14 4) rfl (by decide)
theorem KeyClass.mrsPmevtyper21El0 (t : Nat) : KeyClass.Statement (.mrsPmevtyper21El0 t) :=
  keyClass_sysKey (k := sysKey 1 3 3 14 14 5) rfl (by decide)
theorem KeyClass.mrsPmevtyper22El0 (t : Nat) : KeyClass.Statement (.mrsPmevtyper22El0 t) :=
  keyClass_sysKey (k := sysKey 1 3 3 14 14 6) rfl (by decide)
theorem KeyClass.mrsPmevtyper23El0 (t : Nat) : KeyClass.Statement (.mrsPmevtyper23El0 t) :=
  keyClass_sysKey (k := sysKey 1 3 3 14 14 7) rfl (by decide)
theorem KeyClass.mrsPmevtyper24El0 (t : Nat) : KeyClass.Statement (.mrsPmevtyper24El0 t) :=
  keyClass_sysKey (k := sysKey 1 3 3 14 15 0) rfl (by decide)
theorem KeyClass.mrsPmevtyper25El0 (t : Nat) : KeyClass.Statement (.mrsPmevtyper25El0 t) :=
  keyClass_sysKey (k := sysKey 1 3 3 14 15 1) rfl (by decide)
theorem KeyClass.mrsPmevtyper26El0 (t : Nat) : KeyClass.Statement (.mrsPmevtyper26El0 t) :=
  keyClass_sysKey (k := sysKey 1 3 3 14 15 2) rfl (by decide)
theorem KeyClass.mrsPmevtyper27El0 (t : Nat) : KeyClass.Statement (.mrsPmevtyper27El0 t) :=
  keyClass_sysKey (k := sysKey 1 3 3 14 15 3) rfl (by decide)
theorem KeyClass.mrsPmevtyper28El0 (t : Nat) : KeyClass.Statement (.mrsPmevtyper28El0 t) :=
  keyClass_sysKey (k := sysKey 1 3 3 14 15 4) rfl (by decide)
theorem KeyClass.mrsPmevtyper29El0 (t : Nat) : KeyClass.Statement (.mrsPmevtyper29El0 t) :=
  keyClass_sysKey (k := sysKey 1 3 3 14 15 5) rfl (by decide)
theorem KeyClass.mrsPmevtyper30El0 (t : Nat) : KeyClass.Statement (.mrsPmevtyper30El0 t) :=
  keyClass_sysKey (k := sysKey 1 3 3 14 15 6) rfl (by decide)
theorem KeyClass.msrPmevtyper0El0 (t : Nat) : KeyClass.Statement (.msrPmevtyper0El0 t) :=
  keyClass_sysKey (k := sysKey 0 3 3 14 12 0) rfl (by decide)
theorem KeyClass.msrPmevtyper1El0 (t : Nat) : KeyClass.Statement (.msrPmevtyper1El0 t) :=
  keyClass_sysKey (k := sysKey 0 3 3 14 12 1) rfl (by decide)
theorem KeyClass.msrPmevtyper2El0 (t : Nat) : KeyClass.Statement (.msrPmevtyper2El0 t) :=
  keyClass_sysKey (k := sysKey 0 3 3 14 12 2) rfl (by decide)
theorem KeyClass.msrPmevtyper3El0 (t : Nat) : KeyClass.Statement (.msrPmevtyper3El0 t) :=
  keyClass_sysKey (k := sysKey 0 3 3 14 12 3) rfl (by decide)
theorem KeyClass.msrPmevtyper4El0 (t : Nat) : KeyClass.Statement (.msrPmevtyper4El0 t) :=
  keyClass_sysKey (k := sysKey 0 3 3 14 12 4) rfl (by decide)
theorem KeyClass.msrPmevtyper5El0 (t : Nat) : KeyClass.Statement (.msrPmevtyper5El0 t) :=
  keyClass_sysKey (k := sysKey 0 3 3 14 12 5) rfl (by decide)
theorem KeyClass.msrPmevtyper6El0 (t : Nat) : KeyClass.Statement (.msrPmevtyper6El0 t) :=
  keyClass_sysKey (k := sysKey 0 3 3 14 12 6) rfl (by decide)
theorem KeyClass.msrPmevtyper7El0 (t : Nat) : KeyClass.Statement (.msrPmevtyper7El0 t) :=
  keyClass_sysKey (k := sysKey 0 3 3 14 12 7) rfl (by decide)
theorem KeyClass.msrPmevtyper8El0 (t : Nat) : KeyClass.Statement (.msrPmevtyper8El0 t) :=
  keyClass_sysKey (k := sysKey 0 3 3 14 13 0) rfl (by decide)
theorem KeyClass.msrPmevtyper9El0 (t : Nat) : KeyClass.Statement (.msrPmevtyper9El0 t) :=
  keyClass_sysKey (k := sysKey 0 3 3 14 13 1) rfl (by decide)
theorem KeyClass.msrPmevtyper10El0 (t : Nat) : KeyClass.Statement (.msrPmevtyper10El0 t) :=
  keyClass_sysKey (k := sysKey 0 3 3 14 13 2) rfl (by decide)
theorem KeyClass.msrPmevtyper11El0 (t : Nat) : KeyClass.Statement (.msrPmevtyper11El0 t) :=
  keyClass_sysKey (k := sysKey 0 3 3 14 13 3) rfl (by decide)
theorem KeyClass.msrPmevtyper12El0 (t : Nat) : KeyClass.Statement (.msrPmevtyper12El0 t) :=
  keyClass_sysKey (k := sysKey 0 3 3 14 13 4) rfl (by decide)
theorem KeyClass.msrPmevtyper13El0 (t : Nat) : KeyClass.Statement (.msrPmevtyper13El0 t) :=
  keyClass_sysKey (k := sysKey 0 3 3 14 13 5) rfl (by decide)
theorem KeyClass.msrPmevtyper14El0 (t : Nat) : KeyClass.Statement (.msrPmevtyper14El0 t) :=
  keyClass_sysKey (k := sysKey 0 3 3 14 13 6) rfl (by decide)
theorem KeyClass.msrPmevtyper15El0 (t : Nat) : KeyClass.Statement (.msrPmevtyper15El0 t) :=
  keyClass_sysKey (k := sysKey 0 3 3 14 13 7) rfl (by decide)
theorem KeyClass.msrPmevtyper16El0 (t : Nat) : KeyClass.Statement (.msrPmevtyper16El0 t) :=
  keyClass_sysKey (k := sysKey 0 3 3 14 14 0) rfl (by decide)
theorem KeyClass.msrPmevtyper17El0 (t : Nat) : KeyClass.Statement (.msrPmevtyper17El0 t) :=
  keyClass_sysKey (k := sysKey 0 3 3 14 14 1) rfl (by decide)
theorem KeyClass.msrPmevtyper18El0 (t : Nat) : KeyClass.Statement (.msrPmevtyper18El0 t) :=
  keyClass_sysKey (k := sysKey 0 3 3 14 14 2) rfl (by decide)
theorem KeyClass.msrPmevtyper19El0 (t : Nat) : KeyClass.Statement (.msrPmevtyper19El0 t) :=
  keyClass_sysKey (k := sysKey 0 3 3 14 14 3) rfl (by decide)
theorem KeyClass.msrPmevtyper20El0 (t : Nat) : KeyClass.Statement (.msrPmevtyper20El0 t) :=
  keyClass_sysKey (k := sysKey 0 3 3 14 14 4) rfl (by decide)
theorem KeyClass.msrPmevtyper21El0 (t : Nat) : KeyClass.Statement (.msrPmevtyper21El0 t) :=
  keyClass_sysKey (k := sysKey 0 3 3 14 14 5) rfl (by decide)
theorem KeyClass.msrPmevtyper22El0 (t : Nat) : KeyClass.Statement (.msrPmevtyper22El0 t) :=
  keyClass_sysKey (k := sysKey 0 3 3 14 14 6) rfl (by decide)
theorem KeyClass.msrPmevtyper23El0 (t : Nat) : KeyClass.Statement (.msrPmevtyper23El0 t) :=
  keyClass_sysKey (k := sysKey 0 3 3 14 14 7) rfl (by decide)
theorem KeyClass.msrPmevtyper24El0 (t : Nat) : KeyClass.Statement (.msrPmevtyper24El0 t) :=
  keyClass_sysKey (k := sysKey 0 3 3 14 15 0) rfl (by decide)
theorem KeyClass.msrPmevtyper25El0 (t : Nat) : KeyClass.Statement (.msrPmevtyper25El0 t) :=
  keyClass_sysKey (k := sysKey 0 3 3 14 15 1) rfl (by decide)
theorem KeyClass.msrPmevtyper26El0 (t : Nat) : KeyClass.Statement (.msrPmevtyper26El0 t) :=
  keyClass_sysKey (k := sysKey 0 3 3 14 15 2) rfl (by decide)
theorem KeyClass.msrPmevtyper27El0 (t : Nat) : KeyClass.Statement (.msrPmevtyper27El0 t) :=
  keyClass_sysKey (k := sysKey 0 3 3 14 15 3) rfl (by decide)
theorem KeyClass.msrPmevtyper28El0 (t : Nat) : KeyClass.Statement (.msrPmevtyper28El0 t) :=
  keyClass_sysKey (k := sysKey 0 3 3 14 15 4) rfl (by decide)
theorem KeyClass.msrPmevtyper29El0 (t : Nat) : KeyClass.Statement (.msrPmevtyper29El0 t) :=
  keyClass_sysKey (k := sysKey 0 3 3 14 15 5) rfl (by decide)
theorem KeyClass.msrPmevtyper30El0 (t : Nat) : KeyClass.Statement (.msrPmevtyper30El0 t) :=
  keyClass_sysKey (k := sysKey 0 3 3 14 15 6) rfl (by decide)
theorem KeyClass.mrsPmiarEl1 (t : Nat) : KeyClass.Statement (.mrsPmiarEl1 t) :=
  keyClass_sysKey (k := sysKey 1 3 0 9 14 7) rfl (by decide)
theorem KeyClass.msrPmiarEl1 (t : Nat) : KeyClass.Statement (.msrPmiarEl1 t) :=
  keyClass_sysKey (k := sysKey 0 3 0 9 14 7) rfl (by decide)
theorem KeyClass.mrsPmicfiltrEl0 (t : Nat) : KeyClass.Statement (.mrsPmicfiltrEl0 t) :=
  keyClass_sysKey (k := sysKey 1 3 3 9 6 0) rfl (by decide)
theorem KeyClass.msrPmicfiltrEl0 (t : Nat) : KeyClass.Statement (.msrPmicfiltrEl0 t) :=
  keyClass_sysKey (k := sysKey 0 3 3 9 6 0) rfl (by decide)
theorem KeyClass.mrsPmicntrEl0 (t : Nat) : KeyClass.Statement (.mrsPmicntrEl0 t) :=
  keyClass_sysKey (k := sysKey 1 3 3 9 4 0) rfl (by decide)
theorem KeyClass.msrPmicntrEl0 (t : Nat) : KeyClass.Statement (.msrPmicntrEl0 t) :=
  keyClass_sysKey (k := sysKey 0 3 3 9 4 0) rfl (by decide)
theorem KeyClass.mrsPmicntsvrEl1 (t : Nat) : KeyClass.Statement (.mrsPmicntsvrEl1 t) :=
  keyClass_sysKey (k := sysKey 1 2 0 14 12 0) rfl (by decide)
theorem KeyClass.mrsPmintenclrEl1 (t : Nat) : KeyClass.Statement (.mrsPmintenclrEl1 t) :=
  keyClass_sysKey (k := sysKey 1 3 0 9 14 2) rfl (by decide)
theorem KeyClass.msrPmintenclrEl1 (t : Nat) : KeyClass.Statement (.msrPmintenclrEl1 t) :=
  keyClass_sysKey (k := sysKey 0 3 0 9 14 2) rfl (by decide)
theorem KeyClass.mrsPmintensetEl1 (t : Nat) : KeyClass.Statement (.mrsPmintensetEl1 t) :=
  keyClass_sysKey (k := sysKey 1 3 0 9 14 1) rfl (by decide)
theorem KeyClass.msrPmintensetEl1 (t : Nat) : KeyClass.Statement (.msrPmintensetEl1 t) :=
  keyClass_sysKey (k := sysKey 0 3 0 9 14 1) rfl (by decide)
theorem KeyClass.mrsPmmirEl1 (t : Nat) : KeyClass.Statement (.mrsPmmirEl1 t) :=
  keyClass_sysKey (k := sysKey 1 3 0 9 14 6) rfl (by decide)
theorem KeyClass.mrsPmovsclrEl0 (t : Nat) : KeyClass.Statement (.mrsPmovsclrEl0 t) :=
  keyClass_sysKey (k := sysKey 1 3 3 9 12 3) rfl (by decide)
theorem KeyClass.msrPmovsclrEl0 (t : Nat) : KeyClass.Statement (.msrPmovsclrEl0 t) :=
  keyClass_sysKey (k := sysKey 0 3 3 9 12 3) rfl (by decide)
theorem KeyClass.mrsPmovssetEl0 (t : Nat) : KeyClass.Statement (.mrsPmovssetEl0 t) :=
  keyClass_sysKey (k := sysKey 1 3 3 9 14 3) rfl (by decide)
theorem KeyClass.msrPmovssetEl0 (t : Nat) : KeyClass.Statement (.msrPmovssetEl0 t) :=
  keyClass_sysKey (k := sysKey 0 3 3 9 14 3) rfl (by decide)
theorem KeyClass.mrsPmselrEl0 (t : Nat) : KeyClass.Statement (.mrsPmselrEl0 t) :=
  keyClass_sysKey (k := sysKey 1 3 3 9 12 5) rfl (by decide)
theorem KeyClass.msrPmselrEl0 (t : Nat) : KeyClass.Statement (.msrPmselrEl0 t) :=
  keyClass_sysKey (k := sysKey 0 3 3 9 12 5) rfl (by decide)
theorem KeyClass.mrsPmsscrEl1 (t : Nat) : KeyClass.Statement (.mrsPmsscrEl1 t) :=
  keyClass_sysKey (k := sysKey 1 3 0 9 13 3) rfl (by decide)
theorem KeyClass.msrPmsscrEl1 (t : Nat) : KeyClass.Statement (.msrPmsscrEl1 t) :=
  keyClass_sysKey (k := sysKey 0 3 0 9 13 3) rfl (by decide)
theorem KeyClass.msrPmswincEl0 (t : Nat) : KeyClass.Statement (.msrPmswincEl0 t) :=
  keyClass_sysKey (k := sysKey 0 3 3 9 12 4) rfl (by decide)
theorem KeyClass.mrsPmuacrEl1 (t : Nat) : KeyClass.Statement (.mrsPmuacrEl1 t) :=
  keyClass_sysKey (k := sysKey 1 3 0 9 14 4) rfl (by decide)
theorem KeyClass.msrPmuacrEl1 (t : Nat) : KeyClass.Statement (.msrPmuacrEl1 t) :=
  keyClass_sysKey (k := sysKey 0 3 0 9 14 4) rfl (by decide)
theorem KeyClass.mrsPmuserenrEl0 (t : Nat) : KeyClass.Statement (.mrsPmuserenrEl0 t) :=
  keyClass_sysKey (k := sysKey 1 3 3 9 14 0) rfl (by decide)
theorem KeyClass.msrPmuserenrEl0 (t : Nat) : KeyClass.Statement (.msrPmuserenrEl0 t) :=
  keyClass_sysKey (k := sysKey 0 3 3 9 14 0) rfl (by decide)
theorem KeyClass.mrsPmxevcntrEl0 (t : Nat) : KeyClass.Statement (.mrsPmxevcntrEl0 t) :=
  keyClass_sysKey (k := sysKey 1 3 3 9 13 2) rfl (by decide)
theorem KeyClass.msrPmxevcntrEl0 (t : Nat) : KeyClass.Statement (.msrPmxevcntrEl0 t) :=
  keyClass_sysKey (k := sysKey 0 3 3 9 13 2) rfl (by decide)
theorem KeyClass.mrsPmxevtyperEl0 (t : Nat) : KeyClass.Statement (.mrsPmxevtyperEl0 t) :=
  keyClass_sysKey (k := sysKey 1 3 3 9 13 1) rfl (by decide)
theorem KeyClass.msrPmxevtyperEl0 (t : Nat) : KeyClass.Statement (.msrPmxevtyperEl0 t) :=
  keyClass_sysKey (k := sysKey 0 3 3 9 13 1) rfl (by decide)
theorem KeyClass.msrPmzrEl0 (t : Nat) : KeyClass.Statement (.msrPmzrEl0 t) :=
  keyClass_sysKey (k := sysKey 0 3 3 9 13 4) rfl (by decide)
theorem KeyClass.mrsSpmaccessrEl1 (t : Nat) : KeyClass.Statement (.mrsSpmaccessrEl1 t) :=
  keyClass_sysKey (k := sysKey 1 2 0 9 13 3) rfl (by decide)
theorem KeyClass.msrSpmaccessrEl1 (t : Nat) : KeyClass.Statement (.msrSpmaccessrEl1 t) :=
  keyClass_sysKey (k := sysKey 0 2 0 9 13 3) rfl (by decide)
theorem KeyClass.mrsSpmaccessrEl12 (t : Nat) : KeyClass.Statement (.mrsSpmaccessrEl12 t) :=
  keyClass_sysKey (k := sysKey 1 2 5 9 13 3) rfl (by decide)
theorem KeyClass.msrSpmaccessrEl12 (t : Nat) : KeyClass.Statement (.msrSpmaccessrEl12 t) :=
  keyClass_sysKey (k := sysKey 0 2 5 9 13 3) rfl (by decide)
theorem KeyClass.mrsSpmaccessrEl2 (t : Nat) : KeyClass.Statement (.mrsSpmaccessrEl2 t) :=
  keyClass_sysKey (k := sysKey 1 2 4 9 13 3) rfl (by decide)
theorem KeyClass.msrSpmaccessrEl2 (t : Nat) : KeyClass.Statement (.msrSpmaccessrEl2 t) :=
  keyClass_sysKey (k := sysKey 0 2 4 9 13 3) rfl (by decide)
theorem KeyClass.mrsSpmaccessrEl3 (t : Nat) : KeyClass.Statement (.mrsSpmaccessrEl3 t) :=
  keyClass_sysKey (k := sysKey 1 2 6 9 13 3) rfl (by decide)
theorem KeyClass.msrSpmaccessrEl3 (t : Nat) : KeyClass.Statement (.msrSpmaccessrEl3 t) :=
  keyClass_sysKey (k := sysKey 0 2 6 9 13 3) rfl (by decide)
theorem KeyClass.mrsSpmcfgrEl1 (t : Nat) : KeyClass.Statement (.mrsSpmcfgrEl1 t) :=
  keyClass_sysKey (k := sysKey 1 2 0 9 13 7) rfl (by decide)
theorem KeyClass.mrsSpmcgcr0El1 (t : Nat) : KeyClass.Statement (.mrsSpmcgcr0El1 t) :=
  keyClass_sysKey (k := sysKey 1 2 0 9 13 0) rfl (by decide)
theorem KeyClass.mrsSpmcgcr1El1 (t : Nat) : KeyClass.Statement (.mrsSpmcgcr1El1 t) :=
  keyClass_sysKey (k := sysKey 1 2 0 9 13 1) rfl (by decide)
theorem KeyClass.mrsSpmcntenclrEl0 (t : Nat) : KeyClass.Statement (.mrsSpmcntenclrEl0 t) :=
  keyClass_sysKey (k := sysKey 1 2 3 9 12 2) rfl (by decide)
theorem KeyClass.msrSpmcntenclrEl0 (t : Nat) : KeyClass.Statement (.msrSpmcntenclrEl0 t) :=
  keyClass_sysKey (k := sysKey 0 2 3 9 12 2) rfl (by decide)
theorem KeyClass.mrsSpmcntensetEl0 (t : Nat) : KeyClass.Statement (.mrsSpmcntensetEl0 t) :=
  keyClass_sysKey (k := sysKey 1 2 3 9 12 1) rfl (by decide)
theorem KeyClass.msrSpmcntensetEl0 (t : Nat) : KeyClass.Statement (.msrSpmcntensetEl0 t) :=
  keyClass_sysKey (k := sysKey 0 2 3 9 12 1) rfl (by decide)
theorem KeyClass.mrsSpmcrEl0 (t : Nat) : KeyClass.Statement (.mrsSpmcrEl0 t) :=
  keyClass_sysKey (k := sysKey 1 2 3 9 12 0) rfl (by decide)
theorem KeyClass.msrSpmcrEl0 (t : Nat) : KeyClass.Statement (.msrSpmcrEl0 t) :=
  keyClass_sysKey (k := sysKey 0 2 3 9 12 0) rfl (by decide)
theorem KeyClass.mrsSpmdevaffEl1 (t : Nat) : KeyClass.Statement (.mrsSpmdevaffEl1 t) :=
  keyClass_sysKey (k := sysKey 1 2 0 9 13 6) rfl (by decide)
theorem KeyClass.mrsSpmdevarchEl1 (t : Nat) : KeyClass.Statement (.mrsSpmdevarchEl1 t) :=
  keyClass_sysKey (k := sysKey 1 2 0 9 13 5) rfl (by decide)
theorem KeyClass.mrsSpmevcntr0El0 (t : Nat) : KeyClass.Statement (.mrsSpmevcntr0El0 t) :=
  keyClass_sysKey (k := sysKey 1 2 3 14 0 0) rfl (by decide)
theorem KeyClass.mrsSpmevcntr1El0 (t : Nat) : KeyClass.Statement (.mrsSpmevcntr1El0 t) :=
  keyClass_sysKey (k := sysKey 1 2 3 14 0 1) rfl (by decide)
theorem KeyClass.mrsSpmevcntr2El0 (t : Nat) : KeyClass.Statement (.mrsSpmevcntr2El0 t) :=
  keyClass_sysKey (k := sysKey 1 2 3 14 0 2) rfl (by decide)
theorem KeyClass.mrsSpmevcntr3El0 (t : Nat) : KeyClass.Statement (.mrsSpmevcntr3El0 t) :=
  keyClass_sysKey (k := sysKey 1 2 3 14 0 3) rfl (by decide)
theorem KeyClass.mrsSpmevcntr4El0 (t : Nat) : KeyClass.Statement (.mrsSpmevcntr4El0 t) :=
  keyClass_sysKey (k := sysKey 1 2 3 14 0 4) rfl (by decide)
theorem KeyClass.mrsSpmevcntr5El0 (t : Nat) : KeyClass.Statement (.mrsSpmevcntr5El0 t) :=
  keyClass_sysKey (k := sysKey 1 2 3 14 0 5) rfl (by decide)
theorem KeyClass.mrsSpmevcntr6El0 (t : Nat) : KeyClass.Statement (.mrsSpmevcntr6El0 t) :=
  keyClass_sysKey (k := sysKey 1 2 3 14 0 6) rfl (by decide)
theorem KeyClass.mrsSpmevcntr7El0 (t : Nat) : KeyClass.Statement (.mrsSpmevcntr7El0 t) :=
  keyClass_sysKey (k := sysKey 1 2 3 14 0 7) rfl (by decide)
theorem KeyClass.mrsSpmevcntr8El0 (t : Nat) : KeyClass.Statement (.mrsSpmevcntr8El0 t) :=
  keyClass_sysKey (k := sysKey 1 2 3 14 1 0) rfl (by decide)
theorem KeyClass.mrsSpmevcntr9El0 (t : Nat) : KeyClass.Statement (.mrsSpmevcntr9El0 t) :=
  keyClass_sysKey (k := sysKey 1 2 3 14 1 1) rfl (by decide)
theorem KeyClass.mrsSpmevcntr10El0 (t : Nat) : KeyClass.Statement (.mrsSpmevcntr10El0 t) :=
  keyClass_sysKey (k := sysKey 1 2 3 14 1 2) rfl (by decide)
theorem KeyClass.mrsSpmevcntr11El0 (t : Nat) : KeyClass.Statement (.mrsSpmevcntr11El0 t) :=
  keyClass_sysKey (k := sysKey 1 2 3 14 1 3) rfl (by decide)
theorem KeyClass.mrsSpmevcntr12El0 (t : Nat) : KeyClass.Statement (.mrsSpmevcntr12El0 t) :=
  keyClass_sysKey (k := sysKey 1 2 3 14 1 4) rfl (by decide)
theorem KeyClass.mrsSpmevcntr13El0 (t : Nat) : KeyClass.Statement (.mrsSpmevcntr13El0 t) :=
  keyClass_sysKey (k := sysKey 1 2 3 14 1 5) rfl (by decide)
theorem KeyClass.mrsSpmevcntr14El0 (t : Nat) : KeyClass.Statement (.mrsSpmevcntr14El0 t) :=
  keyClass_sysKey (k := sysKey 1 2 3 14 1 6) rfl (by decide)
theorem KeyClass.mrsSpmevcntr15El0 (t : Nat) : KeyClass.Statement (.mrsSpmevcntr15El0 t) :=
  keyClass_sysKey (k := sysKey 1 2 3 14 1 7) rfl (by decide)
theorem KeyClass.msrSpmevcntr0El0 (t : Nat) : KeyClass.Statement (.msrSpmevcntr0El0 t) :=
  keyClass_sysKey (k := sysKey 0 2 3 14 0 0) rfl (by decide)
theorem KeyClass.msrSpmevcntr1El0 (t : Nat) : KeyClass.Statement (.msrSpmevcntr1El0 t) :=
  keyClass_sysKey (k := sysKey 0 2 3 14 0 1) rfl (by decide)
theorem KeyClass.msrSpmevcntr2El0 (t : Nat) : KeyClass.Statement (.msrSpmevcntr2El0 t) :=
  keyClass_sysKey (k := sysKey 0 2 3 14 0 2) rfl (by decide)
theorem KeyClass.msrSpmevcntr3El0 (t : Nat) : KeyClass.Statement (.msrSpmevcntr3El0 t) :=
  keyClass_sysKey (k := sysKey 0 2 3 14 0 3) rfl (by decide)
theorem KeyClass.msrSpmevcntr4El0 (t : Nat) : KeyClass.Statement (.msrSpmevcntr4El0 t) :=
  keyClass_sysKey (k := sysKey 0 2 3 14 0 4) rfl (by decide)
theorem KeyClass.msrSpmevcntr5El0 (t : Nat) : KeyClass.Statement (.msrSpmevcntr5El0 t) :=
  keyClass_sysKey (k := sysKey 0 2 3 14 0 5) rfl (by decide)
theorem KeyClass.msrSpmevcntr6El0 (t : Nat) : KeyClass.Statement (.msrSpmevcntr6El0 t) :=
  keyClass_sysKey (k := sysKey 0 2 3 14 0 6) rfl (by decide)
theorem KeyClass.msrSpmevcntr7El0 (t : Nat) : KeyClass.Statement (.msrSpmevcntr7El0 t) :=
  keyClass_sysKey (k := sysKey 0 2 3 14 0 7) rfl (by decide)
theorem KeyClass.msrSpmevcntr8El0 (t : Nat) : KeyClass.Statement (.msrSpmevcntr8El0 t) :=
  keyClass_sysKey (k := sysKey 0 2 3 14 1 0) rfl (by decide)
theorem KeyClass.msrSpmevcntr9El0 (t : Nat) : KeyClass.Statement (.msrSpmevcntr9El0 t) :=
  keyClass_sysKey (k := sysKey 0 2 3 14 1 1) rfl (by decide)
theorem KeyClass.msrSpmevcntr10El0 (t : Nat) : KeyClass.Statement (.msrSpmevcntr10El0 t) :=
  keyClass_sysKey (k := sysKey 0 2 3 14 1 2) rfl (by decide)
theorem KeyClass.msrSpmevcntr11El0 (t : Nat) : KeyClass.Statement (.msrSpmevcntr11El0 t) :=
  keyClass_sysKey (k := sysKey 0 2 3 14 1 3) rfl (by decide)
theorem KeyClass.msrSpmevcntr12El0 (t : Nat) : KeyClass.Statement (.msrSpmevcntr12El0 t) :=
  keyClass_sysKey (k := sysKey 0 2 3 14 1 4) rfl (by decide)
theorem KeyClass.msrSpmevcntr13El0 (t : Nat) : KeyClass.Statement (.msrSpmevcntr13El0 t) :=
  keyClass_sysKey (k := sysKey 0 2 3 14 1 5) rfl (by decide)
theorem KeyClass.msrSpmevcntr14El0 (t : Nat) : KeyClass.Statement (.msrSpmevcntr14El0 t) :=
  keyClass_sysKey (k := sysKey 0 2 3 14 1 6) rfl (by decide)
theorem KeyClass.msrSpmevcntr15El0 (t : Nat) : KeyClass.Statement (.msrSpmevcntr15El0 t) :=
  keyClass_sysKey (k := sysKey 0 2 3 14 1 7) rfl (by decide)
theorem KeyClass.mrsSpmevfilt2r0El0 (t : Nat) : KeyClass.Statement (.mrsSpmevfilt2r0El0 t) :=
  keyClass_sysKey (k := sysKey 1 2 3 14 6 0) rfl (by decide)
theorem KeyClass.mrsSpmevfilt2r1El0 (t : Nat) : KeyClass.Statement (.mrsSpmevfilt2r1El0 t) :=
  keyClass_sysKey (k := sysKey 1 2 3 14 6 1) rfl (by decide)
theorem KeyClass.mrsSpmevfilt2r2El0 (t : Nat) : KeyClass.Statement (.mrsSpmevfilt2r2El0 t) :=
  keyClass_sysKey (k := sysKey 1 2 3 14 6 2) rfl (by decide)
theorem KeyClass.mrsSpmevfilt2r3El0 (t : Nat) : KeyClass.Statement (.mrsSpmevfilt2r3El0 t) :=
  keyClass_sysKey (k := sysKey 1 2 3 14 6 3) rfl (by decide)
theorem KeyClass.mrsSpmevfilt2r4El0 (t : Nat) : KeyClass.Statement (.mrsSpmevfilt2r4El0 t) :=
  keyClass_sysKey (k := sysKey 1 2 3 14 6 4) rfl (by decide)
theorem KeyClass.mrsSpmevfilt2r5El0 (t : Nat) : KeyClass.Statement (.mrsSpmevfilt2r5El0 t) :=
  keyClass_sysKey (k := sysKey 1 2 3 14 6 5) rfl (by decide)
theorem KeyClass.mrsSpmevfilt2r6El0 (t : Nat) : KeyClass.Statement (.mrsSpmevfilt2r6El0 t) :=
  keyClass_sysKey (k := sysKey 1 2 3 14 6 6) rfl (by decide)
theorem KeyClass.mrsSpmevfilt2r7El0 (t : Nat) : KeyClass.Statement (.mrsSpmevfilt2r7El0 t) :=
  keyClass_sysKey (k := sysKey 1 2 3 14 6 7) rfl (by decide)
theorem KeyClass.mrsSpmevfilt2r8El0 (t : Nat) : KeyClass.Statement (.mrsSpmevfilt2r8El0 t) :=
  keyClass_sysKey (k := sysKey 1 2 3 14 7 0) rfl (by decide)
theorem KeyClass.mrsSpmevfilt2r9El0 (t : Nat) : KeyClass.Statement (.mrsSpmevfilt2r9El0 t) :=
  keyClass_sysKey (k := sysKey 1 2 3 14 7 1) rfl (by decide)
theorem KeyClass.mrsSpmevfilt2r10El0 (t : Nat) : KeyClass.Statement (.mrsSpmevfilt2r10El0 t) :=
  keyClass_sysKey (k := sysKey 1 2 3 14 7 2) rfl (by decide)
theorem KeyClass.mrsSpmevfilt2r11El0 (t : Nat) : KeyClass.Statement (.mrsSpmevfilt2r11El0 t) :=
  keyClass_sysKey (k := sysKey 1 2 3 14 7 3) rfl (by decide)
theorem KeyClass.mrsSpmevfilt2r12El0 (t : Nat) : KeyClass.Statement (.mrsSpmevfilt2r12El0 t) :=
  keyClass_sysKey (k := sysKey 1 2 3 14 7 4) rfl (by decide)
theorem KeyClass.mrsSpmevfilt2r13El0 (t : Nat) : KeyClass.Statement (.mrsSpmevfilt2r13El0 t) :=
  keyClass_sysKey (k := sysKey 1 2 3 14 7 5) rfl (by decide)
theorem KeyClass.mrsSpmevfilt2r14El0 (t : Nat) : KeyClass.Statement (.mrsSpmevfilt2r14El0 t) :=
  keyClass_sysKey (k := sysKey 1 2 3 14 7 6) rfl (by decide)
theorem KeyClass.mrsSpmevfilt2r15El0 (t : Nat) : KeyClass.Statement (.mrsSpmevfilt2r15El0 t) :=
  keyClass_sysKey (k := sysKey 1 2 3 14 7 7) rfl (by decide)
theorem KeyClass.msrSpmevfilt2r0El0 (t : Nat) : KeyClass.Statement (.msrSpmevfilt2r0El0 t) :=
  keyClass_sysKey (k := sysKey 0 2 3 14 6 0) rfl (by decide)
theorem KeyClass.msrSpmevfilt2r1El0 (t : Nat) : KeyClass.Statement (.msrSpmevfilt2r1El0 t) :=
  keyClass_sysKey (k := sysKey 0 2 3 14 6 1) rfl (by decide)
theorem KeyClass.msrSpmevfilt2r2El0 (t : Nat) : KeyClass.Statement (.msrSpmevfilt2r2El0 t) :=
  keyClass_sysKey (k := sysKey 0 2 3 14 6 2) rfl (by decide)
theorem KeyClass.msrSpmevfilt2r3El0 (t : Nat) : KeyClass.Statement (.msrSpmevfilt2r3El0 t) :=
  keyClass_sysKey (k := sysKey 0 2 3 14 6 3) rfl (by decide)
theorem KeyClass.msrSpmevfilt2r4El0 (t : Nat) : KeyClass.Statement (.msrSpmevfilt2r4El0 t) :=
  keyClass_sysKey (k := sysKey 0 2 3 14 6 4) rfl (by decide)
theorem KeyClass.msrSpmevfilt2r5El0 (t : Nat) : KeyClass.Statement (.msrSpmevfilt2r5El0 t) :=
  keyClass_sysKey (k := sysKey 0 2 3 14 6 5) rfl (by decide)
theorem KeyClass.msrSpmevfilt2r6El0 (t : Nat) : KeyClass.Statement (.msrSpmevfilt2r6El0 t) :=
  keyClass_sysKey (k := sysKey 0 2 3 14 6 6) rfl (by decide)
theorem KeyClass.msrSpmevfilt2r7El0 (t : Nat) : KeyClass.Statement (.msrSpmevfilt2r7El0 t) :=
  keyClass_sysKey (k := sysKey 0 2 3 14 6 7) rfl (by decide)
theorem KeyClass.msrSpmevfilt2r8El0 (t : Nat) : KeyClass.Statement (.msrSpmevfilt2r8El0 t) :=
  keyClass_sysKey (k := sysKey 0 2 3 14 7 0) rfl (by decide)
theorem KeyClass.msrSpmevfilt2r9El0 (t : Nat) : KeyClass.Statement (.msrSpmevfilt2r9El0 t) :=
  keyClass_sysKey (k := sysKey 0 2 3 14 7 1) rfl (by decide)
theorem KeyClass.msrSpmevfilt2r10El0 (t : Nat) : KeyClass.Statement (.msrSpmevfilt2r10El0 t) :=
  keyClass_sysKey (k := sysKey 0 2 3 14 7 2) rfl (by decide)
theorem KeyClass.msrSpmevfilt2r11El0 (t : Nat) : KeyClass.Statement (.msrSpmevfilt2r11El0 t) :=
  keyClass_sysKey (k := sysKey 0 2 3 14 7 3) rfl (by decide)
theorem KeyClass.msrSpmevfilt2r12El0 (t : Nat) : KeyClass.Statement (.msrSpmevfilt2r12El0 t) :=
  keyClass_sysKey (k := sysKey 0 2 3 14 7 4) rfl (by decide)
theorem KeyClass.msrSpmevfilt2r13El0 (t : Nat) : KeyClass.Statement (.msrSpmevfilt2r13El0 t) :=
  keyClass_sysKey (k := sysKey 0 2 3 14 7 5) rfl (by decide)
theorem KeyClass.msrSpmevfilt2r14El0 (t : Nat) : KeyClass.Statement (.msrSpmevfilt2r14El0 t) :=
  keyClass_sysKey (k := sysKey 0 2 3 14 7 6) rfl (by decide)
theorem KeyClass.msrSpmevfilt2r15El0 (t : Nat) : KeyClass.Statement (.msrSpmevfilt2r15El0 t) :=
  keyClass_sysKey (k := sysKey 0 2 3 14 7 7) rfl (by decide)
theorem KeyClass.mrsSpmevfiltr0El0 (t : Nat) : KeyClass.Statement (.mrsSpmevfiltr0El0 t) :=
  keyClass_sysKey (k := sysKey 1 2 3 14 4 0) rfl (by decide)
theorem KeyClass.mrsSpmevfiltr1El0 (t : Nat) : KeyClass.Statement (.mrsSpmevfiltr1El0 t) :=
  keyClass_sysKey (k := sysKey 1 2 3 14 4 1) rfl (by decide)
theorem KeyClass.mrsSpmevfiltr2El0 (t : Nat) : KeyClass.Statement (.mrsSpmevfiltr2El0 t) :=
  keyClass_sysKey (k := sysKey 1 2 3 14 4 2) rfl (by decide)
theorem KeyClass.mrsSpmevfiltr3El0 (t : Nat) : KeyClass.Statement (.mrsSpmevfiltr3El0 t) :=
  keyClass_sysKey (k := sysKey 1 2 3 14 4 3) rfl (by decide)
theorem KeyClass.mrsSpmevfiltr4El0 (t : Nat) : KeyClass.Statement (.mrsSpmevfiltr4El0 t) :=
  keyClass_sysKey (k := sysKey 1 2 3 14 4 4) rfl (by decide)
theorem KeyClass.mrsSpmevfiltr5El0 (t : Nat) : KeyClass.Statement (.mrsSpmevfiltr5El0 t) :=
  keyClass_sysKey (k := sysKey 1 2 3 14 4 5) rfl (by decide)
theorem KeyClass.mrsSpmevfiltr6El0 (t : Nat) : KeyClass.Statement (.mrsSpmevfiltr6El0 t) :=
  keyClass_sysKey (k := sysKey 1 2 3 14 4 6) rfl (by decide)
theorem KeyClass.mrsSpmevfiltr7El0 (t : Nat) : KeyClass.Statement (.mrsSpmevfiltr7El0 t) :=
  keyClass_sysKey (k := sysKey 1 2 3 14 4 7) rfl (by decide)
theorem KeyClass.mrsSpmevfiltr8El0 (t : Nat) : KeyClass.Statement (.mrsSpmevfiltr8El0 t) :=
  keyClass_sysKey (k := sysKey 1 2 3 14 5 0) rfl (by decide)
theorem KeyClass.mrsSpmevfiltr9El0 (t : Nat) : KeyClass.Statement (.mrsSpmevfiltr9El0 t) :=
  keyClass_sysKey (k := sysKey 1 2 3 14 5 1) rfl (by decide)
theorem KeyClass.mrsSpmevfiltr10El0 (t : Nat) : KeyClass.Statement (.mrsSpmevfiltr10El0 t) :=
  keyClass_sysKey (k := sysKey 1 2 3 14 5 2) rfl (by decide)
theorem KeyClass.mrsSpmevfiltr11El0 (t : Nat) : KeyClass.Statement (.mrsSpmevfiltr11El0 t) :=
  keyClass_sysKey (k := sysKey 1 2 3 14 5 3) rfl (by decide)
theorem KeyClass.mrsSpmevfiltr12El0 (t : Nat) : KeyClass.Statement (.mrsSpmevfiltr12El0 t) :=
  keyClass_sysKey (k := sysKey 1 2 3 14 5 4) rfl (by decide)
theorem KeyClass.mrsSpmevfiltr13El0 (t : Nat) : KeyClass.Statement (.mrsSpmevfiltr13El0 t) :=
  keyClass_sysKey (k := sysKey 1 2 3 14 5 5) rfl (by decide)
theorem KeyClass.mrsSpmevfiltr14El0 (t : Nat) : KeyClass.Statement (.mrsSpmevfiltr14El0 t) :=
  keyClass_sysKey (k := sysKey 1 2 3 14 5 6) rfl (by decide)
theorem KeyClass.mrsSpmevfiltr15El0 (t : Nat) : KeyClass.Statement (.mrsSpmevfiltr15El0 t) :=
  keyClass_sysKey (k := sysKey 1 2 3 14 5 7) rfl (by decide)
theorem KeyClass.msrSpmevfiltr0El0 (t : Nat) : KeyClass.Statement (.msrSpmevfiltr0El0 t) :=
  keyClass_sysKey (k := sysKey 0 2 3 14 4 0) rfl (by decide)
theorem KeyClass.msrSpmevfiltr1El0 (t : Nat) : KeyClass.Statement (.msrSpmevfiltr1El0 t) :=
  keyClass_sysKey (k := sysKey 0 2 3 14 4 1) rfl (by decide)
theorem KeyClass.msrSpmevfiltr2El0 (t : Nat) : KeyClass.Statement (.msrSpmevfiltr2El0 t) :=
  keyClass_sysKey (k := sysKey 0 2 3 14 4 2) rfl (by decide)
theorem KeyClass.msrSpmevfiltr3El0 (t : Nat) : KeyClass.Statement (.msrSpmevfiltr3El0 t) :=
  keyClass_sysKey (k := sysKey 0 2 3 14 4 3) rfl (by decide)
theorem KeyClass.msrSpmevfiltr4El0 (t : Nat) : KeyClass.Statement (.msrSpmevfiltr4El0 t) :=
  keyClass_sysKey (k := sysKey 0 2 3 14 4 4) rfl (by decide)
theorem KeyClass.msrSpmevfiltr5El0 (t : Nat) : KeyClass.Statement (.msrSpmevfiltr5El0 t) :=
  keyClass_sysKey (k := sysKey 0 2 3 14 4 5) rfl (by decide)
theorem KeyClass.msrSpmevfiltr6El0 (t : Nat) : KeyClass.Statement (.msrSpmevfiltr6El0 t) :=
  keyClass_sysKey (k := sysKey 0 2 3 14 4 6) rfl (by decide)
theorem KeyClass.msrSpmevfiltr7El0 (t : Nat) : KeyClass.Statement (.msrSpmevfiltr7El0 t) :=
  keyClass_sysKey (k := sysKey 0 2 3 14 4 7) rfl (by decide)
theorem KeyClass.msrSpmevfiltr8El0 (t : Nat) : KeyClass.Statement (.msrSpmevfiltr8El0 t) :=
  keyClass_sysKey (k := sysKey 0 2 3 14 5 0) rfl (by decide)
theorem KeyClass.msrSpmevfiltr9El0 (t : Nat) : KeyClass.Statement (.msrSpmevfiltr9El0 t) :=
  keyClass_sysKey (k := sysKey 0 2 3 14 5 1) rfl (by decide)
theorem KeyClass.msrSpmevfiltr10El0 (t : Nat) : KeyClass.Statement (.msrSpmevfiltr10El0 t) :=
  keyClass_sysKey (k := sysKey 0 2 3 14 5 2) rfl (by decide)
theorem KeyClass.msrSpmevfiltr11El0 (t : Nat) : KeyClass.Statement (.msrSpmevfiltr11El0 t) :=
  keyClass_sysKey (k := sysKey 0 2 3 14 5 3) rfl (by decide)
theorem KeyClass.msrSpmevfiltr12El0 (t : Nat) : KeyClass.Statement (.msrSpmevfiltr12El0 t) :=
  keyClass_sysKey (k := sysKey 0 2 3 14 5 4) rfl (by decide)
theorem KeyClass.msrSpmevfiltr13El0 (t : Nat) : KeyClass.Statement (.msrSpmevfiltr13El0 t) :=
  keyClass_sysKey (k := sysKey 0 2 3 14 5 5) rfl (by decide)
theorem KeyClass.msrSpmevfiltr14El0 (t : Nat) : KeyClass.Statement (.msrSpmevfiltr14El0 t) :=
  keyClass_sysKey (k := sysKey 0 2 3 14 5 6) rfl (by decide)
theorem KeyClass.msrSpmevfiltr15El0 (t : Nat) : KeyClass.Statement (.msrSpmevfiltr15El0 t) :=
  keyClass_sysKey (k := sysKey 0 2 3 14 5 7) rfl (by decide)
theorem KeyClass.mrsSpmevtyper0El0 (t : Nat) : KeyClass.Statement (.mrsSpmevtyper0El0 t) :=
  keyClass_sysKey (k := sysKey 1 2 3 14 2 0) rfl (by decide)
theorem KeyClass.mrsSpmevtyper1El0 (t : Nat) : KeyClass.Statement (.mrsSpmevtyper1El0 t) :=
  keyClass_sysKey (k := sysKey 1 2 3 14 2 1) rfl (by decide)
theorem KeyClass.mrsSpmevtyper2El0 (t : Nat) : KeyClass.Statement (.mrsSpmevtyper2El0 t) :=
  keyClass_sysKey (k := sysKey 1 2 3 14 2 2) rfl (by decide)
theorem KeyClass.mrsSpmevtyper3El0 (t : Nat) : KeyClass.Statement (.mrsSpmevtyper3El0 t) :=
  keyClass_sysKey (k := sysKey 1 2 3 14 2 3) rfl (by decide)
theorem KeyClass.mrsSpmevtyper4El0 (t : Nat) : KeyClass.Statement (.mrsSpmevtyper4El0 t) :=
  keyClass_sysKey (k := sysKey 1 2 3 14 2 4) rfl (by decide)
theorem KeyClass.mrsSpmevtyper5El0 (t : Nat) : KeyClass.Statement (.mrsSpmevtyper5El0 t) :=
  keyClass_sysKey (k := sysKey 1 2 3 14 2 5) rfl (by decide)
theorem KeyClass.mrsSpmevtyper6El0 (t : Nat) : KeyClass.Statement (.mrsSpmevtyper6El0 t) :=
  keyClass_sysKey (k := sysKey 1 2 3 14 2 6) rfl (by decide)
theorem KeyClass.mrsSpmevtyper7El0 (t : Nat) : KeyClass.Statement (.mrsSpmevtyper7El0 t) :=
  keyClass_sysKey (k := sysKey 1 2 3 14 2 7) rfl (by decide)
theorem KeyClass.mrsSpmevtyper8El0 (t : Nat) : KeyClass.Statement (.mrsSpmevtyper8El0 t) :=
  keyClass_sysKey (k := sysKey 1 2 3 14 3 0) rfl (by decide)
theorem KeyClass.mrsSpmevtyper9El0 (t : Nat) : KeyClass.Statement (.mrsSpmevtyper9El0 t) :=
  keyClass_sysKey (k := sysKey 1 2 3 14 3 1) rfl (by decide)
theorem KeyClass.mrsSpmevtyper10El0 (t : Nat) : KeyClass.Statement (.mrsSpmevtyper10El0 t) :=
  keyClass_sysKey (k := sysKey 1 2 3 14 3 2) rfl (by decide)
theorem KeyClass.mrsSpmevtyper11El0 (t : Nat) : KeyClass.Statement (.mrsSpmevtyper11El0 t) :=
  keyClass_sysKey (k := sysKey 1 2 3 14 3 3) rfl (by decide)
theorem KeyClass.mrsSpmevtyper12El0 (t : Nat) : KeyClass.Statement (.mrsSpmevtyper12El0 t) :=
  keyClass_sysKey (k := sysKey 1 2 3 14 3 4) rfl (by decide)
theorem KeyClass.mrsSpmevtyper13El0 (t : Nat) : KeyClass.Statement (.mrsSpmevtyper13El0 t) :=
  keyClass_sysKey (k := sysKey 1 2 3 14 3 5) rfl (by decide)
theorem KeyClass.mrsSpmevtyper14El0 (t : Nat) : KeyClass.Statement (.mrsSpmevtyper14El0 t) :=
  keyClass_sysKey (k := sysKey 1 2 3 14 3 6) rfl (by decide)
theorem KeyClass.mrsSpmevtyper15El0 (t : Nat) : KeyClass.Statement (.mrsSpmevtyper15El0 t) :=
  keyClass_sysKey (k := sysKey 1 2 3 14 3 7) rfl (by decide)
theorem KeyClass.msrSpmevtyper0El0 (t : Nat) : KeyClass.Statement (.msrSpmevtyper0El0 t) :=
  keyClass_sysKey (k := sysKey 0 2 3 14 2 0) rfl (by decide)
theorem KeyClass.msrSpmevtyper1El0 (t : Nat) : KeyClass.Statement (.msrSpmevtyper1El0 t) :=
  keyClass_sysKey (k := sysKey 0 2 3 14 2 1) rfl (by decide)
theorem KeyClass.msrSpmevtyper2El0 (t : Nat) : KeyClass.Statement (.msrSpmevtyper2El0 t) :=
  keyClass_sysKey (k := sysKey 0 2 3 14 2 2) rfl (by decide)
theorem KeyClass.msrSpmevtyper3El0 (t : Nat) : KeyClass.Statement (.msrSpmevtyper3El0 t) :=
  keyClass_sysKey (k := sysKey 0 2 3 14 2 3) rfl (by decide)
theorem KeyClass.msrSpmevtyper4El0 (t : Nat) : KeyClass.Statement (.msrSpmevtyper4El0 t) :=
  keyClass_sysKey (k := sysKey 0 2 3 14 2 4) rfl (by decide)
theorem KeyClass.msrSpmevtyper5El0 (t : Nat) : KeyClass.Statement (.msrSpmevtyper5El0 t) :=
  keyClass_sysKey (k := sysKey 0 2 3 14 2 5) rfl (by decide)
theorem KeyClass.msrSpmevtyper6El0 (t : Nat) : KeyClass.Statement (.msrSpmevtyper6El0 t) :=
  keyClass_sysKey (k := sysKey 0 2 3 14 2 6) rfl (by decide)
theorem KeyClass.msrSpmevtyper7El0 (t : Nat) : KeyClass.Statement (.msrSpmevtyper7El0 t) :=
  keyClass_sysKey (k := sysKey 0 2 3 14 2 7) rfl (by decide)
theorem KeyClass.msrSpmevtyper8El0 (t : Nat) : KeyClass.Statement (.msrSpmevtyper8El0 t) :=
  keyClass_sysKey (k := sysKey 0 2 3 14 3 0) rfl (by decide)
theorem KeyClass.msrSpmevtyper9El0 (t : Nat) : KeyClass.Statement (.msrSpmevtyper9El0 t) :=
  keyClass_sysKey (k := sysKey 0 2 3 14 3 1) rfl (by decide)
theorem KeyClass.msrSpmevtyper10El0 (t : Nat) : KeyClass.Statement (.msrSpmevtyper10El0 t) :=
  keyClass_sysKey (k := sysKey 0 2 3 14 3 2) rfl (by decide)
theorem KeyClass.msrSpmevtyper11El0 (t : Nat) : KeyClass.Statement (.msrSpmevtyper11El0 t) :=
  keyClass_sysKey (k := sysKey 0 2 3 14 3 3) rfl (by decide)
theorem KeyClass.msrSpmevtyper12El0 (t : Nat) : KeyClass.Statement (.msrSpmevtyper12El0 t) :=
  keyClass_sysKey (k := sysKey 0 2 3 14 3 4) rfl (by decide)
theorem KeyClass.msrSpmevtyper13El0 (t : Nat) : KeyClass.Statement (.msrSpmevtyper13El0 t) :=
  keyClass_sysKey (k := sysKey 0 2 3 14 3 5) rfl (by decide)
theorem KeyClass.msrSpmevtyper14El0 (t : Nat) : KeyClass.Statement (.msrSpmevtyper14El0 t) :=
  keyClass_sysKey (k := sysKey 0 2 3 14 3 6) rfl (by decide)
theorem KeyClass.msrSpmevtyper15El0 (t : Nat) : KeyClass.Statement (.msrSpmevtyper15El0 t) :=
  keyClass_sysKey (k := sysKey 0 2 3 14 3 7) rfl (by decide)
theorem KeyClass.mrsSpmiidrEl1 (t : Nat) : KeyClass.Statement (.mrsSpmiidrEl1 t) :=
  keyClass_sysKey (k := sysKey 1 2 0 9 13 4) rfl (by decide)
theorem KeyClass.mrsSpmintenclrEl1 (t : Nat) : KeyClass.Statement (.mrsSpmintenclrEl1 t) :=
  keyClass_sysKey (k := sysKey 1 2 0 9 14 2) rfl (by decide)
theorem KeyClass.msrSpmintenclrEl1 (t : Nat) : KeyClass.Statement (.msrSpmintenclrEl1 t) :=
  keyClass_sysKey (k := sysKey 0 2 0 9 14 2) rfl (by decide)
theorem KeyClass.mrsSpmintensetEl1 (t : Nat) : KeyClass.Statement (.mrsSpmintensetEl1 t) :=
  keyClass_sysKey (k := sysKey 1 2 0 9 14 1) rfl (by decide)
theorem KeyClass.msrSpmintensetEl1 (t : Nat) : KeyClass.Statement (.msrSpmintensetEl1 t) :=
  keyClass_sysKey (k := sysKey 0 2 0 9 14 1) rfl (by decide)
theorem KeyClass.mrsSpmovsclrEl0 (t : Nat) : KeyClass.Statement (.mrsSpmovsclrEl0 t) :=
  keyClass_sysKey (k := sysKey 1 2 3 9 12 3) rfl (by decide)
theorem KeyClass.msrSpmovsclrEl0 (t : Nat) : KeyClass.Statement (.msrSpmovsclrEl0 t) :=
  keyClass_sysKey (k := sysKey 0 2 3 9 12 3) rfl (by decide)
theorem KeyClass.mrsSpmovssetEl0 (t : Nat) : KeyClass.Statement (.mrsSpmovssetEl0 t) :=
  keyClass_sysKey (k := sysKey 1 2 3 9 14 3) rfl (by decide)
theorem KeyClass.msrSpmovssetEl0 (t : Nat) : KeyClass.Statement (.msrSpmovssetEl0 t) :=
  keyClass_sysKey (k := sysKey 0 2 3 9 14 3) rfl (by decide)
theorem KeyClass.mrsSpmrootcrEl3 (t : Nat) : KeyClass.Statement (.mrsSpmrootcrEl3 t) :=
  keyClass_sysKey (k := sysKey 1 2 6 9 14 7) rfl (by decide)
theorem KeyClass.msrSpmrootcrEl3 (t : Nat) : KeyClass.Statement (.msrSpmrootcrEl3 t) :=
  keyClass_sysKey (k := sysKey 0 2 6 9 14 7) rfl (by decide)
theorem KeyClass.mrsSpmscrEl1 (t : Nat) : KeyClass.Statement (.mrsSpmscrEl1 t) :=
  keyClass_sysKey (k := sysKey 1 2 7 9 14 7) rfl (by decide)
theorem KeyClass.msrSpmscrEl1 (t : Nat) : KeyClass.Statement (.msrSpmscrEl1 t) :=
  keyClass_sysKey (k := sysKey 0 2 7 9 14 7) rfl (by decide)
theorem KeyClass.mrsSpmselrEl0 (t : Nat) : KeyClass.Statement (.mrsSpmselrEl0 t) :=
  keyClass_sysKey (k := sysKey 1 2 3 9 12 5) rfl (by decide)
theorem KeyClass.msrSpmselrEl0 (t : Nat) : KeyClass.Statement (.msrSpmselrEl0 t) :=
  keyClass_sysKey (k := sysKey 0 2 3 9 12 5) rfl (by decide)
theorem KeyClass.msrSpmzrEl0 (t : Nat) : KeyClass.Statement (.msrSpmzrEl0 t) :=
  keyClass_sysKey (k := sysKey 0 2 3 9 12 4) rfl (by decide)
theorem KeyClass.mrsMdcrEl2 (t : Nat) : KeyClass.Statement (.mrsMdcrEl2 t) :=
  keyClass_sysKey (k := sysKey 1 3 4 1 1 1) rfl (by decide)
theorem KeyClass.msrMdcrEl2 (t : Nat) : KeyClass.Statement (.msrMdcrEl2 t) :=
  keyClass_sysKey (k := sysKey 0 3 4 1 1 1) rfl (by decide)
theorem KeyClass.mrsMdcrEl3 (t : Nat) : KeyClass.Statement (.mrsMdcrEl3 t) :=
  keyClass_sysKey (k := sysKey 1 3 6 1 3 1) rfl (by decide)
theorem KeyClass.msrMdcrEl3 (t : Nat) : KeyClass.Statement (.msrMdcrEl3 t) :=
  keyClass_sysKey (k := sysKey 0 3 6 1 3 1) rfl (by decide)

end Sys2Proof.Laws
end

