-- ==== Sys2Proof/Tests/Slice0.lean ====
section
/-! SUPPORT. The model's own tests: ill-formed terms that WellFormed refuses, words written out from the encoding
tables, vectors of 95_test_vectors.md (each cites its number), and for every statement with hypotheses a concrete
state and operands that meet them. -/

namespace Sys2Proof.Machine.Test

set_option Elab.async false

open Sys2Proof Sys2Proof.Machine

/-! ## Helpers -/

/-- A part of the next state. -/
def after {α : Type} (o : Outcome) (f : State → α) : Option α :=
  match o with
  | .next s => some (f s)
  | _ => none

theorem next_of_after {α : Type} {o : Outcome} {f : State → α} {v : α} (h : after o f = some v) :
    ∃ s', o = .next s' := by
  cases o with
  | next s => exact ⟨s, rfl⟩
  | fault _ => cases h
  | refused _ => cases h

theorem read_test {o : Outcome} {a : Access} {t : Nat} {s : State} {r : Reg} {v : Word} (ho : o = finishRead a t s)
    (ha : a = .perform r) (hu : s.regUnknown r = 0) (hv : s.regKnown r = v) : o = .next (s.readDone t v) := by
  subst ho ha hv
  simp only [finishRead, State.regValue, hu, mergeBits_zero_mask]

theorem indexed_read_test {o : Outcome} {name : CuName} {l : Nat → State → Access} {i t : Nat} {s : State} {r : Reg}
    {v : Word} (ho : o = finishIndexedRead name l i t s) (ha : l i s = .perform r) (hu : s.regUnknown r = 0)
    (hv : s.regKnown r = v) : o = .next (s.readDone t v) := by
  subst ho hv
  simp only [finishIndexedRead, resolve, ha, finishRead, State.regValue, hu, mergeBits_zero_mask]

/-- Configuration B0 of 95_test_vectors.md, with more features. -/
def configB0 (more : List Feature) : Config :=
  { resetConfig with
    features := [.AA64, .PMUv3] ++ more, haveEL2 := false, haveEL3 := false, haveSecureEL1 := false
    numPmuCounters := 6, exportBus := false, pmmir := 0x200008, spmu := [] }

/-- B0 at EL1 with every register zero. -/
def b0 (more : List Feature) : State :=
  { State.reset with
    cfg := configB0 more
    inp := { resetInputs with el := .el1, ss := .nonSecure, el2Enabled := false, epmn := 6 }
    mdcrEl2 := 0
    mdcrEl3 := 0 }

def State.at (s : State) (el : EL) : State := { s with inp := { s.inp with el := el } }

def State.setX (s : State) (t : Nat) (v : Word) : State := { s with x := arraySet s.x t v }

/-- B0 + EL2. -/
def b0EL2 (more : List Feature) (mdcr : Word) : State :=
  let s := b0 more
  { s with cfg := { s.cfg with haveEL2 := true }, inp := { s.inp with el2Enabled := true }, mdcrEl2 := mdcr }

/-- B0 + EL3, Non-secure below EL3. -/
def b0EL3 (more : List Feature) (mdcr : Word) : State :=
  let s := b0 more
  { s with cfg := { s.cfg with haveEL3 := true }, mdcrEl3 := mdcr }

/-- A System PMU of S0: four 32-bit counters. -/
def spmuS0 : SpmuConfig where
  cfgr := 0x81F03
  cgcr0 := 0
  cgcr1 := 0
  devaff := 0x80000102
  devarch := 0
  iidr := 0
  counterBits := [32, 32, 32, 32]
  ovfMask := 0xF
  hasIrq := true
  hasNao := true
  scrHasNao := false
  hasScr := true
  hasRootcr := true
  typerMask := []
  filtrMask := []
  filt2rMask := []
  typerReset := []
  filtrReset := []
  filt2rReset := []
  scrImpdefMask := 0
  rootcrImpdefMask := 0
  scrImpdefReset := 0
  rootcrImpdefReset := 0

/-- S0 at EL1 with SPMSELR_EL0 = `sel`. -/
def s0 (more : List Feature) (sel : Word) : State :=
  let s := b0 ([.SPMU] ++ more)
  { s with
    cfg := { s.cfg with spmu := [some spmuS0, some spmuS0] }
    inp := { s.inp with mdscrEnSPM := true }
    spm := { s.spm with spmselr := sel } }

/-- System PMU 1 replaced. -/
def State.unit1 (s : State) (u : SpmUnit) : State := { s with spm := { s.spm with units := arraySet s.spm.units 1 u } }

def tickAt (el : EL) (occ : Nat) (insts : Nat) : State → State :=
  tick { el := el, ss := .nonSecure, streaming := false } { own := [(0x11, occ)], others := [] } insts

/-! ## Well-formedness and decoding -/

/-- Rt has five bits: 32 is refused. -/
theorem test_wellFormed_refuses_register_32 : WellFormed (.mrsPmcrEl0 32) = false := by decide

theorem test_wellFormed_accepts_zero_register : WellFormed (.msrSpmselrEl0 31) = true := by decide

/-- V30.4: the fixed row wins over the index 31. -/
theorem test_decode_pmccfiltr : decode 0xD53BEFE5#32 = .instr (.mrsPmccfiltrEl0 5) := by decide +kernel

theorem test_decode_pmcr : decode 0xD51B9C01#32 = .instr (.msrPmcrEl0 1) := by decide +kernel

/-- V30.1. -/
theorem test_decode_pmevcntr5 : decode 0xD53BE8A3#32 = .instr (.mrsPmevcntr5El0 3) := by decide +kernel

theorem test_decode_pmevtyper13 : decode 0xD51BEDA9#32 = .instr (.msrPmevtyper13El0 9) := by decide +kernel

theorem test_decode_pminten : decode 0xD5189E29#32 = .instr (.msrPmintensetEl1 9) := by decide +kernel

theorem test_decode_pmovs : decode 0xD51B9C63#32 = .instr (.msrPmovsclrEl0 3) := by decide +kernel

theorem test_decode_pmzr : decode 0xD51B9D89#32 = .instr (.msrPmzrEl0 9) := by decide +kernel

/-- V30.3. -/
theorem test_decode_spmcgcr1 : decode 0xD5309D25#32 = .instr (.mrsSpmcgcr1El1 5) := by decide +kernel

/-- V30.2. -/
theorem test_decode_spmevfiltr8 : decode 0xD533E50C#32 = .instr (.mrsSpmevfiltr8El0 12) := by decide +kernel

theorem test_decode_spmselr : decode 0xD5139CB3#32 = .instr (.msrSpmselrEl0 19) := by decide +kernel

/-- V30.13. -/
theorem test_decode_mdcr : decode 0xD53C1128#32 = .instr (.mrsMdcrEl2 8) ∧
    decode 0xD51E132A#32 = .instr (.msrMdcrEl3 10) := by decide +kernel

/-- V30.6 and V30.12. -/
theorem test_decode_outside : decode 0xD53BEBE0#32 = .outside ∧ decode 0xD51BEBE0#32 = .outside ∧
    decode 0xD503201F#32 = .outside := by decide +kernel

/-- V30.7 to V30.9. -/
theorem test_decode_unallocated : decode 0xD51B9CC3#32 = .unallocated ∧ decode 0xD53B9C82#32 = .unallocated ∧
    decode 0xD53B9D89#32 = .unallocated ∧ decode 0xD5339C94#32 = .unallocated ∧
    decode 0xD5189ECA#32 = .unallocated ∧ decode 0xD5109DE4#32 = .unallocated ∧
    decode 0xD510E841#32 = .unallocated := by decide +kernel

theorem test_encode : encode (.mrsPmevcntr30El0 3) = 0xD53BEBC3#32 ∧ encode (.msrSpmevcntr10El0 7) = 0xD513E147#32 := by
  decide +kernel

theorem test_tableWord : decodeTableWord 32 0xD53BE8A3 = some (.mrsPmevcntr5El0 3) := by decide +kernel

/-! ## The cycle counter -/

/-- V40.1 to V40.5: the state of V40.1 with other enables and filters. -/
def cycleState (pmcr cnten filter count : Word) : State :=
  let s := b0 []
  { s with pmu := { s.pmu with pmcr := pmcr, pmcnten := cnten, pmccfiltr := filter, pmccntr := count } }

theorem test_cycle_counts : (tickAt .el1 0 0 (cycleState 1 0x80000000 0 0x10)).pmu.pmccntr = 0x11 := by decide +kernel

theorem test_cycle_disabled : (tickAt .el1 0 0 (cycleState 0 0x80000000 0 0x10)).pmu.pmccntr = 0x10 ∧
    (tickAt .el1 0 0 (cycleState 1 0x3F 0 0x10)).pmu.pmccntr = 0x10 := by decide +kernel

theorem test_cycle_filtered :
    (tickAt .el1 0 0 (cycleState 1 0x80000000 0x80000000 0x10)).pmu.pmccntr = 0x10 ∧
    (tickAt .el0 0 0 (cycleState 1 0x80000000 0x80000000 0x10)).pmu.pmccntr = 0x11 ∧
    (tickAt .el0 0 0 (cycleState 1 0x80000000 0x40000000 0x10)).pmu.pmccntr = 0x10 := by decide +kernel

/-- V40.6 and V40.7: without FEAT_AA32 the overflow width is 64. -/
theorem test_cycle_overflow :
    (tickAt .el1 0 0 (cycleState 1 0x80000000 0 0xFFFFFFFFFFFFFFFF)).pmu.pmovs = 0x80000000 ∧
    (tickAt .el1 0 0 (cycleState 1 0x80000000 0 0xFFFFFFFF)).pmu.pmovs = 0 := by decide +kernel

/-- R54(a) and U5 against R120: the two readings of the divider while the cycle counter does not count. -/
theorem test_divider_readings :
    let s (r : DividerReading) : State := { b0 [.AA32] with cfg := { configB0 [.AA32] with dividerReading := r } }
    (tickAt .el1 0 0 (s .everyTick)).pmu.divPhase = 1 ∧ (tickAt .el1 0 0 (s .countedTick)).pmu.divPhase = 0 := by
  decide +kernel

/-- V40.13: MDCR_EL2.HCCD. -/
theorem test_cycle_hccd :
    let s := b0EL2 [.PMUv3p5] 0x800006
    let t := { s with pmu := { s.pmu with pmcr := 1, pmcnten := 0x80000000, pmccfiltr := 0x8000000 } }
    (tickAt .el2 0 0 t).pmu.pmccntr = 0 ∧ (tickAt .el1 0 0 t).pmu.pmccntr = 1 := by decide +kernel

/-- V40.20 to V40.22: a read needs CR or EN, a write EN. -/
def userCycle (userenr : Word) : State :=
  let s := State.at (b0 []) .el0
  { s with pmu := { s.pmu with pmuserenr := userenr, pmccntr := 0x100000010 } }

theorem test_user_read_cycle : exec (.mrsPmccntrEl0 0) (userCycle 4) = .next ((userCycle 4).readDone 0 0x100000010) :=
  read_test (a := listingMrsPmccntrEl0 (userCycle 4)) (r := .pmccntr) rfl (by decide +kernel) (by decide +kernel) (by decide +kernel)

theorem test_user_write_cycle_traps :
    exec (.msrPmccntrEl0 1) (userCycle 4) = .next (takeException (.systemAccessTrap .el1 0x18) (userCycle 4)) := rfl

/-- V40.25: with UEN and CR the write is ignored. -/
theorem test_user_write_cycle_ignored :
    let s := State.setX (State.at (b0 [.PMUv3p9]) .el0) 1 0x77
    let t := { s with pmu := { s.pmu with pmuserenr := 0x14, pmuacr := 0x80000000, pmccntr := 0x55 } }
    after (exec (.msrPmccntrEl0 1) t) (fun u => (u.pmu.pmccntr, u.pending, u.pc)) = some (0x55, none, 4) := by
  decide +kernel

/-- V40.26: MDCR_EL3.TPM. -/
theorem test_cycle_trapped_to_el3 : exec (.mrsPmccntrEl0 0) (b0EL3 [] 0x20040) =
    .next (takeException (.systemAccessTrap .el3 0x18) (b0EL3 [] 0x20040)) := rfl

/-- V40.27: only P, U and NSH exist in B0 + EL2. -/
theorem test_write_pmccfiltr :
    after (exec (.msrPmccfiltrEl0 2) (State.setX (State.at (b0EL2 [] 0x46) .el2) 2 0xFFFFFFFFFFFFFFFF))
      (·.pmu.pmccfiltr) = some 0xC8000000 := by decide +kernel

/-- V40.29: FEAT_PMUv3_SS is not implemented. -/
theorem test_pmccntsvr_absent : exec (.mrsPmccntsvrEl1 9) (b0 []) = .next (takeException .undefined (b0 [])) := rfl

/-! ## Enables and PMCR_EL0 -/

/-- V41.1. -/
theorem test_read_pmcr : exec (.mrsPmcrEl0 0) (b0 []) = .next ((b0 []).readDone 0 0x3040) :=
  read_test (a := listingMrsPmcrEl0 (b0 [])) (r := .pmcr) rfl (by decide +kernel) (by decide +kernel) (by decide +kernel)

/-- V41.3: HPMN is 4. -/
theorem test_read_pmcr_guest : exec (.mrsPmcrEl0 0) (b0EL2 [] 4) = .next ((b0EL2 [] 4).readDone 0 0x2040) :=
  read_test (a := listingMrsPmcrEl0 (b0EL2 [] 4)) (r := .pmcr) rfl (by decide +kernel) (by decide +kernel) (by decide +kernel)

/-- V41.2. -/
theorem test_write_pmcr :
    let s := State.setX (b0 []) 1 0xFFFFFFFFFFFFFFFF
    let t := { s with pmu := { s.pmu with
      pmccntr := 0x1234, pmevcntr := Vector.replicate 31 0x55, pmovs := 0x80000001 } }
    after (exec (.msrPmcrEl0 1) t) (fun u => (u.pmu.pmcr, u.pmu.pmccntr, u.evcntr 0, u.evcntr 5, u.pmu.pmovs)) =
      some (1, 0, 0, 0, 0x80000001) := by decide +kernel

/-- V41.4: P at EL1 reaches the first range only. -/
theorem test_write_pmcr_guest :
    let s := State.setX (b0EL2 [] 4) 1 2
    let t := { s with pmu := { s.pmu with pmevcntr := Vector.replicate 31 0x55 } }
    after (exec (.msrPmcrEl0 1) t) (fun u => (u.evcntr 3, u.evcntr 4)) = some (0, 0x55) ∧
      after (exec (.msrPmcrEl0 1) (State.at t .el2)) (fun u => (u.evcntr 3, u.evcntr 5)) = some (0, 0) := by
  decide +kernel

/-- V41.5: MDCR_EL2.TPMCR. -/
theorem test_pmcr_trapped : exec (.mrsPmcrEl0 0) (b0EL2 [] 0x24) =
    .next (takeException (.systemAccessTrap .el2 0x18) (b0EL2 [] 0x24)) := rfl

/-- V41.6 and V41.7. -/
theorem test_write_cntenset :
    after (exec (.msrPmcntensetEl0 4) (State.setX (b0 []) 4 0xFFFFFFFFFFFFFFFF)) (·.pmu.pmcnten) = some 0x8000003F ∧
    after (exec (.msrPmcntensetEl0 4) (State.setX (b0 [.PMUv3_ICNTR]) 4 0xFFFFFFFFFFFFFFFF)) (·.pmu.pmcnten) =
      some 0x18000003F := by decide +kernel

/-- V41.10 and V41.11: the user masks of PMUACR_EL1. -/
theorem test_user_cntenset :
    let s := State.setX (State.at (b0 [.PMUv3p9]) .el0) 4 0x8000003F
    let t (u : Word) := { s with pmu := { s.pmu with pmuserenr := u, pmuacr := 3 } }
    after (exec (.msrPmcntensetEl0 4) (t 0x10)) (·.pmu.pmcnten) = some 3 ∧
      after (exec (.msrPmcntensetEl0 4) (t 0x18)) (·.pmu.pmcnten) = some 0 := by decide +kernel

/-- V41.9: EL1 cannot clear an enable of the second range. -/
theorem test_write_cntenclr :
    let s := State.setX (b0EL2 [] 4) 4 0x30
    let t := { s with pmu := { s.pmu with pmcnten := 0x8000003F } }
    after (exec (.msrPmcntenclrEl0 4) t) (·.pmu.pmcnten) = some 0x8000003F ∧
      after (exec (.msrPmcntenclrEl0 4) (State.at t .el2)) (·.pmu.pmcnten) = some 0x8000000F := by decide +kernel

/-- V41.13. -/
theorem test_write_pmecr :
    after (exec (.msrPmecrEl1 2) (State.setX (b0 [.PMUv3_SS]) 2 0xFFFFFFFFFFFFFFFF)) (·.pmu.pmecr) = some 0x18 := by
  decide +kernel

/-! ## The event counters -/

/-- The start state of the counting vectors of 3.4. -/
def countState (more : List Feature) (typer count : Word) : State :=
  let s := b0 more
  { s with pmu := { s.pmu with
      pmcr := 1, pmcnten := 1, pmevtyper := arraySet s.pmu.pmevtyper 0 typer
      pmevcntr := arraySet s.pmu.pmevcntr 0 count } }

/-- Counter 0 after ticks at EL1 with these occurrences. -/
def countAfter (s : State) (occ : List Nat) : Word := (occ.foldl (fun u n => tickAt .el1 n 0 u) s).evcntr 0

/-- V42.1 and V42.2. -/
theorem test_event_counts : countAfter (countState [] 0x11 0) [1, 0, 2] = 3 ∧
    countAfter (countState [] 0x80000011 0) [5] = 0 := by decide +kernel

/-- V42.3 to V42.5. -/
theorem test_event_overflow :
    (tickAt .el1 3 0 (countState [] 0x11 0xFFFFFFFE)).pmu.pmovs = 1 ∧
    countAfter (countState [] 0x11 0xFFFFFFFE) [3] = 1 ∧
    countAfter (countState [.PMUv3p5] 0x11 0xFFFFFFFE) [3] = 0x100000001 ∧
    (tickAt .el1 3 0 (countState [.PMUv3p5] 0x11 0xFFFFFFFE)).pmu.pmovs = 1 := by decide +kernel

/-- V42.11 to V42.15. -/
theorem test_threshold : countAfter (countState [.PMUv3_TH] 0x8000000200000011 0) [1, 2, 3, 0] = 5 ∧
    countAfter (countState [.PMUv3_TH] 0xA000000200000011 0) [1, 2, 3, 0] = 2 ∧
    countAfter (countState [.PMUv3_TH] 0x4000000200000011 0) [1, 2, 2, 3] = 4 ∧
    countAfter (countState [.PMUv3_TH] 0xC000000200000011 0) [1, 3, 0, 1] = 2 ∧
    countAfter (countState [.PMUv3_TH] 0x2000000200000011 0) [2, 2, 0, 5] = 2 := by decide +kernel

/-- V42.16 and V42.17. -/
theorem test_threshold_edge :
    let s := countState [.PMUv3_TH, .PMUv3_EDGE] 0xD000000200000011 0
    countAfter (countState [.PMUv3_TH, .PMUv3_EDGE] 0xB000000200000011 0) [0, 3, 3, 0, 2] = 2 ∧
    countAfter { s with pmu := { s.pmu with edgePrev := Vector.replicate 31 true } } [0, 3, 3, 0, 2] = 3 := by
  decide +kernel

/-- V42.20: 32 bits without FEAT_PMUv3p5. -/
theorem test_write_event_counter :
    after (exec (.msrPmevcntr1El0 6) (State.setX (b0 []) 6 0x123456789ABCDEF0)) (·.evcntr 1) = some 0x9ABCDEF0 ∧
    after (exec (.msrPmevcntr1El0 6) (State.setX (b0 [.PMUv3p5]) 6 0x123456789ABCDEF0)) (·.evcntr 1) =
      some 0x123456789ABCDEF0 := by decide +kernel

/-- V42.21. -/
theorem test_event_counter_absent :
    exec (.mrsPmevcntr30El0 0) (b0 [.FGT]) = .next (takeException .undefined (b0 [.FGT])) ∧
    exec (.mrsPmevcntr6El0 0) (b0 [.FGT]) = .next (takeException .undefined (b0 [.FGT])) := ⟨rfl, rfl⟩

/-- V42.22. -/
theorem test_event_counter_guest :
    exec (.mrsPmevcntr5El0 3) (b0EL2 [.FGT] 4) =
      .next (takeException (.systemAccessTrap .el2 0x18) (b0EL2 [.FGT] 4)) := by
  have h : listingMrsPmevcntrEl0 5 (b0EL2 [.FGT] 4) = .trap .el2 := by decide +kernel
  show finishIndexedRead .pmevcntr listingMrsPmevcntrEl0 5 3 (b0EL2 [.FGT] 4) = _
  simp only [finishIndexedRead, resolve, h, finishRead, trapClass]

/-- V42.22: counter 3 is the guest's. -/
theorem test_event_counter_read :
    exec (.mrsPmevcntr3El0 3) (b0EL2 [.FGT] 4) = .next ((b0EL2 [.FGT] 4).readDone 3 0) :=
  indexed_read_test (name := .pmevcntr) (l := listingMrsPmevcntrEl0) (i := 3) (r := .pmevcntr 3) rfl (by decide +kernel) (by decide +kernel) (by decide +kernel)

/-- V42.24: the choice RAZ/WI of R1510. -/
theorem test_event_counter_unpredictable :
    let s := b0 []
    let t := { s with choices := { s.choices with cu := [⟨.pmevcntr, .read, .unimplemented, .el1, .razWi⟩] } }
    after (exec (.mrsPmevcntr6El0 0) (State.setX t 0 9)) (·.readX 0) = some 0 ∧
      after (exec (.mrsPmevcntr6El0 0) s) (·.pending) = some (some .undefined) := by decide +kernel

/-- V42.27. -/
theorem test_write_event_type :
    after (exec (.msrPmevtyper0El0 2) (State.setX (b0 []) 2 0xFFFFFFFFFFFFFFFF)) (·.evtyper 0) = some 0xC00003FF := by
  decide +kernel

/-- R586: TC is RES0 in the odd counter with TE = 0 and TLC = 0b11, and not in the even one. -/
theorem test_threshold_control_res0 :
    let s := State.setX (b0 [.PMUv3_TH, .PMUv3_TH2, .PMUv3_EDGE]) 2 0xE0C0000000000011
    after (exec (.msrPmevtyper1El0 2) s) (·.evtyper 1) = some 0xC0000000000011 ∧
      after (exec (.msrPmevtyper0El0 2) s) (·.evtyper 0) = some 0xE000000000000011 := by decide +kernel

/-- R599: SH needs Secure EL2. -/
theorem test_sh_needs_secure_el2 :
    let c := { configB0 [.SEL2] with haveEL3 := true, haveSecureEL1 := true }
    bit c.filterMask 24 = false ∧ bit { c with haveEL2 := true }.filterMask 24 = true := by decide +kernel

/-- R768: a parameter of all ones; THWIDTH is at most 12, and the features say SME and EDGE. -/
theorem test_pmmir_value :
    { configB0 [.PMUv3_TH, .PMUv3_EDGE] with pmmir := onesWord 64 }.pmmirValue = 0x1C0FFFF ∧
    { configB0 [.PMUv3_SME] with pmmir := 0x3C5A5A5 }.pmmirValue = 0x1005A5A5 := by decide +kernel

/-- R404 and R413: what PMCEID0_EL0 and PMCEID1_EL0 say is what is counted. -/
theorem test_common_events :
    let c := { configB0 [.PMUv3p1] with pmceid0 := 0x20000, pmceid1 := 0x100000000, supportedEvents := [0x11] }
    c.countedEvent 0x11 = some 0x11 ∧ c.countedEvent 0x10 = none ∧ c.countedEvent 0x4020 = some 0x4020 ∧
      { c with pmceid0 := 0 }.countedEvent 0x11 = none := by decide +kernel

/-- R1548: in Debug state no event is counted, and the cycle counter goes on while PMCR_EL0.DP is 0 (R120). -/
theorem test_debug_state :
    let s := countState [] 0x11 0
    let t := { s with inp := { s.inp with halted := true }, pmu := { s.pmu with pmcnten := 0x80000001 } }
    (tickAt .el1 3 0 t).evcntr 0 = 0 ∧ (tickAt .el1 3 0 t).pmu.pmccntr = 1 := by decide +kernel

/-! ## The instruction counter, interrupts, overflow flags and selection -/

/-- V43.1. -/
theorem test_instruction_counter :
    let s := b0 [.PMUv3_ICNTR]
    let t := { s with pmu := { s.pmu with pmcr := 1, pmcnten := 0x100000000, pmicntr := 0xFFFFFFFFFFFFFFFE } }
    (tickAt .el1 0 3 t).pmu.pmicntr = 1 ∧ (tickAt .el1 0 3 t).pmu.pmovs = 0x100000000 := by decide +kernel

/-- V43.4. -/
theorem test_write_pmicfiltr :
    after (exec (.msrPmicfiltrEl0 6) (State.setX (b0 [.PMUv3_ICNTR]) 6 0xFFFFFFFFFFFFFFFF)) (·.pmu.pmicfiltr) =
      some 0xC0000008 := by decide +kernel

/-- V43.6. -/
theorem test_write_pmintenset :
    after (exec (.msrPmintensetEl1 9) (State.setX (b0 []) 9 0xFFFFFFFFFFFFFFFF)) (·.pmu.pminten) =
      some 0x8000003F := by decide +kernel

/-- V43.7 to V43.10. -/
theorem test_pmu_irq :
    let s (more : List Feature) (ovs ecr : Word) : State :=
      { b0 more with pmu := { resetPmu with pminten := 1, pmovs := ovs, pmecr := ecr } }
    (s [] 1 0).pmuIrq = true ∧ (s [] 2 0).pmuIrq = false ∧ (s [.EBEP] 1 3).pmuIrq = false ∧
      (s [.EBEP] 1 0).pmuIrq = true := by decide +kernel

/-- R1530: each PMEE field in its place, and a reserved value acting as 0b00. -/
theorem test_pmee_chain :
    let s (m3 m2 : Word) (ecr : Word) : State :=
      { State.reset with mdcrEl3 := m3 <<< 40, mdcrEl2 := m2 <<< 40, pmu := { resetPmu with pmecr := ecr } }
    (s 3 0 0).pmeeEff = 3 ∧ (s 0 3 3).pmeeEff = 0 ∧ (s 2 3 3).pmeeEff = 0 ∧ (s 1 3 0).pmeeEff = 3 ∧
      (s 1 2 3).pmeeEff = 0 ∧ (s 1 1 3).pmeeEff = 3 ∧ (s 1 1 1).pmeeEff = 0 ∧ (b0 [.EBEP]).pmeeEff = 0 := by
  decide +kernel

/-- V43.11. -/
theorem test_write_pmiar :
    after (exec (.msrPmiarEl1 2) (State.setX (b0 [.EBEP, .SEBEP]) 2 0xFFFF800000401000)) (·.pmu.pmiar) =
      some 0xFFFF800000401000 := by decide +kernel

/-- R653 and D13: a write that breaks the form (P = 48, bits [63:48] not copies of bit 47, bits [1:0] set) keeps bits
[47:2]; the rest is by the parameter. -/
theorem test_write_pmiar_noncanonical :
    let w (b : PmiarNoncanonical) :=
      let s := State.setX (b0 [.EBEP, .SEBEP]) 2 0x0001800000401003
      after (exec (.msrPmiarEl1 2) { s with cfg := { s.cfg with pmiarNoncanonical := b } }) (·.pmu.pmiar)
    w .signExtended = some 0xFFFF800000401000 ∧ w .asWritten = some 0x0001800000401003 := by decide +kernel

/-- V44.1. -/
theorem test_write_pmovsclr :
    let s := State.setX (b0 []) 3 0x80000001
    after (exec (.msrPmovsclrEl0 3) { s with pmu := { s.pmu with pmovs := 0x80000021 } }) (·.pmu.pmovs) =
      some 0x20 := by decide +kernel

/-- V44.2. -/
theorem test_write_pmovsset :
    after (exec (.msrPmovssetEl0 4) (State.setX (b0 []) 4 0xFFFFFFFFFFFFFFFF)) (·.pmu.pmovs) = some 0x8000003F := by
  decide +kernel

/-- V44.4. -/
theorem test_write_pmselr :
    after (exec (.msrPmselrEl0 0) (State.setX (b0 []) 0 0xFFFFFFFFFFFFFFE5)) (·.pmu.pmselr) = some 5 := by
  decide +kernel

/-- V44.5, V44.6 and V44.9. -/
theorem test_software_increment :
    let s (cnten v : Word) : State := State.setX { b0 [] with pmu := { resetPmu with
      pmcr := 1, pmcnten := cnten, pmevtyper := arraySet resetPmu.pmevtyper 1 0x11
      pmevcntr := Vector.replicate 31 4 } } 2 v
    after (exec (.msrPmswincEl0 2) (s 3 3)) (fun u => (u.evcntr 0, u.evcntr 1)) = some (5, 4) ∧
      after (exec (.msrPmswincEl0 2) (s 2 3)) (·.evcntr 0) = some 4 ∧
      after (exec (.msrPmswincEl0 2) (s 3 0xFFFFFFFF80000040)) (·.evcntr 0) = some 4 := by decide +kernel

/-- R808 and R863: the software increment sets the flag of the counter that wraps its 32 bits, and no other. -/
theorem test_software_increment_overflow :
    let s := State.setX { b0 [] with pmu := { resetPmu with
      pmcr := 1, pmcnten := 3, pmevcntr := arraySet (Vector.replicate 31 4) 1 0xFFFFFFFF } } 2 3
    after (exec (.msrPmswincEl0 2) s) (fun u => (u.evcntr 0, u.evcntr 1, u.pmu.pmovs)) = some (5, 0, 2) := by
  decide +kernel

/-- V44.12 to V44.15. -/
theorem test_capture :
    let s (ecr v : Word) : State := State.setX { b0 [.PMUv3_SS] with pmu := { resetPmu with
      pmecr := ecr, pmccntr := 0x1234, pmccntsvr := 0xAAAA, pmevcntr := Vector.replicate 31 0x77 } } 1 v
    let f (u : State) := (u.pmu.pmccntsvr, arrayGet u.pmu.pmevcntsvr 3 0, u.pmu.pmsscr)
    after (exec (.msrPmsscrEl1 1) (s 0x18 1)) f = some (0x1234, 0x77, 0) ∧
      after (exec (.msrPmsscrEl1 1) (s 0x10 1)) f = some (0xAAAA, 0, 0x100000000) ∧
      after (exec (.msrPmsscrEl1 1) (s 0 1)) f = some (0xAAAA, 0, 0) ∧
      after (exec (.msrPmsscrEl1 1) (s 0x18 0x100000000)) f = some (0xAAAA, 0, 0x100000000) := by decide +kernel

/-- V44.16 and V45.1. -/
theorem test_write_user_registers :
    after (exec (.msrPmuacrEl1 5) (State.setX (b0 [.PMUv3p9]) 5 0xFFFFFFFFFFFFFFFF)) (·.pmu.pmuacr) =
      some 0x8000003F ∧
    after (exec (.msrPmuserenrEl0 6) (State.setX (b0 []) 6 0xFFFFFFFFFFFFFFFF)) (·.pmu.pmuserenr) = some 0xF := by
  decide +kernel

/-- V45.3. -/
def selectedState : State :=
  { b0 [] with pmu := { resetPmu with pmselr := 2, pmevcntr := arraySet resetPmu.pmevcntr 2 0xBB8 } }

theorem test_read_selected_counter : exec (.mrsPmxevcntrEl0 7) selectedState = .next (selectedState.readDone 7 0xBB8) :=
  indexed_read_test (name := .pmxevcntr) (l := listingMrsPmxevcntrEl0) (i := 2) (r := .pmevcntr 2) rfl (by decide +kernel) (by decide +kernel) (by decide +kernel)

/-- V45.5: SEL = 31 reaches PMCCFILTR_EL0. -/
theorem test_write_selected_type :
    let s := State.setX (b0 []) 8 0x40000000
    after (exec (.msrPmxevtyperEl0 8) { s with pmu := { s.pmu with pmselr := 31, pmccfiltr := 0x80000000 } })
      (·.pmu.pmccfiltr) = some 0x40000000 := by decide +kernel

/-- V45.7. -/
theorem test_zero_counters :
    let s := State.setX (b0 [.PMUv3p9]) 9 0x180000041
    let t := { s with pmu := { s.pmu with pmccntr := 0x10000, pmevcntr := Vector.replicate 31 0xC8, pmovs := 3 } }
    after (exec (.msrPmzrEl0 9) t) (fun u => (u.pmu.pmccntr, u.evcntr 0, u.evcntr 1, u.pmu.pmovs)) =
      some (0, 0, 0xC8, 3) := by decide +kernel

/-! ## System PMUs -/

/-- V46.1. -/
theorem test_write_spmaccessr :
    after (exec (.msrSpmaccessrEl1 1) (State.setX (s0 [] 0) 1 0xFFFFFFFFFFFFFFFF)) (·.spm.spmaccessr1) = some 0xF := by
  decide +kernel

/-- V46.2 to V46.5: the access field of System PMU 1 at EL0. -/
theorem test_spm_access_field :
    let s (acc : Word) : State :=
      let u := State.setX (State.at (s0 [] 0x10) .el0) 6 0xFFFFFFFFFFFFFFFF
      { u with spm := { u.spm with spmaccessr1 := acc } }
    listingMrsSpmcntensetEl0 (s 0) = .trap .el1 ∧ listingMrsSpmcntensetEl0 (s 4) = .perform (.spmcntenset 1) ∧
      listingMsrSpmcntensetEl0 (s 4) = .trap .el1 ∧ listingMrsSpmcntensetEl0 (s 8) = .perform (.spmcntenset 1) ∧
      listingMsrSpmcntensetEl0 (s 8) = .trap .el1 ∧
      after (exec (.msrSpmcntensetEl0 6) (s 0xC)) (fun u => (u.unit 1).spmcnten) = some 0xF := by decide +kernel

/-- V46.7: the redirection to memory. -/
theorem test_nested_virtualization :
    let s := State.setX (s0 [] 0) 2 0xA
    let t := { s with
      cfg := { s.cfg with haveEL2 := true }
      inp := { s.inp with el2Enabled := true, nvx := 7 }
      mdcrEl2 := 0x8006
      spm := { s.spm with spmaccessr1 := 0xF }
      mem := [(0x8E8, 5), (0x8EC, 0xEF), (0x8ED, 0xBE), (0x8EE, 0xAD), (0x8EF, 0xDE)] }
    after (exec (.mrsSpmaccessrEl1 1) t) (·.readX 1) = some 0xDEADBEEF00000005 ∧
      after (exec (.msrSpmaccessrEl1 2) t) (fun u => (u.mem, u.spm.spmaccessr1)) = some ([(0x8E8, 0xA)], 0xF) := by
  decide +kernel

/-- V46.10. -/
theorem test_read_spmcfgr :
    exec (.mrsSpmcfgrEl1 4) (s0 [] 0) = .next ((s0 [] 0).readDone 4 0x81F03) ∧
      exec (.mrsSpmcfgrEl1 4) (s0 [] 0x20) = .next ((s0 [] 0x20).readDone 4 0) :=
  ⟨read_test (a := listingMrsSpmcfgrEl1 (s0 [] 0)) (r := .spmcfgr 0) rfl (by decide +kernel) (by decide +kernel)
      (by decide +kernel),
    read_test (a := listingMrsSpmcfgrEl1 (s0 [] 0x20)) (r := .spmcfgr 2) rfl (by decide +kernel) (by decide +kernel) (by decide +kernel)⟩

/-- V46.12. -/
theorem test_write_spmcr :
    let s := State.unit1 (State.setX (s0 [] 0x10) 7 3) { zeroUnit with spmevcntr := Vector.replicate 64 5, spmovs := 3 }
    after (exec (.msrSpmcrEl0 7) s)
      (fun u => (arrayGet (u.unit 1).spmevcntr 3 0, (u.unit 1).spmcr, (u.unit 1).spmovs)) = some (0, 1, 3) := by
  decide +kernel

/-- V47.1. -/
theorem test_write_spmevcntr :
    after (exec (.msrSpmevcntr0El0 10) (State.setX (s0 [] 0x10) 10 0x123456789ABCDEF0))
      (fun u => arrayGet (u.unit 1).spmevcntr 0 0) = some 0x9ABCDEF0 := by decide +kernel

/-- V47.2: counter 19 is not implemented. -/
theorem test_spmevcntr_not_implemented :
    after (exec (.mrsSpmevcntr3El0 10) (State.setX (s0 [] 0x11) 10 7)) (·.readX 10) = some 0 ∧
    after (exec (.msrSpmevcntr3El0 10) (State.setX (s0 [] 0x11) 10 7))
      (fun u => arrayGet (u.unit 1).spmevcntr 19 0) = some 0 := by decide +kernel

/-- V47.3. -/
def stepState : State :=
  State.unit1 (s0 [] 0x10)
    { zeroUnit with spmcr := 1, spmcnten := 4, spmevcntr := Vector.replicate 64 0xFFFFFFF0, spminten := 4 }

theorem test_spmu_step : stepState.spmuStepAllowed 1 2 0x20 (some .nonSecure) = true ∧
    arrayGet ((spmuStep 1 2 0x20 stepState).unit 1).spmevcntr 2 0 = 0x10 ∧
    ((spmuStep 1 2 0x20 stepState).unit 1).spmovs = 4 ∧ (spmuStep 1 2 0x20 stepState).spmuIrq 1 = true ∧
    stepState.spmuIrq 1 = false := by decide +kernel

/-- R1437: with every observation control 0 only Non-secure events are counted. -/
theorem test_spmu_observation : stepState.spmuStepAllowed 1 2 1 (some .secure) = false ∧
    stepState.spmuStepAllowed 1 2 1 (some .realm) = false ∧ stepState.spmuStepAllowed 1 2 1 (some .root) = false ∧
    stepState.spmuStepAllowed 1 2 1 none = false := by decide +kernel

/-- R1041, R1048, R1052, R1162, R1183 and R1285: bits that no parameter can change. -/
theorem test_spm_identification_values : spmcfgrValue (onesWord 64) = 0xF1FB3F3F ∧
    spmcfgrValue 0x81F03 = 0x81F03 ∧ spmdevaffValue (onesWord 64) = 0xFFC1FFFFFF ∧
    spmdevarchValue 0xFFFFFFFFFFEFFFFF = 0 ∧ spmiidrValue (onesWord 64) = 0xFFFFFF7F := by decide +kernel

/-- R1042: at most 32, 16, 8 or 4 counters in a group, and none in a group above NCG. -/
theorem test_spmcgcr_caps : spmcgcrHeld 0 0 (onesWord 64) = 0 ∧ spmcgcrHeld 1 0 (onesWord 64) = 0x2020 ∧
    spmcgcrHeld 2 0 0x0102030F = 0x02030F ∧ spmcgcrHeld 3 0 (onesWord 64) = 0x10101010 ∧
    spmcgcrHeld 7 0 (onesWord 64) = 0x0808080808080808 ∧ spmcgcrHeld 7 1 (onesWord 64) = 0 ∧
    spmcgcrHeld 8 1 (onesWord 64) = 4 ∧ spmcgcrHeld 15 1 (onesWord 64) = 0x0404040404040404 := by decide +kernel

/-- R7(f): a System PMU numbered above SYSPMUID is not implemented. -/
theorem test_spmu_above_syspmuid :
    ({ resetConfig with sysPmuId := 0 }).spmuImplemented 0 = true ∧
      ({ resetConfig with sysPmuId := 0 }).spmuImplemented 1 = false ∧ resetConfig.spmuImplemented 1 = true := by
  decide +kernel

/-- R1165, R1166, R1170 and U10: no reserved Aff2, and U and MT part of the constant without F0V. -/
theorem test_spmdevaff_values : spmdevaffValue 0x0141000000 = 0x0141800000 ∧ spmdevaffValue 0x41000000 = 0 ∧
    spmdevaffValue 0x0141120080 = 0x0141120080 ∧ spmdevaffValue 0x80000102 = 0x80000102 := by decide +kernel

/-- V47.9. -/
theorem test_write_spm_filters :
    after (exec (.msrSpmevfiltr2El0 12) (State.setX (s0 [] 0x10) 12 0xFF))
      (fun u => arrayGet (u.unit 1).spmevfiltr 2 0) = some 0xFF ∧
    after (exec (.msrSpmevfilt2r2El0 12) (State.setX (s0 [] 0x10) 12 0xFF))
      (fun u => arrayGet (u.unit 1).spmevfilt2r 2 0) = some 0xFF := by decide +kernel

/-- V48.1, V48.3 and V48.4. -/
theorem test_write_spm_bitmaps :
    let s := State.setX (s0 [] 0x10) 15 0xFFFFFFFFFFFFFFFF
    let t := State.unit1 (State.setX (s0 [] 0x10) 16 4) { zeroUnit with spmovs := 5 }
    after (exec (.msrSpmintensetEl1 15) s) (fun u => (u.unit 1).spminten) = some 0xF ∧
      after (exec (.msrSpmovsclrEl0 16) t) (fun u => (u.unit 1).spmovs) = some 1 ∧
      after (exec (.msrSpmovssetEl0 15) s) (fun u => (u.unit 1).spmovs) = some 0xF := by decide +kernel

/-- V48.5. -/
theorem test_write_spmselr :
    after (exec (.msrSpmselrEl0 19) (State.setX (s0 [] 0) 19 0xFFFFFFFFFFFFFDF3)) (·.spm.spmselr) = some 0x1F3 := by
  decide +kernel

/-- V48.6: the reserved value 0x21 selects System PMU 1. -/
theorem test_reserved_selection : (s0 [] 0x210).selectedSpmu = 1 ∧
    (s0 [] 0x210).regUnknown .spmselr = 0x3F0 := by decide +kernel

/-- V48.7, with FEAT_SPMU2 (R1476). -/
theorem test_write_spmzr :
    let s := State.unit1 (State.setX (s0 [.SPMU2] 0x10) 20 0x16)
      { zeroUnit with spmevcntr := Vector.replicate 64 5, spmovs := 3 }
    after (exec (.msrSpmzrEl0 20) s) (fun u => (arrayGet (u.unit 1).spmevcntr 0 0, arrayGet (u.unit 1).spmevcntr 1 0,
      arrayGet (u.unit 1).spmevcntr 2 0, arrayGet (u.unit 1).spmevcntr 3 0, (u.unit 1).spmovs)) =
      some (5, 0, 0, 5, 3) := by decide +kernel

/-- V48.9: SPMROOTCR_EL3 after reset and after a write of 3. -/
theorem test_spmrootcr :
    State.reset.regKnown (.spmrootcr 0) = 0x80000008 ∧
      after (exec (.msrSpmrootcrEl3 17) (State.setX State.reset 17 3)) (·.regKnown (.spmrootcr 0)) =
        some 0x80000003 := by decide +kernel

/-- V48.10: Non-secure state. -/
theorem test_spmscr_non_secure :
    let s := { State.reset with inp := { resetInputs with el := .el2, ss := .nonSecure } }
    after (exec (.msrSpmscrEl1 18) s) (·.pending) = some (some .undefined) := by decide +kernel

/-! ## MDCR_EL2, MDCR_EL3, exceptions and reset -/

/-- V49.1. -/
theorem test_write_mdcr_el2 :
    after (exec (.msrMdcrEl2 0) (State.setX (State.at (b0EL2 [] 6) .el2) 0 0xFFFFFFFFFFFFFF04)) (·.mdcrEl2) =
      some 0xF04 := by decide +kernel

/-- R1652: EBWE where it is implemented and where it is RES0. -/
theorem test_mdcr_el2_ebwe :
    let c := { configB0 [.Debugv8p9] with haveEL2 := true }
    bit c.mdcrEl2Mask 43 = true ∧ bit { c with ebweImplemented := false }.mdcrEl2Mask 43 = false := by decide +kernel

/-- V49.2. -/
theorem test_mdcr_el2_at_el1 : listingMrsMdcrEl2 (b0EL2 [] 6) = .undefined ∧
    listingMrsMdcrEl2 { b0EL2 [] 6 with inp := { (b0EL2 [] 6).inp with nvx := 1 } } = .trap .el2 := by decide +kernel

/-- V49.4: HPMN of zero with FEAT_HPMN0. -/
theorem test_hpmn_zero : (b0EL2 [.HPMN0, .FGT] 0).numAccessible = 0 ∧
    listingMrsPmevcntrEl0 0 (b0EL2 [.HPMN0, .FGT] 0) = .trap .el2 := by decide +kernel

/-- V49.5: EnPM2 does not exist in this configuration. -/
theorem test_write_mdcr_el3 :
    after (exec (.msrMdcrEl3 10) (State.setX (State.at (b0EL3 [] 0) .el3) 10 0x200C0)) (·.mdcrEl3) =
      some 0x20040 := by decide +kernel

/-- V60.1 and V60.2: the order of the tests. -/
theorem test_trap_priority :
    let s := b0EL2 [] 0x46
    let t := { s with cfg := { s.cfg with haveEL3 := true }, mdcrEl3 := 0x20040 }
    listingMrsPmccntrEl0 t = .trap .el2 ∧
      listingMrsPmccntrEl0 { t with inp := { t.inp with sddUndefPriority := true, sddUndef := true } } = .undefined ∧
      listingMrsPmccntrEl0 (State.at t .el0) = .trap .el1 ∧
      listingMrsPmccntrEl0 { t with inp := { t.inp with el := .el0, tge := true } } = .trap .el2 := by decide +kernel

/-- V70.4: the cycle counter over a Warm reset with FEAT_PMUv3_EXTPMN. -/
theorem test_warm_reset_keeps :
    let s := b0 [.PMUv3_EXTPMN]
    commonReset s.cfg false (onesWord 64) = 0 ∧ commonReset s.cfg true (onesWord 64) = onesWord 64 := by
  decide +kernel

/-- R17: EL2Enabled() in Non-secure state with EL2, ELIsInHost(EL0) by E2H and TGE, Secure state by Secure EL1. -/
theorem test_inputs_allowed :
    let s := State.reset
    let i : Inputs := { resetInputs with el := .el1, ss := .nonSecure, el2Enabled := true }
    inputsAllowed i s = true ∧ inputsAllowed { i with el2Enabled := false } s = false ∧
      inputsAllowed { i with inHostEL0 := true } s = false ∧
      inputsAllowed { i with inHostEL0 := true, e2h := true, tge := true } s = true ∧
      contextAllowed .el1 .secure { s with cfg := { s.cfg with haveSecureEL1 := false } } = false := by decide +kernel

/-- R653: a hardware write of PMIAR_EL1 leaves ADDRESS[1:0] zero. -/
theorem test_pmiar_hardware_write :
    let s : State := { State.reset with pmu := { resetPmu with pminten := 1, pmovs := 1 }, mdcrEl3 := 0x30000000000 }
    after (envStep (.pmiarWrite 0x401003) s) (·.pmu.pmiar) = some 0x401000 := by decide +kernel

/-- A fetched word runs; an exception that is outstanding refuses the next instruction. -/
theorem test_step :
    after (step (State.reset.withFetchWord 32 0xD51B9CA1)) (fun s => (s.pc, s.program)) = some (4, []) ∧
      after (step (State.reset.withFetchWord 32 0xD53B9C82)) (·.pending) = some (some .undefined) := by decide +kernel

/-! ## The hypotheses of the statements can be met

Three states of the reset implementation: EL3, EL2 and EL1 (a guest of EL2), with every control open. -/

def allFgt2 : List Fgt2Bit :=
  [.nPMECR_EL1, .nPMIAR_EL1, .nPMICFILTR_EL0, .nPMICNTR_EL0, .nPMSSCR_EL1, .nPMSSDATA, .nPMUACR_EL1, .nPMZR_EL0,
   .nSPMACCESSR_EL1, .nSPMCNTEN, .nSPMCR_EL0, .nSPMDEVAFF_EL1, .nSPMEVCNTRn_EL0, .nSPMEVTYPERn_EL0, .nSPMID,
   .nSPMINTEN, .nSPMOVS, .nSPMSCR_EL1, .nSPMSELR_EL0]

/-- Everything open, at level `el` in Security state `ss`. -/
def openState (el : EL) (ss : SecState) : State :=
  { State.reset with
    inp := { resetInputs with el := el, ss := ss, fgtEn := true, fgtEn2 := true, hdfgrtr2 := allFgt2, hdfgwtr2 := allFgt2 }
    mdcrEl2 := 0x801F
    mdcrEl3 := 0x100010000080
    spm := { State.reset.spm with spmaccessr1 := 0xF, spmaccessr2 := 0xF, spmaccessr3 := 0xF } }

def monitor : State := openState .el3 .root
def host : State := openState .el2 .nonSecure
def guest : State := openState .el1 .nonSecure

/-- The open hypotheses of O17 to O42, at EL3, EL2 and EL1. -/
theorem witness_open_accesses : ∀ s ∈ [monitor, host, guest],
    (∀ b, s.pmuReadOpen b) ∧ (∀ b, s.pmuWriteOpen b) ∧
    (∀ b, s.pm2ReadOpen (s.has .EBEP = true ∨ s.has .PMUv3_SS = true) b ∧ s.pm2ReadOpen (s.has .PMUv3p9 = true) b ∧
      s.pm2ReadOpen (s.has .SEBEP = true) b ∧ s.pm2ReadOpen (s.has .PMUv3_ICNTR = true) b) ∧
    (∀ b, s.pm2WriteOpen (s.has .EBEP = true ∨ s.has .PMUv3_SS = true) b ∧ s.pm2WriteOpen (s.has .PMUv3p9 = true) b ∧
      s.pm2WriteOpen (s.has .SEBEP = true) b ∧ s.pm2WriteOpen (s.has .PMUv3_ICNTR = true) b) ∧
    (∀ b, s.snapshotReadOpen b) ∧ (∀ b, s.spmuReadOpen b) ∧ (∀ b, s.spmuWriteOpen b) ∧ (∀ b, s.spmuWriteFree b) ∧
    (∀ b, s.spmPeReadOpen b) ∧ (∀ b, s.spmPeWriteOpen b) ∧
    s.has .PMUv3p4 = true ∧ s.has .SPMU2 = true ∧ (s.el2Enabled && s.mdcr2TPMCR) = false ∧
    (∀ b, s.privOpen s.mdcr3TPM (s.fgtRead b || s.guestTPM)) ∧
    (∀ b, s.privOpen (!s.mdcr3EnPMSS) (s.fgt2Write b)) ∧
    (∀ b, s.privOpen s.mdcr3TPM (s.fgt2Write b || s.guestTPM)) := by
  have p (s : State) (m g : Bool) (h : s.inp.el = .el3 ∨ ((s.haveEL3 && m) = false ∧ g = false ∧ s.inp.el ≠ .el0)) :
      s.privOpen m g := by
    rcases h with h | ⟨h, h', h''⟩
    · exact .inl h
    · cases e : s.inp.el
      · exact absurd e h''
      · exact .inr (.inr ⟨e, h, h'⟩)
      · exact .inr (.inl ⟨e, h⟩)
      · exact .inl e
  intro s hs
  simp only [List.mem_cons, List.not_mem_nil, or_false] at hs
  rcases hs with rfl | rfl | rfl <;>
    refine ⟨fun b => ⟨?_, ?_, p _ _ _ ?_⟩, fun b => ⟨?_, ?_, p _ _ _ ?_⟩,
      fun b => ⟨⟨?_, ?_, p _ _ _ ?_⟩, ⟨?_, ?_, p _ _ _ ?_⟩, ⟨?_, ?_, p _ _ _ ?_⟩, ⟨?_, ?_, p _ _ _ ?_⟩⟩,
      fun b => ⟨⟨?_, ?_, p _ _ _ ?_⟩, ⟨?_, ?_, p _ _ _ ?_⟩, ⟨?_, ?_, p _ _ _ ?_⟩, ⟨?_, ?_, p _ _ _ ?_⟩⟩,
      fun b => ⟨?_, ?_, p _ _ _ ?_⟩, fun b => ⟨?_, ?_, p _ _ _ ?_⟩, fun b => ⟨?_, ?_, p _ _ _ ?_⟩,
      fun b => ⟨?_, p _ _ _ ?_⟩, fun b => ⟨?_, ?_, p _ _ _ ?_⟩, fun b => ⟨?_, ?_, p _ _ _ ?_⟩,
      ?_, ?_, ?_, fun b => p _ _ _ ?_, fun b => p _ _ _ ?_, fun b => p _ _ _ ?_⟩ <;>
    first | decide +kernel | (cases b <;> decide +kernel)

/-- O1 and O2. -/
theorem witness_round_trip : WellFormed (.mrsPmcrEl0 0) = true ∧ WellFormed (.msrMdcrEl3 31) = true ∧
    decode 0xD53B9C1F#32 = .instr (.mrsPmcrEl0 31) := by decide +kernel

/-- O5: both clauses, the second at m = 0 and m = 30. -/
theorem witness_MissingDirectionIsUndefined :
    decode (sysKey 1 2 3 9 12 4 ++ 0#5) = .unallocated ∧ decode (sysKey 0 2 0 14 8 0 ++ 31#5) = .unallocated ∧
      decode (sysKey 0 2 0 14 (8 + 30 / 8) (30 % 8) ++ 0#5) = .unallocated := by decide +kernel

/-- O6 and O7: a decodable, an unallocated and an outside word, no word, an exception, a scheduled move. -/
theorem witness_step :
    let s (p : List InstrWord) (e : Option Exception) (m : List Move) : State :=
      { State.reset with program := p, pending := e, schedule := m }
    (s [0xD53B9C00] none []).pending = none ∧ decode 0xD53B9C00 = .instr (.mrsPmcrEl0 0) ∧
      WellFormed (.mrsPmcrEl0 0) = true ∧ (s [0xD53B9C00] none [.pe]).schedule = [.pe] ∧
      decode 0xD53B9C82 = .unallocated ∧ decode 0xD503201F = .outside ∧ (s [] none []).program = [] ∧
      (s [] (some .undefined) []).pending = some .undefined ∧
      (s [] none [.env (.reset .warm)]).schedule = [.env (.reset .warm)] := by decide +kernel

/-- O8 and O10: the invariant and a step from there; O13 to O15 use the same instructions. -/
theorem witness_invariant_step :
    let s := State.reset.withFetchWord 32 0xD51B9CA1
    s.Inv ∧ ∃ s', step s = .next s' :=
  ⟨by decide +kernel,
    next_of_after (f := (·.pc)) (v := 4) (by decide +kernel)⟩

/-- O12: an exception arises. -/
theorem witness_ExceptionsChangeNoState :
    let s := State.at (b0 []) .el0
    s.pending = none ∧ exec (.mrsPmcrEl0 0) s = .next (takeException (.systemAccessTrap .el1 0x18) s) ∧
      (takeException (.systemAccessTrap .el1 0x18) s).pending ≠ none := ⟨rfl, rfl, by decide⟩

/-- O13 to O15: an `MRS`, and `MSR`s of each kind, that complete. -/
theorem witness_frames :
    Instr.key (.mrsPmcrEl0 0) &&& 0x10000 = 0x10000 ∧ Instr.key (.msrPmselrEl0 0) &&& 0x14000 = 0x4000 ∧
      Instr.key (.msrSpmselrEl0 0) &&& 0x14000 = 0 ∧
      after (exec (.mrsPmcrEl0 0) State.reset) (·.pending) = some none ∧
      after (exec (.msrPmselrEl0 0) State.reset) (·.pending) = some none ∧
      after (exec (.msrSpmaccessrEl1 0) State.reset) (·.pending) = some none ∧
      after (exec (.msrMdcrEl2 0) State.reset) (·.pending) = some none ∧
      after (exec (.msrMdcrEl3 0) State.reset) (·.pending) = some none ∧ State.reset.nvmemAddr 7 ≠ 0x8E7 := by
  decide +kernel

/-- O20: EL3, and EL2 with EnPM2. -/
theorem witness_BitmapMasksAtEL3AndEL2 : monitor.inp.el = .el3 ∧ host.inp.el = .el2 ∧ host.mdcr3EnPM2 = true := by
  decide +kernel

/-- O21 and O22: below EL1 the second hypothesis is met by TPMCR, elsewhere by the level. -/
theorem witness_Pmcr : monitor.inp.el ≠ .el1 ∧ (guest.el2Enabled && guest.mdcr2TPMCR) = false := by decide +kernel

/-- O23: a canonical address, and one that is not. -/
theorem witness_pmiar_canonical :
    pmiarCanonical (pmiarP guest.cfg) ((State.setX guest 1 0xFF80000000401000).readX 1) = true ∧
    pmiarCanonical (pmiarP guest.cfg) ((State.setX guest 1 0x0180000000401000).readX 1) = false := by decide +kernel

/-- O26 and O27: SS written as 1 in the three capture states, SS written as 0, and the three sources of the control. -/
theorem witness_capture :
    let s (m3 m2 ecr x : Word) : State :=
      State.setX { guest with mdcrEl3 := guest.mdcrEl3 ||| m3, mdcrEl2 := guest.mdcrEl2 ||| m2,
                              pmu := { resetPmu with pmecr := ecr } } 1 x
    (s 0xC0000000 0 0 1).captureControl = .allowed ∧ (s 0x80000000 0 0 1).captureControl = .prohibited ∧
      (s 0 0 0 1).captureControl = .disabled ∧ (s 0x40000000 0xC0000000 0 1).captureControl = .allowed ∧
      (s 0x40000000 0x40000000 0x10 1).captureControl = .prohibited ∧ bit ((s 0 0 0 1).readX 1) 0 = true ∧
      bit ((s 0 0 0 0).readX 1) 0 = false ∧ (s 0xC0000000 0 0 1).mdcr3EnPMSS = true := by decide +kernel

/-- O30: SEL at 0, 30 and 31. -/
theorem witness_selected :
    let s (v : Word) : State := { guest with pmu := { resetPmu with pmselr := v } }
    (s 0).sel < (s 0).numAccessible ∧ (s 30).sel < (s 30).numAccessible ∧ (s 31).sel = 31 := by decide +kernel

/-- O31 and O32: m at 0 and 30. -/
theorem witness_counter_index : 0 < guest.numAccessible ∧ 30 < guest.numAccessible ∧
    (mrsPmevcntrRows[0]?).isSome = true ∧ (mrsPmevcntrRows[30]?).isSome = true ∧
    (msrPmevcntrRows[30]?).isSome = true ∧ (mrsPmevcntsvrRows[30]?).isSome = true ∧
    (mrsPmevtyperRows[30]?).isSome = true ∧ (msrPmevtyperRows[30]?).isSome = true := by decide +kernel

/-- EL0 with the System PMU accesses open. -/
def spmUser : State :=
  let s := openState .el0 .nonSecure
  { s with inp := { s.inp with mdscrEnSPM := true } }

/-- O33, O35 to O37 and O39 to O41 at EL0. -/
theorem witness_open_user_accesses :
    (∀ b, spmUser.spmuUserReadOpen b) ∧ (∀ b, spmUser.spmuUserWriteOpen b) ∧ (∀ b, spmUser.spmuUserWriteFree b) ∧
      (∀ b, spmUser.spmPeUserReadOpen b) ∧ (∀ b, spmUser.spmPeUserWriteOpen b) := by
  refine ⟨fun b => ⟨?_, ?_, ?_, ?_, ?_, ?_⟩, fun b => ⟨?_, ?_, ?_, ?_, ?_, ?_⟩, fun b => ⟨?_, ?_, ?_, ?_, ?_⟩,
    fun b => ⟨?_, ?_, ?_, ?_, ?_, ?_⟩, fun b => ⟨?_, ?_, ?_, ?_, ?_, ?_⟩⟩ <;>
    first | decide +kernel | (cases b <;> decide +kernel)

/-- O33: the levels and the inputs of its clauses. -/
theorem witness_SpmAccessAndSelectComplete :
    let s : State := { monitor with inp := { monitor.inp with inHostEL2 := true } }
    guest.inp.nvx ≠ 7 ∧ s.has .SPMU = true ∧ s.has .AA64 = true ∧ s.inp.el = .el3 ∧ s.inp.inHostEL2 = true ∧
      host.inp.el = .el2 ∧ (host.haveEL3 && !host.mdcr3EnPM2) = false ∧ host.has .SPMU = true ∧
      host.has .AA64 = true := by decide +kernel

/-- O34 to O37: an implemented and an unimplemented System PMU. -/
theorem witness_selected_spmu :
    let s (v : Word) : State := { guest with spm := { guest.spm with spmselr := v } }
    (s 0).cfg.spmuConfig (s 0).selectedSpmu ≠ none ∧ (s 0x10).cfg.spmuImplemented (s 0x10).selectedSpmu = true ∧
      (s 0x1F0).cfg.spmuConfig (s 0x1F0).selectedSpmu = none := by decide +kernel

/-- O38: System PMU 0 at EL3 in Root state. -/
theorem witness_SpmRootAndSecureAccessesComplete :
    monitor.inp.el = .el3 ∧ monitor.cfg.spmuConfig monitor.selectedSpmu ≠ none ∧ monitor.has .SPMU = true ∧
      monitor.has .AA64 = true ∧ monitor.has .RME = true ∧ monitor.cfg.haveSecureEL1 = true ∧
      monitor.inp.ss ≠ .nonSecure ∧ monitor.inp.ss ≠ .realm ∧
      (monitor.has .FGWTE3 && monitor.inp.fgwte3Spmrootcr) = false := by decide +kernel

/-- O39 to O41: counters 0 and 63 of System PMU 0, counter 4 of System PMU 1, which has four, and System PMU 2, a number
above SYSPMUID. -/
theorem witness_spm_counters :
    let s (v : Word) : State := { monitor with spm := { monitor.spm with spmselr := v } }
    (s 0).cfg.spmuCounterImplemented (s 0).selectedSpmu (fieldNat (s 0).spm.spmselr 0 2 * 16 + 0) = true ∧
      (s 3).cfg.spmuCounterImplemented (s 3).selectedSpmu (fieldNat (s 3).spm.spmselr 0 2 * 16 + 15) = true ∧
      (s 0x10).cfg.spmuCounterImplemented (s 0x10).selectedSpmu (fieldNat (s 0x10).spm.spmselr 0 2 * 16 + 4) = false ∧
      (s 0x20).cfg.spmuImplemented (s 0x20).selectedSpmu = false ∧
      (mrsSpmevcntrRows[15]?).isSome = true ∧ (msrSpmevcntrRows[15]?).isSome = true ∧
      (mrsSpmevtyperRows[15]?).isSome = true ∧ (msrSpmevtyperRows[15]?).isSome = true ∧
      (mrsSpmevfiltrRows[15]?).isSome = true ∧ (msrSpmevfiltrRows[15]?).isSome = true ∧
      (mrsSpmevfilt2rRows[15]?).isSome = true ∧ (msrSpmevfilt2rRows[15]?).isSome = true := by decide +kernel

/-- O42: EL3, and EL2 with TDA clear; HPMN reserved, with and without FEAT_PMUv3_EXTPMN, and not; FGWTE3 not trapping. -/
theorem witness_MdcrAccessesComplete : host.inp.el = .el2 ∧ (host.haveEL3 && host.mdcr3TDA) = false ∧
    host.hpmnReserved = false ∧ monitor.inp.el = .el3 ∧ monitor.haveEL3 = true ∧ host.has .AA64 = true ∧
    (monitor.has .FGWTE3 && monitor.inp.fgwte3Mdcr) = false ∧
    (∀ more ∈ [[], [Feature.PMUv3_EXTPMN]], (State.at (b0EL2 more 0) .el2).inp.el = .el2 ∧
      (b0EL2 more 0).haveEL2 = true ∧ (b0EL2 more 0).has .PMUv3 = true ∧ (b0EL2 more 0).has .AA64 = true ∧
      (b0EL2 more 0).cfg.numCounters ≠ 0 ∧ (b0EL2 more 0).hpmnReserved = true ∧ (b0EL2 more 0).haveEL3 = false) := by
  decide +kernel

def user (userenr : Word) : State :=
  { openState .el0 .nonSecure with pmu := { resetPmu with pmuserenr := userenr, pmuacr := 0x80000000 } }

/-- O43: EN alone, and UEN. -/
theorem witness_UserAccessesComplete :
    (∀ b, (user 1).pmuUserReadOpen b) ∧ (∀ b, (user 1).pmuUserWriteOpen b) ∧ (user 0x10).userUENOn = true ∧
      (user 0x10).has .PMUv3 = true ∧ (user 0x10).has .AA64 = true ∧
      (∀ b, (user 0x10).userOpen (user 0x10).mdcr3TPM
        ((!(user 0x10).inp.inHostEL0 && (user 0x10).fgtRead b) || (user 0x10).guestTPM) false) ∧
      (∀ b, (user 0x10).userOpen (user 0x10).mdcr3TPM
        ((!(user 0x10).inp.inHostEL0 && (user 0x10).fgtWrite b) || (user 0x10).guestTPM) false) := by
  refine ⟨fun b => ⟨?_, ?_, ?_, ?_, ?_, ?_⟩, fun b => ⟨?_, ?_, ?_, ?_, ?_, ?_⟩, ?_, ?_, ?_,
    fun b => ⟨?_, ?_, ?_, ?_⟩, fun b => ⟨?_, ?_, ?_, ?_⟩⟩ <;>
    first | decide +kernel | (cases b <;> decide +kernel)

/-- O44 and O45. -/
theorem witness_user_traps : (user 0).inp.el = .el0 ∧ (user 0).userEN = false ∧ (user 0).userUEN = false ∧
    (user 0).userCR = false ∧ (user 0).userER = false ∧ (user 0).userSW = false ∧ (user 0).undefPriority = false ∧
    (user 0).has .PMUv3 = true ∧ (user 0).has .AA64 = true ∧ 30 < (user 0).numSelfHosted := by decide +kernel

/-- O46: the trap to EL3 from EL2 and, undefined, in Debug state; the trap to EL2 from EL1. -/
theorem witness_TpmTrapsTakePmuAccesses :
    let s : State := { host with mdcrEl3 := 0x40 }
    let g : State := { guest with mdcrEl2 := 0x805F }
    s.inp.el = .el2 ∧ s.haveEL3 = true ∧ s.mdcr3TPM = true ∧ s.inp.sddUndefPriority = false ∧
      s.has .PMUv3 = true ∧ s.has .AA64 = true ∧
      g.inp.el = .el1 ∧ g.el2Enabled = true ∧ g.mdcr2TPM = true ∧ g.undefPriority = false := by decide +kernel

/-- Field 0b00 or 0b01 of SPMACCESSR_EL1 and SPMACCESSR_EL2, at level `el` in state `ss`. -/
def gated (el : EL) (ss : SecState) (v : Word) : State :=
  let s := openState el ss
  { s with spm := { s.spm with spmaccessr1 := v, spmaccessr2 := v } }

/-- O47 at EL1: field 0b00, and field 0b01 for the writes; the fine-grained controls; SPMSCR_EL1 in Secure state. -/
theorem witness_SpmAccessFieldGatesTheGuest : ∀ ss ∈ [SecState.nonSecure, .secure], ∀ v ∈ [0, 1],
    (gated .el1 ss v).has .SPMU = true ∧ (gated .el1 ss v).has .SPMU2 = true ∧ (gated .el1 ss v).has .AA64 = true ∧
    (gated .el1 ss v).el2Enabled = true ∧ (gated .el1 ss v).inp.el = .el1 ∧ (gated .el1 ss v).mdcr2EnSPM = true ∧
    (gated .el1 ss v).undefPriority = false ∧ (∀ b, (gated .el1 ss v).fgt2Read b = false) ∧
    (∀ b, (gated .el1 ss v).fgt2Write b = false) ∧
    (gated .el1 ss 0).spmAccess (gated .el1 ss 0).spm.spmaccessr2 = 0 ∧
    (gated .el1 ss 1).spmAccess (gated .el1 ss 1).spm.spmaccessr2 ≠ 3 ∧ (gated .el1 .secure v).secureAccess = true := by
  intro ss hs v hv
  simp only [List.mem_cons, List.not_mem_nil, or_false] at hs hv
  rcases hs with rfl | rfl <;> rcases hv with rfl | rfl <;>
    refine ⟨?_, ?_, ?_, ?_, ?_, ?_, ?_, fun b => ?_, fun b => ?_, ?_, ?_, ?_⟩ <;>
    first | decide +kernel | (cases b <;> decide +kernel)

/-- O47 at EL0: EnSPM clear, field 0b00, and field 0b01 for the writes. -/
theorem witness_SpmAccessFieldGatesTheUser :
    let s (v : Word) : State := gated .el0 .nonSecure v
    (s 0xF).inp.el = .el0 ∧ (s 0xF).inp.mdscrEnSPM = false ∧ (s 0xF).has .SPMU = true ∧ (s 0xF).has .SPMU2 = true ∧
      (s 0xF).has .AA64 = true ∧ (s 0xF).undefPriority = false ∧ (s 0).inp.inHostEL0 = false ∧
      (s 0).spmAccess (s 0).spm.spmaccessr1 = 0 ∧ (s 1).spmAccess (s 1).spm.spmaccessr1 ≠ 3 ∧
      (spmuUserReads 0).length = 69 ∧ (spmuUserWrites 0).length = 69 := by decide +kernel

/-- O48 with FEAT_FGT: index 30 with 30 counters left to self-hosted software, and index 6 of six. -/
theorem witness_CounterIndexOutOfRange :
    let s : State := { guest with inp := { guest.inp with epmn := 30 } }
    s.numSelfHosted ≤ 30 ∧ s.has .FGT = true ∧ (b0 [.FGT]).numSelfHosted ≤ 6 ∧
      (mrsPmevcntsvrRows[30]?).isSome = true := by decide +kernel

/-- O48 without FEAT_FGT: at EL1, index 6 of six and index 4 reserved by HPMN, PMSELR_EL0.SEL at 6 and at 30, with and
without accessible counters; every choice can be in force. -/
theorem witness_CounterIndexChoices :
    let s (hpmn sel : Word) : State :=
      { b0EL2 [.HPMN0] hpmn with pmu := { resetPmu with pmselr := sel } }
    (s 4 6).has .FGT = false ∧ (s 4 6).has .PMUv3 = true ∧ (s 4 6).has .AA64 = true ∧ (s 4 6).numSelfHosted ≤ 6 ∧
      (s 4 6).inp.el = .el1 ∧ (s 4 6).el2Enabled = true ∧ (s 4 6).numAccessible ≤ 4 ∧ 4 < (s 4 6).numSelfHosted ∧
      (s 4 6).undefPriority = false ∧ (s 4 6).guestTPM = false ∧ (s 0 6).numAccessible = 0 ∧
      (s 4 6).numSelfHosted ≤ (s 4 6).sel ∧ (s 4 6).sel ≠ 31 ∧ (s 4 30).sel = 30 ∧
      (State.at (b0EL3 [] 0) .el3).inp.el = .el3 ∧
      ∀ c ∈ [CuChoice.undefined, .razWi, .nop, .otherCounter, .asSel31, .trapEL2],
        cuChoice [⟨.pmevtyper, .write, .reservedForEL2, .el1, c⟩] .pmevtyper .write .reservedForEL2 .el1 = c := by
  decide +kernel

/-- O48, the second place with FEAT_FGT: the existing counter 4, reserved by HPMN, at EL1 and, where PMUSERENR_EL0
permits it, at EL0, by its name and by PMSELR_EL0.SEL. -/
theorem witness_CounterIndexReserved :
    let s (el : EL) (userenr : Word) : State := State.at
      { b0EL2 [.FGT, .PMUv3_SS] 4 with pmu := { resetPmu with pmselr := 4, pmuserenr := userenr } } el
    (∀ p ∈ [(EL.el1, 0), (EL.el0, 1), (EL.el0, 8)], (s p.1 p.2).numAccessible ≤ 4 ∧ 4 < (s p.1 p.2).numSelfHosted ∧
      (s p.1 p.2).el2Enabled = true ∧ (s p.1 p.2).sel = 4 ∧ ((s p.1 p.2).undefPriority && (s p.1 p.2).mdcr3TPM) = false ∧
      listingMrsPmevcntrEl0 4 (s p.1 p.2) = .trap .el2 ∧ listingMrsPmxevcntrEl0 4 (s p.1 p.2) = .trap .el2) ∧
    listingMsrPmxevtyperEl0 4 (s .el0 1) = .trap .el2 ∧ listingMsrPmxevtyperEl0 4 (s .el0 8) = .trap .el1 ∧
      listingMrsPmevcntsvrEl1 4 (s .el1 0) = .trap .el2 := by
  intro s
  refine ⟨fun p hp => ?_, ?_⟩
  · simp only [List.mem_cons, List.not_mem_nil, or_false] at hp
    rcases hp with rfl | rfl | rfl <;> decide +kernel
  · decide +kernel

/-- O49. -/
theorem witness_NestedVirtualizationRedirectsToMemory :
    let s (v : BitVec 3) : State := { guest with inp := { guest.inp with nvx := v } }
    (s 7).inp.el = .el1 ∧ (s 7).inp.nvx = 7 ∧ (s 5).inp.nvx = 5 ∧ (s 5).has .SPMU = true ∧ (s 5).has .AA64 = true ∧
      memWf (s 7).mem = true ∧ (s 7).spmPeReadOpen .nSPMACCESSR_EL1 ∧ (s 7).spmPeWriteOpen .nSPMACCESSR_EL1 := by
  refine ⟨?_, ?_, ?_, ?_, ?_, ?_, ⟨?_, ?_, .inr (.inr ⟨?_, ?_, ?_⟩)⟩, ⟨?_, ?_, .inr (.inr ⟨?_, ?_, ?_⟩)⟩⟩ <;>
    decide +kernel

def at1 : Context := { el := .el1, ss := .nonSecure, streaming := false }

/-- The cycle counter enabled, with the divide-by-64 in force, at phase `k`. -/
def divided (k : BitVec 6) : State :=
  { b0 [.AA32] with pmu := { resetPmu with pmcr := 9, pmcnten := 0x80000000, divPhase := k } }

/-- O50 and O51: not counting; counting with and without the divide-by-64, at phase 63 and 0. -/
theorem witness_cycle :
    (cycleState 0 0x80000000 0 0).ccCounts at1 = false ∧ (cycleState 1 0x80000000 0 0).ccCounts at1 = true ∧
      (cycleState 1 0x80000000 0 0).divEff = false ∧ (divided 63).ccCounts at1 = true ∧ (divided 63).divEff = true ∧
      (divided 63).pmu.divPhase = 63 ∧ (divided 0).divEff = true ∧ (divided 0).pmu.divPhase ≠ 63 ∧
      (divided 0).cfg.dividerReading = .everyTick := by decide +kernel

/-- O53 and O54: counting with an occurrence, counting without one, not counting, each enable off, Debug state. -/
theorem witness_events :
    let o (k : Nat) : Occurrences := { own := [(0x11, k)], others := [] }
    (countState [] 0x11 0).has .PMUv3_TH = false ∧ (countState [] 0x11 0).evCounts 0 at1 = true ∧
      (countState [] 0x11 0).vb (o 1) 0 ≠ 0 ∧ (countState [] 0x11 0).vb (o 0) 0 = 0 ∧
      (countState [] 0x80000011 0).evCounts 0 at1 = false ∧ bit (cycleState 0 0 0 0).pmu.pmcr 0 = false ∧
      ({ resetInputs with halted := true } : Inputs).halted = true ∧ 0 < (cycleState 0 0 0 0).hpmnEff ∧ bit (b0EL2 [] 4).mdcrEl2 7 = false ∧ (b0EL2 [] 4).hpmnEff ≤ 4 := by
  decide +kernel

/-- R114 and R604: the events of the other PEs count with MT, and an unsupported event as the implementation chose. -/
theorem test_vb :
    let s (typer : Word) : State := { b0 [] with
      cfg := { configB0 [] with impdefMultiThread := true, unsupportedEvents := [⟨0x100, some 0x11⟩] }
      pmu := { resetPmu with pmevtyper := Vector.replicate 31 typer } }
    let o : Occurrences := { own := [(0x11, 2), (0x100, 7), (0x3F, 9)], others := [(0x11, 4)] }
    (s 0x11).vb o 0 = 2 ∧ (s 0x2000011).vb o 0 = 6 ∧ (s 0x100).vb o 0 = 2 ∧ (s 0x101).vb o 0 = 0 ∧
      (s 0x3F).vb o 0 = 0 := by decide +kernel

/-- A context below EL3, or at it, in Security state `ss`. -/
def ctx (el : EL) (ss : SecState) : Context := { el := el, ss := ss, streaming := false }

/-- R123: HPMD at EL2 only, SPME in Secure state and at EL3, MPMX at EL3 with the second range spared by SPME. -/
theorem test_prohibited :
    let s (m2 m3 : Word) : State := { State.reset with mdcrEl2 := m2, mdcrEl3 := m3 }
    (s 0x20004 0x20000).prohibitedFirst (ctx .el2 .nonSecure) = true ∧
      (s 0x20004 0x20000).prohibitedFirst (ctx .el1 .nonSecure) = false ∧
      (s 0x20004 0x20000).prohibitedSecond (ctx .el2 .nonSecure) = false ∧
      (s 4 0).prohibitedFirst (ctx .el1 .secure) = true ∧ (s 4 0).prohibitedFirst (ctx .el1 .nonSecure) = false ∧
      (s 4 0).prohibitedSecond (ctx .el3 .root) = true ∧
      (s 4 0x800020000).prohibitedFirst (ctx .el3 .root) = true ∧
      (s 4 0x800020000).prohibitedSecond (ctx .el3 .root) = false ∧
      (s 4 0x800000000).prohibitedSecond (ctx .el3 .root) = true ∧
      (s 4 0x800000000).prohibitedFirst (ctx .el1 .secure) = false := by decide +kernel

/-- R124: the flags of the first range and of the instruction counter freeze the first range, those of the second the
second, none in synchronous mode. -/
theorem test_frozen :
    let s (ovs typer : Word) : State :=
      { State.reset with mdcrEl2 := 0x20000004, pmu := { resetPmu with
          pmcr := 0x200, pmovs := ovs, pmevtyper := Vector.replicate 31 typer } }
    (s 8 0).frozenByFzoFirst = true ∧ (s 8 0).frozenByFzoSecond = false ∧ (s 0x10 0).frozenByFzoFirst = false ∧
      (s 0x10 0).frozenByFzoSecond = true ∧ (s 0x80000000 0).frozenByFzoFirst = false ∧
      (s 0x100000000 0).frozenByFzoFirst = true ∧ (s 8 0x400000000000000).frozenByFzoFirst = false ∧
      (s 8 0).frozenByFzsFirst = false ∧
      ({ s 0 0 with inp := { resetInputs with speFreeze := true }, mdcrEl2 := 0x1000000004 }).frozenByFzsSecond = true := by
  decide +kernel

/-- R314: P and NSK in Non-secure EL1, NSH and SH in Secure EL2, where the readings differ, and the VS field. -/
theorem test_filter_readings :
    let c (r : FilterReading) : Config := { resetConfig with filterReading := r }
    filtered (c .disjunction) 0 0xA0000000 (ctx .el1 .nonSecure) = true ∧
      filtered (c .replacement) 0 0xA0000000 (ctx .el1 .nonSecure) = false ∧
      filtered (c .replacement) 0 0xA0000000 (ctx .el1 .secure) = true ∧
      filtered (c .disjunction) 0 0x01000000 (ctx .el2 .secure) = true ∧
      filtered (c .replacement) 0 0x01000000 (ctx .el2 .secure) = false ∧
      filtered (c .replacement) 0 0 (ctx .el2 .secure) = true ∧
      filtered (c .replacement) 0 0x04000000 (ctx .el3 .root) = true ∧
      filtered (c .replacement) 0 0x0200000000000000 (ctx .el1 .secure) = true ∧
      filtered (c .replacement) 0 0x0100000000000000 (ctx .el1 .secure) = false := by decide +kernel

/-- Counters 0 and 1 enabled with event type `f`. -/
def thresholdState (f : Word) : State :=
  { b0 [.PMUv3_TH, .PMUv3_TH2, .PMUv3_EDGE] with pmu := { resetPmu with
      pmcr := 1, pmcnten := 3, pmevtyper := Vector.replicate 31 f } }

/-- O53 with FEAT_PMUv3_TH: counters 0 and 1 count, with and without the edge form, TLC = 0 to 2 in counter 1. -/
theorem witness_thresholds : ∀ f ∈ [0x8000000200000011#64, 0x8040000200000011#64, 0xB080000200000011#64],
    (thresholdState f).has .PMUv3_TH = true ∧ (thresholdState f).evCounts 0 at1 = true ∧
      (thresholdState f).evCounts 1 at1 = true ∧
      tcReserved (thresholdState f).cfg 0 ((thresholdState f).evtyper 0) = false ∧
      tcReserved (thresholdState f).cfg 1 ((thresholdState f).evtyper 1) = false ∧
      field ((thresholdState f).evtyper 1) 54 2 ≠ 3 := by
  intro f hf
  simp only [List.mem_cons, List.not_mem_nil, or_false] at hf
  rcases hf with rfl | rfl | rfl <;> decide +kernel

/-- O55: counting, and not counting. -/
theorem witness_instruction_counter :
    let s (e : Word) : State := { b0 [.PMUv3_ICNTR] with pmu := { resetPmu with pmcr := e, pmcnten := 0x100000000 } }
    (s 1).icCounts at1 = true ∧ (s 0).icCounts at1 = false := by decide +kernel

/-- O56: each level and EL2 disabled. -/
theorem witness_CounterRangesPartition : host.inp.el = .el2 ∧ monitor.inp.el = .el3 ∧ (b0 []).el2Enabled = false ∧
    (user 0).inp.el = .el0 ∧ (user 0).el2Enabled = true ∧ guest.inp.el = .el1 := by decide +kernel

/-- O58 and O60. -/
theorem witness_SystemPmu : stepState.cfg.spmuConfig 1 = some spmuS0 ∧ (∀ source ∈ [none, some .nonSecure, some .secure, some .realm, some SecState.root],
      (State.unit1 (s0 [] 0x10) { zeroUnit with
        spmcr := 1, spmcnten := 4, spmrootcr := 0xB, spmscr := 1 }).spmuStepAllowed 1 2 1 source = true) ∧
    State.reset.cfg.spmuConfig 0 ≠ none := by decide +kernel

/-- O59: the features and levels of its clauses. -/
theorem witness_ResetStatedValues : State.reset.has .AA32 = true ∧ State.reset.has .AA32EL1 = true ∧
    State.reset.cfg.haveEL2 = true ∧ State.reset.has .PMUv3 = true ∧ State.reset.has .PMUv3_EXTPMN = true ∧
    State.reset.has .PMUv3p5 = true ∧ State.reset.has .MTPMU = true ∧ State.reset.haveEL3 = true ∧
    (b0 []).haveEL3 = false ∧ (b0 []).haveEL2 = false ∧ (b0EL2 [.MTPMU] 4).haveEL3 = false ∧
    (b0EL2 [.MTPMU] 4).haveEL2 = true ∧ (b0EL2 [.MTPMU] 4).has .MTPMU = true := by decide +kernel

end Sys2Proof.Machine.Test
end

/-! What each instruction can do to the state, and what every step keeps: the direction of each instruction (MRS or MSR,
R201), the unit whose registers an MSR may write, and the frames that follow. -/

namespace Sys2Proof.Machine

/-! ## The general registers (R19, R20) -/

@[simp] theorem readX_advance (s : State) (r : Nat) : s.advance.readX r = s.readX r := rfl
@[simp] theorem readX_drawn (s : State) (k r : Nat) : (s.drawn k).readX r = s.readX r := rfl
@[simp] theorem readX_takeException (e : Exception) (s : State) (r : Nat) :
    (takeException e s).readX r = s.readX r := rfl

@[simp] theorem readX_zeroRegister (s : State) : s.readX 31 = 0 := arrayGet_of_le s.x 31 0 (le_refl 31)

@[simp] theorem writeX_zeroRegister (s : State) (v : Word) : s.writeX 31 v = s := by
  simp [State.writeX, arraySet, Vector.setIfInBounds_eq_of_size_le]

theorem readX_writeX_self (s : State) (v : Word) {t : Nat} (h : t < 31) : (s.writeX t v).readX t = v :=
  arrayGet_arraySet_self s.x t v 0 h

theorem readX_writeX_ne (s : State) (v : Word) {t r : Nat} (h : r ≠ t) : (s.writeX t v).readX r = s.readX r :=
  arrayGet_arraySet_ne s.x t r v 0 h.symm

/-- Settles O16: the general registers are the 31 entries of an array, and entry 31 lies beyond its end. -/
theorem zeroRegisterReadsZeroAndDiscards : Obligations.ZeroRegisterReadsZeroAndDiscards := by
  intro s v
  exact ⟨readX_zeroRegister s, writeX_zeroRegister s v,
    fun t ht => ⟨readX_writeX_self s v ht, fun r hr => readX_writeX_ne s v hr⟩⟩

/-! ## The PE's own transition -/

/-- With no exception outstanding, a word that decodes to an instruction is that instruction. -/
theorem executePE_of_decode {s : State} {w : InstrWord} {rest : List InstrWord} {i : Instr} (hp : s.pending = none)
    (hw : s.program = w :: rest) (hd : decode w = .instr i) : executePE s = exec i s := by
  simp [executePE, executeWord, State.fetch, hp, hw, hd]

theorem step_of_schedule_nil {s : State} (h : s.schedule = []) : step s = executePE s := by simp [step, h]

theorem step_of_schedule_pe {s : State} {moves : List Move} (h : s.schedule = .pe :: moves) :
    step s = executePE { s with schedule := moves } := by simp [step, h]

/-- Settles O6: the schedule is no input of the fetch, so both cases are the PE's own transition. -/
theorem stepRunsTheDecodedInstruction : Obligations.StepRunsTheDecodedInstruction := by
  intro s w rest i hp hw hd _
  constructor
  · intro hs
    rw [step_of_schedule_nil hs, executePE_of_decode hp hw hd]
  · intro moves hs
    rw [step_of_schedule_pe hs]
    exact executePE_of_decode hp hw hd

/-! ## The implementation (R7) -/

theorem exec_cfg {i : Instr} {s s' : State} (h : exec i s = .next s') : s'.cfg = s.cfg := by
  obtain ⟨a, s₁, hs₁, hr | hw⟩ := exec_shape i s
  · have hcfg := (finishRead_next (hr ▸ h)).1
    obtain rfl | rfl := hs₁ <;> simpa using hcfg
  · have hcfg := (finishWrite_next (hw ▸ h)).1
    obtain rfl | rfl := hs₁ <;> simpa using hcfg

theorem executeWord_cfg {w : InstrWord} {s s' : State} (h : executeWord w s = .next s') : s'.cfg = s.cfg := by
  unfold executeWord at h
  split at h
  case h_1 => exact exec_cfg h
  case h_2 => cases h; rfl
  case h_3 => cases h

theorem executePE_cfg {s s' : State} (h : executePE s = .next s') : s'.cfg = s.cfg := by
  unfold executePE at h
  split at h
  case h_1 => cases h
  case h_2 =>
    split at h
    case h_1 => cases h
    case h_2 => exact executeWord_cfg h

/-- Settles O10, by who moves: the environment, or the PE with or without a scheduled move. -/
theorem noStepChangesTheImplementation : Obligations.NoStepChangesTheImplementation := by
  intro s s' h
  unfold step at h
  split at h
  case h_1 => simpa using envStep_cfg h
  case h_2 => simpa using executePE_cfg h
  case h_3 => exact executePE_cfg h

/-! ## The program counter (R19) -/

theorem finishRead_advances {a : Access} {t : Nat} {s s' : State} (h : finishRead a t s = .next s')
    (hp : s'.pending = none) : s'.pc = s.pc + 4 ∧ s'.program = s.program.tail := by
  rcases finishRead_eq a t s with ⟨r, _, e⟩ | ⟨_, e⟩ | ⟨_, e⟩ | ⟨_, e⟩ | ⟨_, e⟩ | ⟨el, _, e⟩ <;>
    rw [e] at h <;> cases h <;> simp at hp ⊢

theorem finishWrite_advances {a : Access} {t : Nat} {s s' : State} (h : finishWrite a t s = .next s')
    (hp : s'.pending = none) : s'.pc = s.pc + 4 ∧ s'.program = s.program.tail := by
  rcases finishWrite_eq a t s with ⟨r, _, e⟩ | ⟨_, e⟩ | ⟨_, e⟩ | ⟨_, e⟩ | ⟨el, _, e⟩ <;>
    rw [e] at h <;> cases h <;> simp at hp ⊢

/-- Settles O13: an end of an access that does not advance the program counter leaves an exception outstanding. -/
theorem completionAdvancesTheProgramCounter : Obligations.CompletionAdvancesTheProgramCounter := by
  intro i s s' _ h hp
  obtain ⟨a, s₁, hs₁, hr | hw⟩ := exec_shape i s
  · have hadv := finishRead_advances (hr ▸ h) hp
    obtain rfl | rfl := hs₁ <;> simpa using hadv
  · have hadv := finishWrite_advances (hw ▸ h) hp
    obtain rfl | rfl := hs₁ <;> simpa using hadv

/-! ## The unit that a write reaches -/

/-- The parts of the state that hold System registers. -/
inductive RegUnit where
  | pmu | spm | mdcrEl2 | mdcrEl3
  deriving DecidableEq

/-- The part of the state that holds register `r`. -/
@[simp] def Reg.unit : Reg → RegUnit
  | .spmaccessr1 | .spmaccessr2 | .spmaccessr3 | .spmselr | .spmcfgr _ | .spmcgcr _ _ | .spmdevaff _ | .spmdevarch _
  | .spmiidr _ | .spmcntenclr _ | .spmcntenset _ | .spmcr _ | .spmevcntr _ _ | .spmevtyper _ _ | .spmevfiltr _ _
  | .spmevfilt2r _ _ | .spmintenclr _ | .spmintenset _ | .spmovsclr _ | .spmovsset _ | .spmrootcr _ | .spmscr _
  | .spmzr _ => .spm
  | .mdcrEl2 => .mdcrEl2
  | .mdcrEl3 => .mdcrEl3
  | _ => .pmu

/-- MDCR_EL2 is not among the units here: a write of it can enable event counters, whose edge history is PMU state. -/
theorem writeReg_pmu (r : Reg) (v : Word) (s : State) (h : r.unit = .spm ∨ r.unit = .mdcrEl3) :
    (writeReg r v s).pmu = s.pmu := by
  cases r <;> simp at h <;> simp [writeReg]

theorem writeReg_spm (r : Reg) (v : Word) (s : State) (h : r.unit ≠ .spm) : (writeReg r v s).spm = s.spm := by
  cases r <;> simp at h <;> simp [writeReg]

theorem writeReg_mdcrEl2 (r : Reg) (v : Word) (s : State) (h : r.unit ≠ .mdcrEl2) :
    (writeReg r v s).mdcrEl2 = s.mdcrEl2 := by
  cases r <;> simp at h <;> simp [writeReg]

theorem writeReg_mdcrEl3 (r : Reg) (v : Word) (s : State) (h : r.unit ≠ .mdcrEl3) :
    (writeReg r v s).mdcrEl3 = s.mdcrEl3 := by
  cases r <;> simp at h <;> simp [writeReg]

/-- A decision that performs the access only on a register of unit `u`, and redirects it to memory only if `nv`. -/
def Access.Reaches (u : RegUnit) (nv : Bool) : Access → Prop
  | .perform r => r.unit = u
  | .nvmem => nv = true
  | _ => True

section
variable {u : RegUnit} {nv : Bool}

@[simp] theorem reaches_perform {r : Reg} : (Access.perform r).Reaches u nv ↔ r.unit = u := .rfl
@[simp] theorem reaches_nvmem : Access.nvmem.Reaches u nv ↔ nv = true := .rfl
@[simp] theorem reaches_razWi : Access.razWi.Reaches u nv := trivial
@[simp] theorem reaches_nop : Access.nop.Reaches u nv := trivial
@[simp] theorem reaches_undefined : Access.undefined.Reaches u nv := trivial
@[simp] theorem reaches_trap {el : EL} : (Access.trap el).Reaches u nv := trivial
@[simp] theorem reaches_constrained {p : CuPlace} : (Access.constrained p).Reaches u nv := trivial

@[simp] theorem reaches_ite {c : Prop} [Decidable c] {a b : Access} :
    (if c then a else b).Reaches u nv ↔ if c then a.Reaches u nv else b.Reaches u nv := by split <;> rfl

@[simp] theorem reaches_trapUser (s : State) : s.trapUser.Reaches u nv := by simp [State.trapUser]
@[simp] theorem reaches_trapMonitor (s : State) : s.trapMonitor.Reaches u nv := by simp [State.trapMonitor]

/-- Resolving a CONSTRAINED UNPREDICTABLE case reaches no other unit than the listing at some index. -/
theorem constrainUnpredictable_reaches {l : Nat → State → Access} (h : ∀ i s, (l i s).Reaches u nv) (name : CuName)
    (dir : Direction) (p : CuPlace) (i : Nat) (s : State) :
    (constrainUnpredictable name dir l p i s).1.Reaches u nv := by
  unfold constrainUnpredictable
  split <;> (try split) <;> simp [h]

theorem resolve_reaches {l : Nat → State → Access} (h : ∀ i s, (l i s).Reaches u nv) (name : CuName)
    (dir : Direction) (i : Nat) (s : State) : (resolve name dir l i s).1.Reaches u nv := by
  unfold resolve
  split
  · split
    · split
      · exact constrainUnpredictable_reaches h ..
      · exact h 31 s
    · exact constrainUnpredictable_reaches h ..
  · exact h i s

end

/-! ## The listings of the writes: what each can reach -/

@[simp] theorem listingMsrPmccfiltrEl0_reaches (s : State) : (listingMsrPmccfiltrEl0 s).Reaches .pmu false := by
  unfold listingMsrPmccfiltrEl0; cases s.inp.el <;> simp
@[simp] theorem listingMsrPmccntrEl0_reaches (s : State) : (listingMsrPmccntrEl0 s).Reaches .pmu false := by
  unfold listingMsrPmccntrEl0; cases s.inp.el <;> simp
@[simp] theorem listingMsrPmcntenclrEl0_reaches (s : State) : (listingMsrPmcntenclrEl0 s).Reaches .pmu false := by
  unfold listingMsrPmcntenclrEl0; cases s.inp.el <;> simp
@[simp] theorem listingMsrPmcntensetEl0_reaches (s : State) : (listingMsrPmcntensetEl0 s).Reaches .pmu false := by
  unfold listingMsrPmcntensetEl0; cases s.inp.el <;> simp
@[simp] theorem listingMsrPmcrEl0_reaches (s : State) : (listingMsrPmcrEl0 s).Reaches .pmu false := by
  unfold listingMsrPmcrEl0; cases s.inp.el <;> simp
@[simp] theorem listingMsrPmecrEl1_reaches (s : State) : (listingMsrPmecrEl1 s).Reaches .pmu false := by
  unfold listingMsrPmecrEl1; cases s.inp.el <;> simp
@[simp] theorem listingMsrPmevcntrEl0_reaches (m : Nat) (s : State) :
    (listingMsrPmevcntrEl0 m s).Reaches .pmu false := by
  unfold listingMsrPmevcntrEl0; cases s.inp.el <;> simp
@[simp] theorem listingMsrPmevtyperEl0_reaches (m : Nat) (s : State) :
    (listingMsrPmevtyperEl0 m s).Reaches .pmu false := by
  unfold listingMsrPmevtyperEl0; cases s.inp.el <;> simp
@[simp] theorem listingMsrPmiarEl1_reaches (s : State) : (listingMsrPmiarEl1 s).Reaches .pmu false := by
  unfold listingMsrPmiarEl1; cases s.inp.el <;> simp
@[simp] theorem listingMsrPmicfiltrEl0_reaches (s : State) : (listingMsrPmicfiltrEl0 s).Reaches .pmu false := by
  unfold listingMsrPmicfiltrEl0; cases s.inp.el <;> simp
@[simp] theorem listingMsrPmicntrEl0_reaches (s : State) : (listingMsrPmicntrEl0 s).Reaches .pmu false := by
  unfold listingMsrPmicntrEl0; cases s.inp.el <;> simp
@[simp] theorem listingMsrPmintenclrEl1_reaches (s : State) : (listingMsrPmintenclrEl1 s).Reaches .pmu false := by
  unfold listingMsrPmintenclrEl1; cases s.inp.el <;> simp
@[simp] theorem listingMsrPmintensetEl1_reaches (s : State) : (listingMsrPmintensetEl1 s).Reaches .pmu false := by
  unfold listingMsrPmintensetEl1; cases s.inp.el <;> simp
@[simp] theorem listingMsrPmovsclrEl0_reaches (s : State) : (listingMsrPmovsclrEl0 s).Reaches .pmu false := by
  unfold listingMsrPmovsclrEl0; cases s.inp.el <;> simp
@[simp] theorem listingMsrPmovssetEl0_reaches (s : State) : (listingMsrPmovssetEl0 s).Reaches .pmu false := by
  unfold listingMsrPmovssetEl0; cases s.inp.el <;> simp
@[simp] theorem listingMsrPmselrEl0_reaches (s : State) : (listingMsrPmselrEl0 s).Reaches .pmu false := by
  unfold listingMsrPmselrEl0; cases s.inp.el <;> simp
@[simp] theorem listingMsrPmsscrEl1_reaches (s : State) : (listingMsrPmsscrEl1 s).Reaches .pmu false := by
  unfold listingMsrPmsscrEl1; cases s.inp.el <;> simp
@[simp] theorem listingMsrPmswincEl0_reaches (s : State) : (listingMsrPmswincEl0 s).Reaches .pmu false := by
  unfold listingMsrPmswincEl0; cases s.inp.el <;> simp
@[simp] theorem listingMsrPmuacrEl1_reaches (s : State) : (listingMsrPmuacrEl1 s).Reaches .pmu false := by
  unfold listingMsrPmuacrEl1; cases s.inp.el <;> simp
@[simp] theorem listingMsrPmuserenrEl0_reaches (s : State) : (listingMsrPmuserenrEl0 s).Reaches .pmu false := by
  unfold listingMsrPmuserenrEl0; cases s.inp.el <;> simp
@[simp] theorem listingMsrPmxevcntrEl0_reaches (m : Nat) (s : State) :
    (listingMsrPmxevcntrEl0 m s).Reaches .pmu false := by
  unfold listingMsrPmxevcntrEl0; cases s.inp.el <;> simp
@[simp] theorem listingMsrPmxevtyperEl0_reaches (m : Nat) (s : State) :
    (listingMsrPmxevtyperEl0 m s).Reaches .pmu false := by
  unfold listingMsrPmxevtyperEl0; cases s.inp.el <;> simp
@[simp] theorem listingMsrPmzrEl0_reaches (s : State) : (listingMsrPmzrEl0 s).Reaches .pmu false := by
  unfold listingMsrPmzrEl0; cases s.inp.el <;> simp
@[simp] theorem listingMsrSpmaccessrEl1_reaches (s : State) : (listingMsrSpmaccessrEl1 s).Reaches .spm true := by
  unfold listingMsrSpmaccessrEl1; cases s.inp.el <;> simp
@[simp] theorem listingMsrSpmaccessrEl12_reaches (s : State) : (listingMsrSpmaccessrEl12 s).Reaches .spm true := by
  unfold listingMsrSpmaccessrEl12; cases s.inp.el <;> simp
@[simp] theorem listingMsrSpmaccessrEl2_reaches (s : State) : (listingMsrSpmaccessrEl2 s).Reaches .spm false := by
  unfold listingMsrSpmaccessrEl2; cases s.inp.el <;> simp
@[simp] theorem listingMsrSpmaccessrEl3_reaches (s : State) : (listingMsrSpmaccessrEl3 s).Reaches .spm false := by
  unfold listingMsrSpmaccessrEl3; cases s.inp.el <;> simp
@[simp] theorem listingMsrSpmcntenclrEl0_reaches (s : State) : (listingMsrSpmcntenclrEl0 s).Reaches .spm false := by
  unfold listingMsrSpmcntenclrEl0; cases s.inp.el <;> simp
@[simp] theorem listingMsrSpmcntensetEl0_reaches (s : State) : (listingMsrSpmcntensetEl0 s).Reaches .spm false := by
  unfold listingMsrSpmcntensetEl0; cases s.inp.el <;> simp
@[simp] theorem listingMsrSpmcrEl0_reaches (s : State) : (listingMsrSpmcrEl0 s).Reaches .spm false := by
  unfold listingMsrSpmcrEl0; cases s.inp.el <;> simp
@[simp] theorem listingMsrSpmevcntrEl0_reaches (m : Nat) (s : State) :
    (listingMsrSpmevcntrEl0 m s).Reaches .spm false := by
  unfold listingMsrSpmevcntrEl0; cases s.inp.el <;> simp
@[simp] theorem listingMsrSpmevfilt2rEl0_reaches (m : Nat) (s : State) :
    (listingMsrSpmevfilt2rEl0 m s).Reaches .spm false := by
  unfold listingMsrSpmevfilt2rEl0; cases s.inp.el <;> simp
@[simp] theorem listingMsrSpmevfiltrEl0_reaches (m : Nat) (s : State) :
    (listingMsrSpmevfiltrEl0 m s).Reaches .spm false := by
  unfold listingMsrSpmevfiltrEl0; cases s.inp.el <;> simp
@[simp] theorem listingMsrSpmevtyperEl0_reaches (m : Nat) (s : State) :
    (listingMsrSpmevtyperEl0 m s).Reaches .spm false := by
  unfold listingMsrSpmevtyperEl0; cases s.inp.el <;> simp
@[simp] theorem listingMsrSpmintenclrEl1_reaches (s : State) : (listingMsrSpmintenclrEl1 s).Reaches .spm false := by
  unfold listingMsrSpmintenclrEl1; cases s.inp.el <;> simp
@[simp] theorem listingMsrSpmintensetEl1_reaches (s : State) : (listingMsrSpmintensetEl1 s).Reaches .spm false := by
  unfold listingMsrSpmintensetEl1; cases s.inp.el <;> simp
@[simp] theorem listingMsrSpmovsclrEl0_reaches (s : State) : (listingMsrSpmovsclrEl0 s).Reaches .spm false := by
  unfold listingMsrSpmovsclrEl0; cases s.inp.el <;> simp
@[simp] theorem listingMsrSpmovssetEl0_reaches (s : State) : (listingMsrSpmovssetEl0 s).Reaches .spm false := by
  unfold listingMsrSpmovssetEl0; cases s.inp.el <;> simp
@[simp] theorem listingMsrSpmrootcrEl3_reaches (s : State) : (listingMsrSpmrootcrEl3 s).Reaches .spm false := by
  unfold listingMsrSpmrootcrEl3; cases s.inp.el <;> simp
@[simp] theorem listingMsrSpmscrEl1_reaches (s : State) : (listingMsrSpmscrEl1 s).Reaches .spm false := by
  unfold listingMsrSpmscrEl1; cases s.inp.el <;> simp
@[simp] theorem listingMsrSpmselrEl0_reaches (s : State) : (listingMsrSpmselrEl0 s).Reaches .spm false := by
  unfold listingMsrSpmselrEl0; cases s.inp.el <;> simp
@[simp] theorem listingMsrSpmzrEl0_reaches (s : State) : (listingMsrSpmzrEl0 s).Reaches .spm false := by
  unfold listingMsrSpmzrEl0; cases s.inp.el <;> simp
@[simp] theorem listingMsrMdcrEl2_reaches (s : State) : (listingMsrMdcrEl2 s).Reaches .mdcrEl2 false := by
  unfold listingMsrMdcrEl2; cases s.inp.el <;> simp
@[simp] theorem listingMsrMdcrEl3_reaches (s : State) : (listingMsrMdcrEl3 s).Reaches .mdcrEl3 false := by
  unfold listingMsrMdcrEl3; cases s.inp.el <;> simp

/-! ## The end of every instruction -/

/-- The unit whose registers an `MSR` may write: op0 is 0b10 in the System PMU names (R201). -/
def writeUnit : Instr → RegUnit
  | .msrMdcrEl2 _ => .mdcrEl2
  | .msrMdcrEl3 _ => .mdcrEl3
  | i => if i.key.getLsbD 14 then .pmu else .spm

/-- The two `MSR` that may become the memory access of R160. -/
def redirects : Instr → Bool
  | .msrSpmaccessrEl1 _ | .msrSpmaccessrEl12 _ => true
  | _ => false

/-- How instruction `i` ends at `s`: an `MRS` (bit [21] of the word is 1) in a read, an `MSR` in a write of its own
unit, in either case after at most one drawn value. -/
inductive Ends (i : Instr) (s : State) : Prop
  | read {a : Access} {s₁ : State} (drawn : s₁ = s ∨ s₁ = s.drawn 1) (dir : i.key.getLsbD 16 = true)
      (eq : exec i s = finishRead a i.rt s₁)
  | write {a : Access} {s₁ : State} (drawn : s₁ = s ∨ s₁ = s.drawn 1) (dir : i.key.getLsbD 16 = false)
      (eq : exec i s = finishWrite a i.rt s₁) (reaches : a.Reaches (writeUnit i) (redirects i))

section
variable {i : Instr} {s s₁ : State} {a : Access} {l op0 op1 crn crm op2 : Nat}

theorem Ends.mrs (key : i.key = sysKey l op0 op1 crn crm op2)
    (dir : (sysKey l op0 op1 crn crm op2).getLsbD 16 = true) (drawn : s₁ = s ∨ s₁ = s.drawn 1)
    (eq : exec i s = finishRead a i.rt s₁) : Ends i s :=
  .read drawn (key ▸ dir) eq

theorem Ends.msr (u : RegUnit) (nv : Bool) (key : i.key = sysKey l op0 op1 crn crm op2)
    (dir : (sysKey l op0 op1 crn crm op2).getLsbD 16 = false) (unit : writeUnit i = u) (nvmem : redirects i = nv)
    (drawn : s₁ = s ∨ s₁ = s.drawn 1) (eq : exec i s = finishWrite a i.rt s₁) (reaches : a.Reaches u nv) : Ends i s :=
  .write drawn (key ▸ dir) eq (unit ▸ nvmem ▸ reaches)

/-- Of all `MSR` but those of MDCR_EL2 and MDCR_EL3, the field op0 decides the unit. -/
theorem writeUnit_of_key {u : RegUnit} (key : i.key = sysKey l op0 op1 crn crm op2)
    (other : writeUnit i = if i.key.getLsbD 14 then .pmu else .spm)
    (unit : (if (sysKey l op0 op1 crn crm op2).getLsbD 14 then RegUnit.pmu else .spm) = u) : writeUnit i = u := by
  rw [other, key, unit]

end

/-- Every instruction ends in the direction that bit [21] of its word says, and every `MSR` in its own unit. -/
theorem exec_ends (i : Instr) (s : State) : Ends i s := by
  cases i with
  | mrsPmccfiltrEl0 t | mrsPmccntrEl0 t | mrsPmccntsvrEl1 t | mrsPmceid0El0 t | mrsPmceid1El0 t | mrsPmcntenclrEl0 t
  | mrsPmcntensetEl0 t | mrsPmcrEl0 t | mrsPmecrEl1 t | mrsPmevcntsvr0El1 t | mrsPmevcntsvr1El1 t
  | mrsPmevcntsvr2El1 t | mrsPmevcntsvr3El1 t | mrsPmevcntsvr4El1 t | mrsPmevcntsvr5El1 t | mrsPmevcntsvr6El1 t
  | mrsPmevcntsvr7El1 t | mrsPmevcntsvr8El1 t | mrsPmevcntsvr9El1 t | mrsPmevcntsvr10El1 t | mrsPmevcntsvr11El1 t
  | mrsPmevcntsvr12El1 t | mrsPmevcntsvr13El1 t | mrsPmevcntsvr14El1 t | mrsPmevcntsvr15El1 t | mrsPmevcntsvr16El1 t
  | mrsPmevcntsvr17El1 t | mrsPmevcntsvr18El1 t | mrsPmevcntsvr19El1 t | mrsPmevcntsvr20El1 t | mrsPmevcntsvr21El1 t
  | mrsPmevcntsvr22El1 t | mrsPmevcntsvr23El1 t | mrsPmevcntsvr24El1 t | mrsPmevcntsvr25El1 t | mrsPmevcntsvr26El1 t
  | mrsPmevcntsvr27El1 t | mrsPmevcntsvr28El1 t | mrsPmevcntsvr29El1 t | mrsPmevcntsvr30El1 t | mrsPmiarEl1 t
  | mrsPmicfiltrEl0 t | mrsPmicntrEl0 t | mrsPmicntsvrEl1 t | mrsPmintenclrEl1 t | mrsPmintensetEl1 t | mrsPmmirEl1 t
  | mrsPmovsclrEl0 t | mrsPmovssetEl0 t | mrsPmselrEl0 t | mrsPmsscrEl1 t | mrsPmuacrEl1 t | mrsPmuserenrEl0 t
  | mrsSpmaccessrEl1 t | mrsSpmaccessrEl12 t | mrsSpmaccessrEl2 t | mrsSpmaccessrEl3 t | mrsSpmcfgrEl1 t
  | mrsSpmcgcr0El1 t | mrsSpmcgcr1El1 t | mrsSpmcntenclrEl0 t | mrsSpmcntensetEl0 t | mrsSpmcrEl0 t
  | mrsSpmdevaffEl1 t | mrsSpmdevarchEl1 t | mrsSpmevcntr0El0 t | mrsSpmevcntr1El0 t | mrsSpmevcntr2El0 t
  | mrsSpmevcntr3El0 t | mrsSpmevcntr4El0 t | mrsSpmevcntr5El0 t | mrsSpmevcntr6El0 t | mrsSpmevcntr7El0 t
  | mrsSpmevcntr8El0 t | mrsSpmevcntr9El0 t | mrsSpmevcntr10El0 t | mrsSpmevcntr11El0 t | mrsSpmevcntr12El0 t
  | mrsSpmevcntr13El0 t | mrsSpmevcntr14El0 t | mrsSpmevcntr15El0 t | mrsSpmevfilt2r0El0 t | mrsSpmevfilt2r1El0 t
  | mrsSpmevfilt2r2El0 t | mrsSpmevfilt2r3El0 t | mrsSpmevfilt2r4El0 t | mrsSpmevfilt2r5El0 t | mrsSpmevfilt2r6El0 t
  | mrsSpmevfilt2r7El0 t | mrsSpmevfilt2r8El0 t | mrsSpmevfilt2r9El0 t | mrsSpmevfilt2r10El0 t
  | mrsSpmevfilt2r11El0 t | mrsSpmevfilt2r12El0 t | mrsSpmevfilt2r13El0 t | mrsSpmevfilt2r14El0 t
  | mrsSpmevfilt2r15El0 t | mrsSpmevfiltr0El0 t | mrsSpmevfiltr1El0 t | mrsSpmevfiltr2El0 t | mrsSpmevfiltr3El0 t
  | mrsSpmevfiltr4El0 t | mrsSpmevfiltr5El0 t | mrsSpmevfiltr6El0 t | mrsSpmevfiltr7El0 t | mrsSpmevfiltr8El0 t
  | mrsSpmevfiltr9El0 t | mrsSpmevfiltr10El0 t | mrsSpmevfiltr11El0 t | mrsSpmevfiltr12El0 t | mrsSpmevfiltr13El0 t
  | mrsSpmevfiltr14El0 t | mrsSpmevfiltr15El0 t | mrsSpmevtyper0El0 t | mrsSpmevtyper1El0 t | mrsSpmevtyper2El0 t
  | mrsSpmevtyper3El0 t | mrsSpmevtyper4El0 t | mrsSpmevtyper5El0 t | mrsSpmevtyper6El0 t | mrsSpmevtyper7El0 t
  | mrsSpmevtyper8El0 t | mrsSpmevtyper9El0 t | mrsSpmevtyper10El0 t | mrsSpmevtyper11El0 t | mrsSpmevtyper12El0 t
  | mrsSpmevtyper13El0 t | mrsSpmevtyper14El0 t | mrsSpmevtyper15El0 t | mrsSpmiidrEl1 t | mrsSpmintenclrEl1 t
  | mrsSpmintensetEl1 t | mrsSpmovsclrEl0 t | mrsSpmovssetEl0 t | mrsSpmrootcrEl3 t | mrsSpmscrEl1 t
  | mrsSpmselrEl0 t | mrsMdcrEl2 t | mrsMdcrEl3 t =>
    exact .mrs rfl (by decide) (.inl rfl) rfl
  | mrsPmevcntr0El0 t | mrsPmevcntr1El0 t | mrsPmevcntr2El0 t | mrsPmevcntr3El0 t | mrsPmevcntr4El0 t
  | mrsPmevcntr5El0 t | mrsPmevcntr6El0 t | mrsPmevcntr7El0 t | mrsPmevcntr8El0 t | mrsPmevcntr9El0 t
  | mrsPmevcntr10El0 t | mrsPmevcntr11El0 t | mrsPmevcntr12El0 t | mrsPmevcntr13El0 t | mrsPmevcntr14El0 t
  | mrsPmevcntr15El0 t | mrsPmevcntr16El0 t | mrsPmevcntr17El0 t | mrsPmevcntr18El0 t | mrsPmevcntr19El0 t
  | mrsPmevcntr20El0 t | mrsPmevcntr21El0 t | mrsPmevcntr22El0 t | mrsPmevcntr23El0 t | mrsPmevcntr24El0 t
  | mrsPmevcntr25El0 t | mrsPmevcntr26El0 t | mrsPmevcntr27El0 t | mrsPmevcntr28El0 t | mrsPmevcntr29El0 t
  | mrsPmevcntr30El0 t | mrsPmevtyper0El0 t | mrsPmevtyper1El0 t | mrsPmevtyper2El0 t | mrsPmevtyper3El0 t
  | mrsPmevtyper4El0 t | mrsPmevtyper5El0 t | mrsPmevtyper6El0 t | mrsPmevtyper7El0 t | mrsPmevtyper8El0 t
  | mrsPmevtyper9El0 t | mrsPmevtyper10El0 t | mrsPmevtyper11El0 t | mrsPmevtyper12El0 t | mrsPmevtyper13El0 t
  | mrsPmevtyper14El0 t | mrsPmevtyper15El0 t | mrsPmevtyper16El0 t | mrsPmevtyper17El0 t | mrsPmevtyper18El0 t
  | mrsPmevtyper19El0 t | mrsPmevtyper20El0 t | mrsPmevtyper21El0 t | mrsPmevtyper22El0 t | mrsPmevtyper23El0 t
  | mrsPmevtyper24El0 t | mrsPmevtyper25El0 t | mrsPmevtyper26El0 t | mrsPmevtyper27El0 t | mrsPmevtyper28El0 t
  | mrsPmevtyper29El0 t | mrsPmevtyper30El0 t | mrsPmxevcntrEl0 t | mrsPmxevtyperEl0 t =>
    exact .mrs rfl (by decide) (resolve_state ..) rfl
  | msrPmccfiltrEl0 t | msrPmccntrEl0 t | msrPmcntenclrEl0 t | msrPmcntensetEl0 t | msrPmcrEl0 t | msrPmecrEl1 t
  | msrPmiarEl1 t | msrPmicfiltrEl0 t | msrPmicntrEl0 t | msrPmintenclrEl1 t | msrPmintensetEl1 t | msrPmovsclrEl0 t
  | msrPmovssetEl0 t | msrPmselrEl0 t | msrPmsscrEl1 t | msrPmswincEl0 t | msrPmuacrEl1 t | msrPmuserenrEl0 t
  | msrPmzrEl0 t =>
    exact .msr .pmu false rfl (by decide) (writeUnit_of_key rfl rfl (by decide)) rfl (.inl rfl) rfl (by simp)
  | msrPmevcntr0El0 t | msrPmevcntr1El0 t | msrPmevcntr2El0 t | msrPmevcntr3El0 t | msrPmevcntr4El0 t
  | msrPmevcntr5El0 t | msrPmevcntr6El0 t | msrPmevcntr7El0 t | msrPmevcntr8El0 t | msrPmevcntr9El0 t
  | msrPmevcntr10El0 t | msrPmevcntr11El0 t | msrPmevcntr12El0 t | msrPmevcntr13El0 t | msrPmevcntr14El0 t
  | msrPmevcntr15El0 t | msrPmevcntr16El0 t | msrPmevcntr17El0 t | msrPmevcntr18El0 t | msrPmevcntr19El0 t
  | msrPmevcntr20El0 t | msrPmevcntr21El0 t | msrPmevcntr22El0 t | msrPmevcntr23El0 t | msrPmevcntr24El0 t
  | msrPmevcntr25El0 t | msrPmevcntr26El0 t | msrPmevcntr27El0 t | msrPmevcntr28El0 t | msrPmevcntr29El0 t
  | msrPmevcntr30El0 t | msrPmevtyper0El0 t | msrPmevtyper1El0 t | msrPmevtyper2El0 t | msrPmevtyper3El0 t
  | msrPmevtyper4El0 t | msrPmevtyper5El0 t | msrPmevtyper6El0 t | msrPmevtyper7El0 t | msrPmevtyper8El0 t
  | msrPmevtyper9El0 t | msrPmevtyper10El0 t | msrPmevtyper11El0 t | msrPmevtyper12El0 t | msrPmevtyper13El0 t
  | msrPmevtyper14El0 t | msrPmevtyper15El0 t | msrPmevtyper16El0 t | msrPmevtyper17El0 t | msrPmevtyper18El0 t
  | msrPmevtyper19El0 t | msrPmevtyper20El0 t | msrPmevtyper21El0 t | msrPmevtyper22El0 t | msrPmevtyper23El0 t
  | msrPmevtyper24El0 t | msrPmevtyper25El0 t | msrPmevtyper26El0 t | msrPmevtyper27El0 t | msrPmevtyper28El0 t
  | msrPmevtyper29El0 t | msrPmevtyper30El0 t | msrPmxevcntrEl0 t | msrPmxevtyperEl0 t =>
    exact .msr .pmu false rfl (by decide) (writeUnit_of_key rfl rfl (by decide)) rfl (resolve_state ..) rfl
      (resolve_reaches (by simp) ..)
  | msrSpmaccessrEl2 t | msrSpmaccessrEl3 t | msrSpmcntenclrEl0 t | msrSpmcntensetEl0 t | msrSpmcrEl0 t
  | msrSpmevcntr0El0 t | msrSpmevcntr1El0 t | msrSpmevcntr2El0 t | msrSpmevcntr3El0 t | msrSpmevcntr4El0 t
  | msrSpmevcntr5El0 t | msrSpmevcntr6El0 t | msrSpmevcntr7El0 t | msrSpmevcntr8El0 t | msrSpmevcntr9El0 t
  | msrSpmevcntr10El0 t | msrSpmevcntr11El0 t | msrSpmevcntr12El0 t | msrSpmevcntr13El0 t | msrSpmevcntr14El0 t
  | msrSpmevcntr15El0 t | msrSpmevfilt2r0El0 t | msrSpmevfilt2r1El0 t | msrSpmevfilt2r2El0 t | msrSpmevfilt2r3El0 t
  | msrSpmevfilt2r4El0 t | msrSpmevfilt2r5El0 t | msrSpmevfilt2r6El0 t | msrSpmevfilt2r7El0 t | msrSpmevfilt2r8El0 t
  | msrSpmevfilt2r9El0 t | msrSpmevfilt2r10El0 t | msrSpmevfilt2r11El0 t | msrSpmevfilt2r12El0 t
  | msrSpmevfilt2r13El0 t | msrSpmevfilt2r14El0 t | msrSpmevfilt2r15El0 t | msrSpmevfiltr0El0 t | msrSpmevfiltr1El0 t
  | msrSpmevfiltr2El0 t | msrSpmevfiltr3El0 t | msrSpmevfiltr4El0 t | msrSpmevfiltr5El0 t | msrSpmevfiltr6El0 t
  | msrSpmevfiltr7El0 t | msrSpmevfiltr8El0 t | msrSpmevfiltr9El0 t | msrSpmevfiltr10El0 t | msrSpmevfiltr11El0 t
  | msrSpmevfiltr12El0 t | msrSpmevfiltr13El0 t | msrSpmevfiltr14El0 t | msrSpmevfiltr15El0 t | msrSpmevtyper0El0 t
  | msrSpmevtyper1El0 t | msrSpmevtyper2El0 t | msrSpmevtyper3El0 t | msrSpmevtyper4El0 t | msrSpmevtyper5El0 t
  | msrSpmevtyper6El0 t | msrSpmevtyper7El0 t | msrSpmevtyper8El0 t | msrSpmevtyper9El0 t | msrSpmevtyper10El0 t
  | msrSpmevtyper11El0 t | msrSpmevtyper12El0 t | msrSpmevtyper13El0 t | msrSpmevtyper14El0 t | msrSpmevtyper15El0 t
  | msrSpmintenclrEl1 t | msrSpmintensetEl1 t | msrSpmovsclrEl0 t | msrSpmovssetEl0 t | msrSpmrootcrEl3 t
  | msrSpmscrEl1 t | msrSpmselrEl0 t | msrSpmzrEl0 t =>
    exact .msr .spm false rfl (by decide) (writeUnit_of_key rfl rfl (by decide)) rfl (.inl rfl) rfl (by simp)
  | msrSpmaccessrEl1 t | msrSpmaccessrEl12 t =>
    exact .msr .spm true rfl (by decide) (writeUnit_of_key rfl rfl (by decide)) rfl (.inl rfl) rfl (by simp)
  | msrMdcrEl2 t =>
    exact .msr .mdcrEl2 false rfl (by decide) rfl rfl (.inl rfl) rfl (by simp)
  | msrMdcrEl3 t =>
    exact .msr .mdcrEl3 false rfl (by decide) rfl rfl (.inl rfl) rfl (by simp)

theorem exec_of_mrs {i : Instr} (s : State) (hdir : i.key.getLsbD 16 = true) :
    ∃ a s₁, (s₁ = s ∨ s₁ = s.drawn 1) ∧ exec i s = finishRead a i.rt s₁ := by
  obtain ⟨drawn, _, eq⟩ | ⟨_, dir, _, _⟩ := exec_ends i s
  · exact ⟨_, _, drawn, eq⟩
  · cases hdir.symm.trans dir

theorem exec_of_msr {i : Instr} (s : State) (hdir : i.key.getLsbD 16 = false) :
    ∃ a s₁, (s₁ = s ∨ s₁ = s.drawn 1) ∧ exec i s = finishWrite a i.rt s₁ ∧ a.Reaches (writeUnit i) (redirects i) := by
  obtain ⟨_, dir, _⟩ | ⟨drawn, _, eq, reaches⟩ := exec_ends i s
  · cases hdir.symm.trans dir
  · exact ⟨_, _, drawn, eq, reaches⟩

/-! ## The frame of an MRS -/

theorem finishRead_readX {a : Access} {t r : Nat} {s s' : State} (h : finishRead a t s = .next s') (hr : r ≠ t) :
    s'.readX r = s.readX r := by
  rcases finishRead_eq a t s with ⟨r, _, e⟩ | ⟨_, e⟩ | ⟨_, e⟩ | ⟨_, e⟩ | ⟨_, e⟩ | ⟨el, _, e⟩ <;>
    rw [e] at h <;> cases h <;> simp [readX_writeX_ne _ _ hr]

/-- Settles O14: an MRS ends in a read, whose only write is that of `Xt`. -/
theorem readsWriteOnlyTheirRegister : Obligations.ReadsWriteOnlyTheirRegister := by
  intro i s s' hdir h
  obtain ⟨a, s₁, hs₁, he⟩ := exec_of_mrs s hdir
  rw [he] at h
  have hx : ∀ r, r ≠ i.rt → s'.readX r = s₁.readX r := fun r hr => finishRead_readX h hr
  obtain ⟨hcfg, hinp, hchoices, hpmu, hspm, hmdcr2, hmdcr3, hmem, hsched⟩ := finishRead_next h
  obtain rfl | rfl := hs₁ <;>
    exact ⟨hx, hpmu, hspm, hmdcr2, hmdcr3, hinp, hchoices, hcfg, hsched, fun b => congrArg (readByte · b) hmem⟩

/-! ## The frame of an MSR -/

section
variable {a : Access} {t : Nat} {s s' : State} {u : RegUnit} {nv : Bool}

/-- A write of unit `u` changes no other unit, but that one of MDCR_EL2 can change the edge history of the PMU. -/
theorem finishWrite_units (h : finishWrite a t s = .next s') (ha : a.Reaches u nv) :
    (u = .spm ∨ u = .mdcrEl3 → s'.pmu = s.pmu) ∧ (u ≠ .spm → s'.spm = s.spm) ∧
      (u ≠ .mdcrEl2 → s'.mdcrEl2 = s.mdcrEl2) ∧ (u ≠ .mdcrEl3 → s'.mdcrEl3 = s.mdcrEl3) := by
  rcases finishWrite_eq a t s with ⟨r, rfl, e⟩ | ⟨_, e⟩ | ⟨_, e⟩ | ⟨_, e⟩ | ⟨el, _, e⟩ <;> rw [e] at h <;> cases h
  case inl =>
    obtain rfl : r.unit = u := ha
    exact ⟨writeReg_pmu r _ s, writeReg_spm r _ s, writeReg_mdcrEl2 r _ s, writeReg_mdcrEl3 r _ s⟩
  all_goals simp

/-- A write that is not redirected leaves memory alone, and a redirected one all bytes outside the cell (R160). -/
theorem finishWrite_mem (h : finishWrite a t s = .next s') (ha : a.Reaches u nv) :
    (nv = false → s'.mem = s.mem) ∧
      ∀ b, (∀ k < 8, s.nvmemAddr k ≠ b) → readByte s'.mem b = readByte s.mem b := by
  rcases finishWrite_eq a t s with ⟨r, _, e⟩ | ⟨_, e⟩ | ⟨rfl, e⟩ | ⟨_, e⟩ | ⟨el, _, e⟩ <;> rw [e] at h <;> cases h
  case inr.inr.inl =>
    obtain rfl : nv = true := ha
    refine ⟨nofun, fun b hb => readByte_nvmemWrite_other s _ b ?_⟩
    simpa [State.addressExists] using hb
  all_goals simp

end

theorem writeUnit_eq_spm {i : Instr} (h : i.key.getLsbD 14 = false) : writeUnit i = .spm := by
  unfold writeUnit
  split
  case h_1 t => exact absurd h (by simp only [Instr.key]; decide)
  case h_2 t => exact absurd h (by simp only [Instr.key]; decide)
  case h_3 => rw [h]; rfl

theorem writeUnit_ne_spm {i : Instr} (h : i.key.getLsbD 14 = true) : writeUnit i ≠ .spm := by
  unfold writeUnit
  split
  case h_1 => simp
  case h_2 => simp
  case h_3 => rw [h]; simp

theorem writeUnit_ne_mdcrEl2 {i : Instr} (h : ∀ t, i ≠ .msrMdcrEl2 t) : writeUnit i ≠ .mdcrEl2 := by
  unfold writeUnit
  split
  case h_1 t => exact absurd rfl (h t)
  case h_2 => simp
  case h_3 => split <;> simp

theorem writeUnit_ne_mdcrEl3 {i : Instr} (h : ∀ t, i ≠ .msrMdcrEl3 t) : writeUnit i ≠ .mdcrEl3 := by
  unfold writeUnit
  split
  case h_1 => simp
  case h_2 t => exact absurd rfl (h t)
  case h_3 => split <;> simp

theorem redirects_eq_false {i : Instr} (h : ∀ t, i ≠ .msrSpmaccessrEl1 t ∧ i ≠ .msrSpmaccessrEl12 t) :
    redirects i = false := by
  unfold redirects
  split
  case h_1 t => exact absurd rfl (h t).1
  case h_2 t => exact absurd rfl (h t).2
  case h_3 => rfl

/-- Settles O15: an MSR ends in a write, and the decision of its listing reaches its own unit only. -/
theorem writesChangeTheirUnitOnly : Obligations.WritesChangeTheirUnitOnly := by
  intro i s s' hdir h
  obtain ⟨a, s₁, hs₁, he, ha⟩ := exec_of_msr s hdir
  rw [he] at h
  obtain ⟨hcfg, hinp, hchoices, hx, hsched⟩ := finishWrite_next h
  obtain ⟨hpmu, hspm, hmdcr2, hmdcr3⟩ := finishWrite_units h ha
  obtain ⟨hmem, hcell⟩ := finishWrite_mem h ha
  obtain rfl | rfl := hs₁ <;>
    exact ⟨hx, hinp, hchoices, hcfg, hsched, fun hi b => congrArg (readByte · b) (hmem (redirects_eq_false hi)), hcell,
      fun hop => hspm (writeUnit_ne_spm hop), fun hop => hpmu (.inl (writeUnit_eq_spm hop)),
      fun hi => hmdcr2 (writeUnit_ne_mdcrEl2 hi), fun hi => hmdcr3 (writeUnit_ne_mdcrEl3 hi),
      by rintro t rfl; exact hpmu (.inr rfl)⟩

end Sys2Proof.Machine

/-! The memory cell of R160: what a store of eight bytes leaves in it, when the two SPMACCESSR names of EL1 are
redirected to it, and what a step does when there is no instruction to run. -/

namespace Sys2Proof.Machine

/-! ## Several bytes stored one after another -/

section
variable (addr : Nat → Nat) (val : Nat → Byte)

theorem memWf_foldl_writeByte (l : List Nat) {m : List Host.Cell} (w : memWf m = true) :
    memWf (l.foldl (fun m i => writeByte m (addr i) (val i)) m) = true := by
  induction l generalizing m with
  | nil => exact w
  | cons i rest ih => exact ih (memWf_writeByte (addr i) (val i) w)

/-- Bytes stored at `n` different addresses are all there afterwards. -/
theorem readByte_foldl_writeByte {m : List Host.Cell} (w : memWf m = true) {n i : Nat}
    (hinj : ∀ a < n, ∀ b < n, addr a = addr b → a = b) (hi : i < n) :
    readByte ((List.range n).foldl (fun m i => writeByte m (addr i) (val i)) m) (addr i) = val i := by
  induction n with
  | zero => omega
  | succ n ih =>
    rw [List.range_succ, List.foldl_append]
    by_cases h : i = n
    · subst h
      exact readByte_writeByte_self _ _ (memWf_foldl_writeByte addr val _ w)
    · have hne : addr i ≠ addr n := fun e => h (hinj i hi n (by omega) e)
      have hold := ih (fun a ha b hb => hinj a (by omega) b (by omega)) (by omega)
      exact (readByte_writeByte_ne hne _ _).trans hold

end

/-! ## The cell (R153, R160) -/

theorem nvmemAddr_inj (s : State) {a b : Nat} (ha : a < 8) (hb : b < 8) (h : s.nvmemAddr a = s.nvmemAddr b) :
    a = b := by
  unfold State.nvmemAddr at h
  omega

theorem readByte_nvmemWrite_cell {s : State} (w : memWf s.mem = true) (v : Word) {i : Nat} (hi : i < 8) :
    readByte (s.nvmemWrite v).mem (s.nvmemAddr i) = v.extractLsb' (8 * s.nvmemLane i) 8 :=
  readByte_foldl_writeByte s.nvmemAddr (fun i => v.extractLsb' (8 * s.nvmemLane i) 8) w
    (fun _ ha _ hb => nvmemAddr_inj s ha hb) hi

theorem nvmemLane_lt (s : State) {i : Nat} (h : i < 8) : s.nvmemLane i < 8 := by
  unfold State.nvmemLane
  split <;> omega

/-- Either byte order is its own inverse. -/
theorem nvmemLane_nvmemLane (s : State) {i : Nat} (h : i < 8) : s.nvmemLane (s.nvmemLane i) = i := by
  unfold State.nvmemLane
  split <;> omega

theorem bit_foldl_or (l : List Nat) (f : Nat → Word) (acc : Word) (j : Nat) :
    bit (l.foldl (fun acc i => acc ||| f i) acc) j = (bit acc j || l.any fun i => bit (f i) j) := by
  induction l generalizing acc with
  | nil => simp
  | cons i rest ih => simp [ih, Bool.or_assoc]

/-- Byte `k` of a word, put back in its place, is the word there and 0 elsewhere. -/
theorem bit_byteInPlace (v : Word) (k j : Nat) (hj : j < 64) :
    bit ((v.extractLsb' (8 * k) 8).setWidth 64 <<< (8 * k)) j = (decide (j / 8 = k) && bit v j) := by
  by_cases h : j / 8 = k
  · have hlo : 8 * k ≤ j := by omega
    have hhi : j - 8 * k < 8 := by omega
    simp [bit, h, hj, hhi, Nat.not_lt.mpr hlo, Nat.add_sub_cancel' hlo]
  · have hout : j < 8 * k ∨ ¬ j - 8 * k < 8 := by omega
    rcases hout with hout | hout <;> simp [bit, h, hout]

/-- A read of the cell gives the value last written, in either byte order (R153, R160). -/
theorem nvmemRead_nvmemWrite {s : State} (w : memWf s.mem = true) (v : Word) : (s.nvmemWrite v).nvmemRead = v := by
  refine word_eq_of_bit fun j hj => ?_
  have hbyte : ∀ i < 8, bit ((readByte (s.nvmemWrite v).mem (s.nvmemAddr i)).setWidth 64 <<< (8 * s.nvmemLane i)) j =
      (decide (j / 8 = s.nvmemLane i) && bit v j) := fun i hi => by
    rw [readByte_nvmemWrite_cell w v hi, bit_byteInPlace v _ j hj]
  have hread : bit (s.nvmemWrite v).nvmemRead j = (bit 0 j || (List.range 8).any fun i =>
      bit ((readByte (s.nvmemWrite v).mem (s.nvmemAddr i)).setWidth 64 <<< (8 * s.nvmemLane i)) j) :=
    bit_foldl_or ..
  rw [hread, bit_zero, Bool.false_or, Bool.eq_iff_iff, List.any_eq_true]
  constructor
  · rintro ⟨i, hi, hbit⟩
    rw [hbyte i (List.mem_range.mp hi), Bool.and_eq_true] at hbit
    exact hbit.2
  · intro hv
    have hlane : j / 8 < 8 := by omega
    refine ⟨s.nvmemLane (j / 8), List.mem_range.mpr (nvmemLane_lt s hlane), ?_⟩
    rw [hbyte _ (nvmemLane_lt s hlane), nvmemLane_nvmemLane s hlane, hv]
    simp

/-! ## The redirected names at EL1 (R1014 to R1017) -/

section
variable {s : State}

theorem privOpen_el1 {monitor guest : Bool} (hel : s.inp.el = .el1) :
    s.privOpen monitor guest ↔ (s.haveEL3 && monitor) = false ∧ guest = false := by simp [State.privOpen, hel]

/-- EL3SDDUndefPriority() matters only where EL3 exists and would trap. -/
theorem undefPriority_and_eq_false {monitor : Bool} (h : (s.haveEL3 && monitor) = false) :
    (s.undefPriority && monitor) = false := by
  rw [State.undefPriority, Bool.and_right_comm, h, Bool.false_and]

/-- What an open access at EL1 to a per-PE System PMU register says of each control that its listing tests; `trap` is
the fine-grained one. -/
theorem spmPe_controls_el1 {trap : Bool} (hel : s.inp.el = .el1)
    (h : s.privOpen (!s.mdcr3EnPM2) (trap || (s.el2Enabled && !s.mdcr2EnSPM))) :
    (s.undefPriority && !s.mdcr3EnPM2) = false ∧ trap = false ∧ (s.el2Enabled && !s.mdcr2EnSPM) = false ∧
      (s.haveEL3 && !s.mdcr3EnPM2) = false := by
  obtain ⟨hmonitor, hguest⟩ := (privOpen_el1 hel).mp h
  obtain ⟨htrap, henspm⟩ := Bool.or_eq_false_iff.mp hguest
  exact ⟨undefPriority_and_eq_false hmonitor, htrap, henspm, hmonitor⟩

theorem listingMrsSpmaccessrEl1_redirected (hel : s.inp.el = .el1) (hopen : s.spmPeReadOpen .nSPMACCESSR_EL1)
    (hnvx : s.inp.nvx = 7) : listingMrsSpmaccessrEl1 s = .nvmem := by
  obtain ⟨hspmu, haa64, hpriv⟩ := hopen
  obtain ⟨hundef, hfgt, henspm, hmonitor⟩ := spmPe_controls_el1 hel hpriv
  simp [listingMrsSpmaccessrEl1, hel, hspmu, haa64, hundef, hfgt, henspm, hmonitor, hnvx]

theorem listingMsrSpmaccessrEl1_redirected (hel : s.inp.el = .el1) (hopen : s.spmPeWriteOpen .nSPMACCESSR_EL1)
    (hnvx : s.inp.nvx = 7) : listingMsrSpmaccessrEl1 s = .nvmem := by
  obtain ⟨hspmu, haa64, hpriv⟩ := hopen
  obtain ⟨hundef, hfgt, henspm, hmonitor⟩ := spmPe_controls_el1 hel hpriv
  simp [listingMsrSpmaccessrEl1, hel, hspmu, haa64, hundef, hfgt, henspm, hmonitor, hnvx]

theorem listingMrsSpmaccessrEl12_redirected (hel : s.inp.el = .el1) (hspmu : s.has .SPMU = true)
    (haa64 : s.has .AA64 = true) (hnvx : s.inp.nvx = 5) : listingMrsSpmaccessrEl12 s = .nvmem := by
  simp [listingMrsSpmaccessrEl12, hel, hspmu, haa64, hnvx]

theorem listingMsrSpmaccessrEl12_redirected (hel : s.inp.el = .el1) (hspmu : s.has .SPMU = true)
    (haa64 : s.has .AA64 = true) (hnvx : s.inp.nvx = 5) : listingMsrSpmaccessrEl12 s = .nvmem := by
  simp [listingMsrSpmaccessrEl12, hel, hspmu, haa64, hnvx]

end

section
variable (t : Nat) (s : State)

theorem exec_mrsSpmaccessrEl1 : exec (.mrsSpmaccessrEl1 t) s = finishRead (listingMrsSpmaccessrEl1 s) t s := rfl
theorem exec_msrSpmaccessrEl1 : exec (.msrSpmaccessrEl1 t) s = finishWrite (listingMsrSpmaccessrEl1 s) t s := rfl
theorem exec_mrsSpmaccessrEl12 : exec (.mrsSpmaccessrEl12 t) s = finishRead (listingMrsSpmaccessrEl12 s) t s := rfl
theorem exec_msrSpmaccessrEl12 : exec (.msrSpmaccessrEl12 t) s = finishWrite (listingMsrSpmaccessrEl12 s) t s := rfl

theorem finishRead_nvmem : finishRead .nvmem t s = .next (s.writeX t s.nvmemRead).advance := rfl
theorem finishWrite_nvmem : finishWrite .nvmem t s = .next (s.nvmemWrite (s.readX t)).advance := rfl

end

/-- Settles O49: each listing decides for the memory access, and the eight bytes of the cell lie at eight different
addresses in either order. -/
theorem nestedVirtualizationRedirectsToMemory : Obligations.NestedVirtualizationRedirectsToMemory := by
  intro s t hel
  refine ⟨?mrsEl1, ?msrEl1, fun hspmu haa64 hnvx => ⟨?mrsEl12, ?msrEl12⟩, nvmemRead_nvmemWrite⟩
  case mrsEl1 =>
    intro hopen hnvx
    rw [exec_mrsSpmaccessrEl1, listingMrsSpmaccessrEl1_redirected hel hopen hnvx, finishRead_nvmem]
  case msrEl1 =>
    intro hopen hnvx
    rw [exec_msrSpmaccessrEl1, listingMsrSpmaccessrEl1_redirected hel hopen hnvx, finishWrite_nvmem]
  case mrsEl12 =>
    rw [exec_mrsSpmaccessrEl12, listingMrsSpmaccessrEl12_redirected hel hspmu haa64 hnvx, finishRead_nvmem]
  case msrEl12 =>
    rw [exec_msrSpmaccessrEl12, listingMsrSpmaccessrEl12_redirected hel hspmu haa64 hnvx, finishWrite_nvmem]

/-! ## A step with no instruction to run -/

theorem step_of_schedule_env {s : State} {e : EnvEvent} {moves : List Move} (h : s.schedule = .env e :: moves) :
    step s = envStep e { s with schedule := moves } := by simp [step, h]

section
variable {s : State} {w : InstrWord} {rest : List InstrWord} {e : Exception}

theorem executePE_of_pending (hp : s.pending = some e) : executePE s = .refused (.exceptionOutstanding e) := by
  simp [executePE, hp]

theorem executePE_of_program_nil (hp : s.pending = none) (hw : s.program = []) :
    executePE s = .refused .noInstruction := by
  simp [executePE, State.fetch, hp, hw]

theorem executePE_of_program_cons (hp : s.pending = none) (hw : s.program = w :: rest) :
    executePE s = executeWord w s := by
  simp [executePE, State.fetch, hp, hw]

theorem executeWord_of_unallocated (s : State) (hd : decode w = .unallocated) :
    executeWord w s = .next (takeException .undefined s) := by
  simp [executeWord, hd]

theorem executeWord_of_outside (s : State) (hd : decode w = .outside) :
    executeWord w s = .refused (.outsideInstructionSet w) := by
  simp [executeWord, hd]

end

/-- Settles O7, by who moves and, where the PE does, by what it finds: a word, no word, or an outstanding exception. -/
theorem stepOfAnythingElse : Obligations.StepOfAnythingElse := by
  intro s
  refine ⟨fun w rest hs hp hw => ⟨fun hd => ?missingDirection, fun hd => ?outside⟩, fun hs hp hw => ?noWord,
    fun e hs hp => ?outstanding, fun e moves hs => step_of_schedule_env hs⟩
  case missingDirection =>
    rw [step_of_schedule_nil hs, executePE_of_program_cons hp hw, executeWord_of_unallocated s hd]
  case outside =>
    rw [step_of_schedule_nil hs, executePE_of_program_cons hp hw, executeWord_of_outside s hd]
  case noWord => rw [step_of_schedule_nil hs, executePE_of_program_nil hp hw]
  case outstanding => rw [step_of_schedule_nil hs, executePE_of_pending hp]

end Sys2Proof.Machine

/-! The encoding: the tables of R210 to R216 as one relation between keys and rows, to which the decoder, the encoder
and the list of all instructions are each tied once. -/

namespace Sys2Proof.Machine

/-! ## The fields of a word (R201) -/

/-- The key of a word of the `MRS` or `MSR` (register) class: the word has bits [31:22] 0b1101010100 and bit [20] 1. -/
abbrev ClassKey (k : BitVec 27) : Prop := k &&& 0x7FE8000#27 = 0x6A88000#27

/-- `g` at the six fields of a key: L, op0, op1, CRn, CRm and op2, where op0 is 0b10 or 0b11 by its low bit. -/
def atFields {α : Type} (g : Nat → Nat → Nat → Nat → Nat → Nat → α) (k : BitVec 27) : α :=
  g (k.toNat / 65536 % 2) (2 + k.toNat / 16384 % 2) (k.toNat / 2048 % 8) (k.toNat / 128 % 16) (k.toNat / 8 % 16)
    (k.toNat % 8)

section
variable {k : BitVec 27}

theorem ClassKey.extractLsb'_eq (h : ClassKey k) : k.extractLsb' 17 10 = 0b1101010100#10 := by
  have hfield := congrArg (BitVec.extractLsb' 17 10) h
  rw [BitVec.extractLsb'_and] at hfield
  have hmask : BitVec.extractLsb' 17 10 0x7FE8000#27 = BitVec.allOnes 10 := by decide
  rwa [hmask, BitVec.and_allOnes] at hfield

theorem ClassKey.getLsbD_eq_true (h : ClassKey k) : k.getLsbD 15 = true := by
  simpa using congrArg (BitVec.getLsbD · 15) h

/-- A key of the class is put together from its own six fields. -/
theorem ClassKey.atFields_sysKey (h : ClassKey k) : atFields sysKey k = k := by
  have hfield : k.toNat / 131072 % 1024 = 852 := by
    simpa [Nat.shiftRight_eq_div_pow] using congrArg BitVec.toNat h.extractLsb'_eq
  have hbit : k.toNat / 32768 % 2 = 1 := by
    simpa [BitVec.getLsbD, Nat.testBit_eq_decide_div_mod_eq] using h.getLsbD_eq_true
  apply BitVec.eq_of_toNat_eq
  simp only [atFields, sysKey, BitVec.toNat_ofNat, Nat.shiftLeft_eq]
  omega

end

/-- Keys with the same L, op0, op1 and CRn are as far apart as the indices that CRm and op2 assemble (R202). -/
theorem sysKey_eq_add {l op0 op1 crn crm op2 base m : Nat} (hindex : 8 * crm + op2 = 8 * base + m) :
    sysKey l op0 op1 crn crm op2 = sysKey l op0 op1 crn base 0 + BitVec.ofNat 27 m := by
  rw [sysKey, sysKey, ← BitVec.ofNat_add]
  apply congrArg
  simp only [Nat.shiftLeft_eq]
  omega

theorem append_extractLsb'_eq (w : InstrWord) : w.extractLsb' 5 27 ++ w.extractLsb' 0 5 = w := by
  have hjoin := BitVec.extractLsb'_append_extractLsb'_eq_extractLsb' (x := w) (len₂ := 27) (Nat.zero_add 5).symm
  rwa [BitVec.extractLsb'_eq_self] at hjoin

section
variable (k : BitVec 27) (t : BitVec 5)

theorem append_classBits_iff : (k ++ t) &&& 0xFFD00000#32 = 0xD5100000#32 ↔ ClassKey k := by
  have hmask : 0xFFD00000#32 = 0x7FE8000#27 ++ 0#5 := by decide
  have hclass : 0xD5100000#32 = 0x6A88000#27 ++ 0#5 := by decide
  rw [hmask, hclass, BitVec.and_append, BitVec.and_zero, BitVec.append_left_inj]

theorem toNat_append_div : (k ++ t).toNat / 32 = k.toNat := by
  have hkey := congrArg BitVec.toNat (BitVec.extractLsb'_append_eq_left (a := k) (b := t))
  have hlt := (k ++ t).isLt
  rw [BitVec.extractLsb'_toNat, Nat.shiftRight_eq_div_pow] at hkey
  omega

end

/-! ## The rows of the tables (R206, R210 to R216) -/

/-- The arrays, each with the key of its first cell (R212 to R215). -/
noncomputable def arrayRows : List (BitVec 27 × List (Nat → Instr)) :=
  [ (sysKey 1 3 3 14 8 0, mrsPmevcntrRows), (sysKey 0 3 3 14 8 0, msrPmevcntrRows),
    (sysKey 1 3 3 14 12 0, mrsPmevtyperRows), (sysKey 0 3 3 14 12 0, msrPmevtyperRows),
    (sysKey 1 2 0 14 8 0, mrsPmevcntsvrRows),
    (sysKey 1 2 3 14 0 0, mrsSpmevcntrRows), (sysKey 0 2 3 14 0 0, msrSpmevcntrRows),
    (sysKey 1 2 3 14 2 0, mrsSpmevtyperRows), (sysKey 0 2 3 14 2 0, msrSpmevtyperRows),
    (sysKey 1 2 3 14 4 0, mrsSpmevfiltrRows), (sysKey 0 2 3 14 4 0, msrSpmevfiltrRows),
    (sysKey 1 2 3 14 6 0, mrsSpmevfilt2rRows), (sysKey 0 2 3 14 6 0, msrSpmevfilt2rRows),
    (sysKey 1 2 0 9 13 0, mrsSpmcgcrRows) ]

/-- The tables of the rows without an index. -/
noncomputable def fixedGroups : List (List (BitVec 27 × (Nat → Instr))) :=
  [fixedRowsR210, fixedRowsR211, fixedRowsR212, fixedRowsR213, fixedRowsR214, fixedRowsR215, fixedRowsR216]

theorem fixedRows_eq_flatten : fixedRows = fixedGroups.flatten := by simp [fixedRows, fixedGroups]

/-- The tables have the row `f` at the key `k`: among the rows without an index, or in the cell of an array whose
distance from the first cell is the index. -/
inductive IsRow (k : BitVec 27) (f : Nat → Instr) : Prop
  | fixed (mem : (k, f) ∈ fixedRows)
  | array (a : BitVec 27 × List (Nat → Instr)) (mem : a ∈ arrayRows) (row : a.2[(k - a.1).toNat]? = some f)

section
variable {k : BitVec 27} {f : Nat → Instr} {rows : List (BitVec 27 × (Nat → Instr))}

theorem mem_of_lookupKey (h : lookupKey rows k = some f) : (k, f) ∈ rows := by
  induction rows with
  | nil => cases h
  | cons row rest ih =>
    rw [lookupKey] at h
    split at h
    case isTrue hk => cases hk; cases h; exact List.mem_cons_self
    case isFalse => exact List.mem_cons_of_mem _ (ih h)

theorem lookupKey_of_mem (hkeys : (rows.map Prod.fst).Nodup) (h : (k, f) ∈ rows) : lookupKey rows k = some f := by
  induction rows with
  | nil => cases h
  | cons row rest ih =>
    rw [List.map_cons, List.nodup_cons] at hkeys
    obtain ⟨hrow, hrest⟩ := hkeys
    rw [lookupKey]
    obtain rfl | h := List.mem_cons.mp h
    · rw [if_pos rfl]
    · have hne : row.1 ≠ k := fun hk => hrow (hk ▸ List.mem_map_of_mem h)
      rw [if_neg hne, ih hrest h]

theorem fixedRows_keys_nodup : (fixedRows.map Prod.fst).Nodup := by decide +kernel

theorem lookupKey_fixedRows_iff : lookupKey fixedRows k = some f ↔ (k, f) ∈ fixedRows :=
  ⟨mem_of_lookupKey, lookupKey_of_mem fixedRows_keys_nodup⟩

section
variable {a : BitVec 27 × List (Nat → Instr)}

/-- A row of an array stands in a cell whose key is the index after that of the first cell. -/
theorem exists_cell (row : a.2[(k - a.1).toNat]? = some f) :
    ∃ m, ∃ hm : m < a.2.length, a.2[m] = f ∧ k = a.1 + BitVec.ofNat 27 m := by
  obtain ⟨hm, hf⟩ := List.getElem?_eq_some_iff.mp row
  refine ⟨_, hm, hf, ?_⟩
  rw [BitVec.ofNat_toNat, BitVec.setWidth_eq, add_sub_cancel]

theorem IsRow.of_cell {m : Nat} (mem : a ∈ arrayRows) (row : a.2[m]? = some f) :
    IsRow (a.1 + BitVec.ofNat 27 m) f := by
  have hm : m < 2 ^ 27 := by
    have hlen : ∀ a ∈ arrayRows, a.2.length < 2 ^ 27 := by decide +kernel
    exact (List.getElem?_eq_some_iff.mp row).1.trans (hlen a mem)
  apply IsRow.array a mem
  rwa [add_sub_cancel_left, BitVec.toNat_ofNat, Nat.mod_eq_of_lt hm]

end

/-! ## What a row says of its instructions -/

theorem fixedRows_classKey : ∀ p ∈ fixedRows, ClassKey p.1 := by decide +kernel

theorem arrayRows_classKey : ∀ a ∈ arrayRows, ∀ m < a.2.length, ClassKey (a.1 + BitVec.ofNat 27 m) := by
  decide +kernel

theorem IsRow.classKey (h : IsRow k f) : ClassKey k := by
  obtain mem | ⟨a, mem, row⟩ := h
  case fixed => exact fixedRows_classKey _ mem
  case array =>
    obtain ⟨m, hm, rfl, rfl⟩ := exists_cell row
    exact arrayRows_classKey a mem m hm

/-- The encoder's table and the decoder's tables agree on the rows without an index. -/
theorem fixedRows_key_rt (t : Nat) :
    fixedRows.map (fun p => ((p.2 t).key, (p.2 t).rt)) = fixedRows.map fun p => (p.1, t) := rfl

/-- The encoder's table gives the cells of every array the keys that follow its first one. -/
theorem arrayRows_key_rt (t : Nat) :
    arrayRows.map (fun a => a.2.map fun f => ((f t).key, (f t).rt)) =
      arrayRows.map fun a => (List.range a.2.length).map fun m => (a.1 + BitVec.ofNat 27 m, t) := rfl

theorem IsRow.key_rt (h : IsRow k f) (t : Nat) : (f t).key = k ∧ (f t).rt = t := by
  apply Prod.mk.inj
  obtain mem | ⟨a, mem, row⟩ := h
  case fixed => exact List.map_inj_left.mp (fixedRows_key_rt t) _ mem
  case array =>
    obtain ⟨m, hm, rfl, rfl⟩ := exists_cell row
    simpa [hm] using congrArg (·[m]?) (List.map_inj_left.mp (arrayRows_key_rt t) a mem)

/-! ## Every instruction is a row -/

section
variable {i : Instr}

theorem exists_isRow_of_group {group : List (BitVec 27 × (Nat → Instr))} (n : Nat)
    (mem : fixedGroups[n]? = some group) (row : lookupKey group i.key = some f) (eq : f i.rt = i) :
    ∃ f, IsRow i.key f ∧ f i.rt = i := by
  refine ⟨f, .fixed ?_, eq⟩
  rw [fixedRows_eq_flatten]
  exact List.mem_flatten_of_mem (List.mem_of_getElem? mem) (mem_of_lookupKey row)

theorem exists_isRow_of_array {l op0 op1 crn crm op2 : Nat} {a : BitVec 27 × List (Nat → Instr)} (n : Nat)
    (mem : arrayRows[n]? = some a) (key : i.key = sysKey l op0 op1 crn crm op2)
    (row : a.2[(sysKey l op0 op1 crn crm op2 - a.1).toNat]? = some f) (eq : f i.rt = i) :
    ∃ f, IsRow i.key f ∧ f i.rt = i :=
  ⟨f, .array a (List.mem_of_getElem? mem) (key ▸ row), eq⟩

end

/-- Every instruction is in one of the tables, here in the order of `fixedGroups` and `arrayRows`. -/
theorem exists_isRow (i : Instr) : ∃ f, IsRow i.key f ∧ f i.rt = i := by
  cases i with
  | mrsPmccntrEl0 t | msrPmccntrEl0 t | mrsPmceid0El0 t | mrsPmceid1El0 t | mrsPmcntenclrEl0 t | msrPmcntenclrEl0 t
  | mrsPmcntensetEl0 t | msrPmcntensetEl0 t | mrsPmcrEl0 t | msrPmcrEl0 t | mrsPmicfiltrEl0 t | msrPmicfiltrEl0 t
  | mrsPmicntrEl0 t | msrPmicntrEl0 t | mrsPmovsclrEl0 t | msrPmovsclrEl0 t | mrsPmovssetEl0 t | msrPmovssetEl0 t
  | mrsPmselrEl0 t | msrPmselrEl0 t | msrPmswincEl0 t | mrsPmuserenrEl0 t | msrPmuserenrEl0 t | mrsPmxevcntrEl0 t
  | msrPmxevcntrEl0 t | mrsPmxevtyperEl0 t | msrPmxevtyperEl0 t | msrPmzrEl0 t =>
    exact exists_isRow_of_group 0 rfl rfl rfl
  | mrsPmecrEl1 t | msrPmecrEl1 t | mrsPmiarEl1 t | msrPmiarEl1 t | mrsPmintenclrEl1 t | msrPmintenclrEl1 t
  | mrsPmintensetEl1 t | msrPmintensetEl1 t | mrsPmmirEl1 t | mrsPmsscrEl1 t | msrPmsscrEl1 t | mrsPmuacrEl1 t
  | msrPmuacrEl1 t =>
    exact exists_isRow_of_group 1 rfl rfl rfl
  | mrsPmccfiltrEl0 t | msrPmccfiltrEl0 t =>
    exact exists_isRow_of_group 2 rfl rfl rfl
  | mrsPmccntsvrEl1 t | mrsPmicntsvrEl1 t =>
    exact exists_isRow_of_group 3 rfl rfl rfl
  | mrsSpmcntenclrEl0 t | msrSpmcntenclrEl0 t | mrsSpmcntensetEl0 t | msrSpmcntensetEl0 t | mrsSpmcrEl0 t
  | msrSpmcrEl0 t | mrsSpmovsclrEl0 t | msrSpmovsclrEl0 t | mrsSpmovssetEl0 t | msrSpmovssetEl0 t | mrsSpmselrEl0 t
  | msrSpmselrEl0 t | msrSpmzrEl0 t =>
    exact exists_isRow_of_group 4 rfl rfl rfl
  | mrsSpmaccessrEl1 t | msrSpmaccessrEl1 t | mrsSpmaccessrEl12 t | msrSpmaccessrEl12 t | mrsSpmaccessrEl2 t
  | msrSpmaccessrEl2 t | mrsSpmaccessrEl3 t | msrSpmaccessrEl3 t | mrsSpmcfgrEl1 t | mrsSpmdevaffEl1 t
  | mrsSpmdevarchEl1 t | mrsSpmiidrEl1 t | mrsSpmintenclrEl1 t | msrSpmintenclrEl1 t | mrsSpmintensetEl1 t
  | msrSpmintensetEl1 t | mrsSpmrootcrEl3 t | msrSpmrootcrEl3 t | mrsSpmscrEl1 t | msrSpmscrEl1 t =>
    exact exists_isRow_of_group 5 rfl rfl rfl
  | mrsMdcrEl2 t | msrMdcrEl2 t | mrsMdcrEl3 t | msrMdcrEl3 t =>
    exact exists_isRow_of_group 6 rfl rfl rfl
  | mrsPmevcntr0El0 t | mrsPmevcntr1El0 t | mrsPmevcntr2El0 t | mrsPmevcntr3El0 t | mrsPmevcntr4El0 t
  | mrsPmevcntr5El0 t | mrsPmevcntr6El0 t | mrsPmevcntr7El0 t | mrsPmevcntr8El0 t | mrsPmevcntr9El0 t
  | mrsPmevcntr10El0 t | mrsPmevcntr11El0 t | mrsPmevcntr12El0 t | mrsPmevcntr13El0 t | mrsPmevcntr14El0 t
  | mrsPmevcntr15El0 t | mrsPmevcntr16El0 t | mrsPmevcntr17El0 t | mrsPmevcntr18El0 t | mrsPmevcntr19El0 t
  | mrsPmevcntr20El0 t | mrsPmevcntr21El0 t | mrsPmevcntr22El0 t | mrsPmevcntr23El0 t | mrsPmevcntr24El0 t
  | mrsPmevcntr25El0 t | mrsPmevcntr26El0 t | mrsPmevcntr27El0 t | mrsPmevcntr28El0 t | mrsPmevcntr29El0 t
  | mrsPmevcntr30El0 t =>
    exact exists_isRow_of_array 0 rfl rfl rfl rfl
  | msrPmevcntr0El0 t | msrPmevcntr1El0 t | msrPmevcntr2El0 t | msrPmevcntr3El0 t | msrPmevcntr4El0 t
  | msrPmevcntr5El0 t | msrPmevcntr6El0 t | msrPmevcntr7El0 t | msrPmevcntr8El0 t | msrPmevcntr9El0 t
  | msrPmevcntr10El0 t | msrPmevcntr11El0 t | msrPmevcntr12El0 t | msrPmevcntr13El0 t | msrPmevcntr14El0 t
  | msrPmevcntr15El0 t | msrPmevcntr16El0 t | msrPmevcntr17El0 t | msrPmevcntr18El0 t | msrPmevcntr19El0 t
  | msrPmevcntr20El0 t | msrPmevcntr21El0 t | msrPmevcntr22El0 t | msrPmevcntr23El0 t | msrPmevcntr24El0 t
  | msrPmevcntr25El0 t | msrPmevcntr26El0 t | msrPmevcntr27El0 t | msrPmevcntr28El0 t | msrPmevcntr29El0 t
  | msrPmevcntr30El0 t =>
    exact exists_isRow_of_array 1 rfl rfl rfl rfl
  | mrsPmevtyper0El0 t | mrsPmevtyper1El0 t | mrsPmevtyper2El0 t | mrsPmevtyper3El0 t | mrsPmevtyper4El0 t
  | mrsPmevtyper5El0 t | mrsPmevtyper6El0 t | mrsPmevtyper7El0 t | mrsPmevtyper8El0 t | mrsPmevtyper9El0 t
  | mrsPmevtyper10El0 t | mrsPmevtyper11El0 t | mrsPmevtyper12El0 t | mrsPmevtyper13El0 t | mrsPmevtyper14El0 t
  | mrsPmevtyper15El0 t | mrsPmevtyper16El0 t | mrsPmevtyper17El0 t | mrsPmevtyper18El0 t | mrsPmevtyper19El0 t
  | mrsPmevtyper20El0 t | mrsPmevtyper21El0 t | mrsPmevtyper22El0 t | mrsPmevtyper23El0 t | mrsPmevtyper24El0 t
  | mrsPmevtyper25El0 t | mrsPmevtyper26El0 t | mrsPmevtyper27El0 t | mrsPmevtyper28El0 t | mrsPmevtyper29El0 t
  | mrsPmevtyper30El0 t =>
    exact exists_isRow_of_array 2 rfl rfl rfl rfl
  | msrPmevtyper0El0 t | msrPmevtyper1El0 t | msrPmevtyper2El0 t | msrPmevtyper3El0 t | msrPmevtyper4El0 t
  | msrPmevtyper5El0 t | msrPmevtyper6El0 t | msrPmevtyper7El0 t | msrPmevtyper8El0 t | msrPmevtyper9El0 t
  | msrPmevtyper10El0 t | msrPmevtyper11El0 t | msrPmevtyper12El0 t | msrPmevtyper13El0 t | msrPmevtyper14El0 t
  | msrPmevtyper15El0 t | msrPmevtyper16El0 t | msrPmevtyper17El0 t | msrPmevtyper18El0 t | msrPmevtyper19El0 t
  | msrPmevtyper20El0 t | msrPmevtyper21El0 t | msrPmevtyper22El0 t | msrPmevtyper23El0 t | msrPmevtyper24El0 t
  | msrPmevtyper25El0 t | msrPmevtyper26El0 t | msrPmevtyper27El0 t | msrPmevtyper28El0 t | msrPmevtyper29El0 t
  | msrPmevtyper30El0 t =>
    exact exists_isRow_of_array 3 rfl rfl rfl rfl
  | mrsPmevcntsvr0El1 t | mrsPmevcntsvr1El1 t | mrsPmevcntsvr2El1 t | mrsPmevcntsvr3El1 t | mrsPmevcntsvr4El1 t
  | mrsPmevcntsvr5El1 t | mrsPmevcntsvr6El1 t | mrsPmevcntsvr7El1 t | mrsPmevcntsvr8El1 t | mrsPmevcntsvr9El1 t
  | mrsPmevcntsvr10El1 t | mrsPmevcntsvr11El1 t | mrsPmevcntsvr12El1 t | mrsPmevcntsvr13El1 t
  | mrsPmevcntsvr14El1 t | mrsPmevcntsvr15El1 t | mrsPmevcntsvr16El1 t | mrsPmevcntsvr17El1 t
  | mrsPmevcntsvr18El1 t | mrsPmevcntsvr19El1 t | mrsPmevcntsvr20El1 t | mrsPmevcntsvr21El1 t
  | mrsPmevcntsvr22El1 t | mrsPmevcntsvr23El1 t | mrsPmevcntsvr24El1 t | mrsPmevcntsvr25El1 t
  | mrsPmevcntsvr26El1 t | mrsPmevcntsvr27El1 t | mrsPmevcntsvr28El1 t | mrsPmevcntsvr29El1 t
  | mrsPmevcntsvr30El1 t =>
    exact exists_isRow_of_array 4 rfl rfl rfl rfl
  | mrsSpmevcntr0El0 t | mrsSpmevcntr1El0 t | mrsSpmevcntr2El0 t | mrsSpmevcntr3El0 t | mrsSpmevcntr4El0 t
  | mrsSpmevcntr5El0 t | mrsSpmevcntr6El0 t | mrsSpmevcntr7El0 t | mrsSpmevcntr8El0 t | mrsSpmevcntr9El0 t
  | mrsSpmevcntr10El0 t | mrsSpmevcntr11El0 t | mrsSpmevcntr12El0 t | mrsSpmevcntr13El0 t | mrsSpmevcntr14El0 t
  | mrsSpmevcntr15El0 t =>
    exact exists_isRow_of_array 5 rfl rfl rfl rfl
  | msrSpmevcntr0El0 t | msrSpmevcntr1El0 t | msrSpmevcntr2El0 t | msrSpmevcntr3El0 t | msrSpmevcntr4El0 t
  | msrSpmevcntr5El0 t | msrSpmevcntr6El0 t | msrSpmevcntr7El0 t | msrSpmevcntr8El0 t | msrSpmevcntr9El0 t
  | msrSpmevcntr10El0 t | msrSpmevcntr11El0 t | msrSpmevcntr12El0 t | msrSpmevcntr13El0 t | msrSpmevcntr14El0 t
  | msrSpmevcntr15El0 t =>
    exact exists_isRow_of_array 6 rfl rfl rfl rfl
  | mrsSpmevtyper0El0 t | mrsSpmevtyper1El0 t | mrsSpmevtyper2El0 t | mrsSpmevtyper3El0 t | mrsSpmevtyper4El0 t
  | mrsSpmevtyper5El0 t | mrsSpmevtyper6El0 t | mrsSpmevtyper7El0 t | mrsSpmevtyper8El0 t | mrsSpmevtyper9El0 t
  | mrsSpmevtyper10El0 t | mrsSpmevtyper11El0 t | mrsSpmevtyper12El0 t | mrsSpmevtyper13El0 t
  | mrsSpmevtyper14El0 t | mrsSpmevtyper15El0 t =>
    exact exists_isRow_of_array 7 rfl rfl rfl rfl
  | msrSpmevtyper0El0 t | msrSpmevtyper1El0 t | msrSpmevtyper2El0 t | msrSpmevtyper3El0 t | msrSpmevtyper4El0 t
  | msrSpmevtyper5El0 t | msrSpmevtyper6El0 t | msrSpmevtyper7El0 t | msrSpmevtyper8El0 t | msrSpmevtyper9El0 t
  | msrSpmevtyper10El0 t | msrSpmevtyper11El0 t | msrSpmevtyper12El0 t | msrSpmevtyper13El0 t
  | msrSpmevtyper14El0 t | msrSpmevtyper15El0 t =>
    exact exists_isRow_of_array 8 rfl rfl rfl rfl
  | mrsSpmevfiltr0El0 t | mrsSpmevfiltr1El0 t | mrsSpmevfiltr2El0 t | mrsSpmevfiltr3El0 t | mrsSpmevfiltr4El0 t
  | mrsSpmevfiltr5El0 t | mrsSpmevfiltr6El0 t | mrsSpmevfiltr7El0 t | mrsSpmevfiltr8El0 t | mrsSpmevfiltr9El0 t
  | mrsSpmevfiltr10El0 t | mrsSpmevfiltr11El0 t | mrsSpmevfiltr12El0 t | mrsSpmevfiltr13El0 t
  | mrsSpmevfiltr14El0 t | mrsSpmevfiltr15El0 t =>
    exact exists_isRow_of_array 9 rfl rfl rfl rfl
  | msrSpmevfiltr0El0 t | msrSpmevfiltr1El0 t | msrSpmevfiltr2El0 t | msrSpmevfiltr3El0 t | msrSpmevfiltr4El0 t
  | msrSpmevfiltr5El0 t | msrSpmevfiltr6El0 t | msrSpmevfiltr7El0 t | msrSpmevfiltr8El0 t | msrSpmevfiltr9El0 t
  | msrSpmevfiltr10El0 t | msrSpmevfiltr11El0 t | msrSpmevfiltr12El0 t | msrSpmevfiltr13El0 t
  | msrSpmevfiltr14El0 t | msrSpmevfiltr15El0 t =>
    exact exists_isRow_of_array 10 rfl rfl rfl rfl
  | mrsSpmevfilt2r0El0 t | mrsSpmevfilt2r1El0 t | mrsSpmevfilt2r2El0 t | mrsSpmevfilt2r3El0 t
  | mrsSpmevfilt2r4El0 t | mrsSpmevfilt2r5El0 t | mrsSpmevfilt2r6El0 t | mrsSpmevfilt2r7El0 t
  | mrsSpmevfilt2r8El0 t | mrsSpmevfilt2r9El0 t | mrsSpmevfilt2r10El0 t | mrsSpmevfilt2r11El0 t
  | mrsSpmevfilt2r12El0 t | mrsSpmevfilt2r13El0 t | mrsSpmevfilt2r14El0 t | mrsSpmevfilt2r15El0 t =>
    exact exists_isRow_of_array 11 rfl rfl rfl rfl
  | msrSpmevfilt2r0El0 t | msrSpmevfilt2r1El0 t | msrSpmevfilt2r2El0 t | msrSpmevfilt2r3El0 t
  | msrSpmevfilt2r4El0 t | msrSpmevfilt2r5El0 t | msrSpmevfilt2r6El0 t | msrSpmevfilt2r7El0 t
  | msrSpmevfilt2r8El0 t | msrSpmevfilt2r9El0 t | msrSpmevfilt2r10El0 t | msrSpmevfilt2r11El0 t
  | msrSpmevfilt2r12El0 t | msrSpmevfilt2r13El0 t | msrSpmevfilt2r14El0 t | msrSpmevfilt2r15El0 t =>
    exact exists_isRow_of_array 12 rfl rfl rfl rfl
  | mrsSpmcgcr0El1 t | mrsSpmcgcr1El1 t =>
    exact exists_isRow_of_array 13 rfl rfl rfl rfl

/-! ## The decoder (R204) -/

section
variable {l op0 op1 crn crm op2 base m : Nat} {rows mrsRows msrRows : List (Nat → Instr)}

/-- A key whose CRm and op2 assemble the index `m` (R202) names cell `m` of its array. -/
theorem cell_of_index (mem : (sysKey l op0 op1 crn base 0, rows) ∈ arrayRows) (row : rows[m]? = some f)
    (hindex : 8 * crm + op2 = 8 * base + m) :
    ∃ a ∈ arrayRows, ∃ m, a.2[m]? = some f ∧ sysKey l op0 op1 crn crm op2 = a.1 + BitVec.ofNat 27 m :=
  ⟨_, mem, m, row, sysKey_eq_add hindex⟩

theorem cell_of_index_of_direction (hl : l < 2) (row : (if l = 1 then mrsRows else msrRows)[m]? = some f)
    (mem : (sysKey 1 op0 op1 crn base 0, mrsRows) ∈ arrayRows ∧ (sysKey 0 op0 op1 crn base 0, msrRows) ∈ arrayRows)
    (hindex : 8 * crm + op2 = 8 * base + m) :
    ∃ a ∈ arrayRows, ∃ m, a.2[m]? = some f ∧ sysKey l op0 op1 crn crm op2 = a.1 + BitVec.ofNat 27 m := by
  obtain ⟨mrs, msr⟩ := mem
  split at row
  case isTrue h =>
    subst h
    exact cell_of_index mrs row hindex
  case isFalse h =>
    obtain rfl : l = 0 := by omega
    exact cell_of_index msr row hindex

/-- The search among the arrays finds a cell of one of them. -/
theorem cell_of_lookupIndexed (hl : l < 2) (h : lookupIndexed l op0 op1 crn crm op2 = some f) :
    ∃ a ∈ arrayRows, ∃ m, a.2[m]? = some f ∧ sysKey l op0 op1 crn crm op2 = a.1 + BitVec.ofNat 27 m := by
  unfold lookupIndexed at h
  split at h
  case isTrue hgroup =>
    obtain ⟨rfl, rfl, rfl⟩ := hgroup
    split at h
    case isTrue =>
      exact cell_of_index_of_direction (base := 8) hl h (by simp [arrayRows]) (by omega)
    split at h
    case isTrue =>
      exact cell_of_index_of_direction (base := 12) hl h (by simp [arrayRows]) (by omega)
    case isFalse => cases h
  split at h
  case isTrue hgroup =>
    obtain ⟨rfl, rfl, rfl⟩ := hgroup
    split at h
    case isTrue hcrm =>
      obtain ⟨hcrm, rfl⟩ := hcrm
      exact cell_of_index (base := 8) (by simp [arrayRows]) h (by omega)
    case isFalse => cases h
  split at h
  case isTrue hgroup =>
    obtain ⟨rfl, rfl, rfl⟩ := hgroup
    split at h
    case isTrue =>
      exact cell_of_index_of_direction (base := 0) hl h (by simp [arrayRows]) (by omega)
    split at h
    case isTrue =>
      exact cell_of_index_of_direction (base := 2) hl h (by simp [arrayRows]) (by omega)
    split at h
    case isTrue =>
      exact cell_of_index_of_direction (base := 4) hl h (by simp [arrayRows]) (by omega)
    split at h
    case isTrue =>
      exact cell_of_index_of_direction (base := 6) hl h (by simp [arrayRows]) (by omega)
    case isFalse => cases h
  split at h
  case isTrue hgroup =>
    obtain ⟨rfl, rfl, rfl⟩ := hgroup
    split at h
    case isTrue hcrm =>
      obtain ⟨rfl, rfl⟩ := hcrm
      exact cell_of_index (base := 13) (by simp [arrayRows]) h (by omega)
    case isFalse => cases h
  case isFalse => cases h

end

/-- Without a row that has no index, the decoder searches the arrays. -/
theorem lookupRow_of_lookupKey_eq_none (h : lookupKey fixedRows k = none) :
    lookupRow k = atFields lookupIndexed k := by
  rw [lookupRow, h, atFields]

theorem arrayRows_not_fixed :
    arrayRows.all (fun a => (List.range a.2.length).all fun m => (lookupKey fixedRows (a.1 + BitVec.ofNat 27 m)).isNone)
      = true := by decide +kernel

theorem arrayRows_lookupIndexed :
    arrayRows.map (fun a => (List.range a.2.length).map fun m => atFields lookupIndexed (a.1 + BitVec.ofNat 27 m)) =
      arrayRows.map fun a => a.2.map some := rfl

theorem IsRow.lookupRow_eq (h : IsRow k f) : lookupRow k = some f := by
  obtain mem | ⟨a, mem, row⟩ := h
  case fixed => rw [lookupRow, lookupKey_fixedRows_iff.mpr mem]
  case array =>
    obtain ⟨m, hm, rfl, rfl⟩ := exists_cell row
    have hcells := List.all_eq_true.mp arrayRows_not_fixed a mem
    have hnone := List.all_eq_true.mp hcells m (List.mem_range.mpr hm)
    rw [lookupRow_of_lookupKey_eq_none (Option.isNone_iff_eq_none.mp hnone)]
    simpa [hm] using congrArg (·[m]?) (List.map_inj_left.mp arrayRows_lookupIndexed a mem)

/-- On keys of the class the decoder's search and the tables agree. -/
theorem lookupRow_eq_some_iff (hk : ClassKey k) : lookupRow k = some f ↔ IsRow k f := by
  refine ⟨fun h => ?_, IsRow.lookupRow_eq⟩
  cases hfixed : lookupKey fixedRows k with
  | some g =>
    rw [lookupRow, hfixed] at h
    cases h
    exact .fixed (mem_of_lookupKey hfixed)
  | none =>
    rw [lookupRow_of_lookupKey_eq_none hfixed] at h
    obtain ⟨a, mem, m, row, hkey⟩ := cell_of_lookupIndexed (Nat.mod_lt _ (by decide)) h
    rw [← hk.atFields_sysKey, atFields, hkey]
    exact .of_cell mem row

/-- A word decodes to the instructions of the rows that the tables have at its key, with its Rt. -/
theorem decode_append_eq_instr_iff {t : BitVec 5} {i : Instr} :
    decode (k ++ t) = .instr i ↔ ∃ f, IsRow k f ∧ f t.toNat = i := by
  unfold decode
  simp only [BitVec.extractLsb'_append_eq_left, BitVec.extractLsb'_append_eq_right, ne_eq, append_classBits_iff]
  constructor
  · intro h
    split at h
    case isTrue => cases h
    case isFalse hk =>
      rw [not_not] at hk
      split at h
      case h_1 f row =>
        cases h
        exact ⟨f, (lookupRow_eq_some_iff hk).mp row, rfl⟩
      case h_2 => split at h <;> cases h
  · rintro ⟨f, row, rfl⟩
    simp [row.classKey, row.lookupRow_eq]

/-- The key is of no row, but of one of the 14 names in its missing direction (R205). -/
noncomputable def missingDirection (k : BitVec 27) : Bool :=
  decide (ClassKey k) && (lookupRow k).isNone && atFields isUnallocated k

theorem decode_append_of_missingDirection (t : BitVec 5) (h : missingDirection k = true) :
    decode (k ++ t) = .unallocated := by
  have hfield (n : Nat) : (k ++ t).toNat / (32 * n) = k.toNat / n := by
    rw [← Nat.div_div_eq_div_mul, toNat_append_div]
  simp only [missingDirection, Bool.and_eq_true, decide_eq_true_eq, Option.isNone_iff_eq_none] at h
  obtain ⟨⟨hk, hrow⟩, hmissing⟩ := h
  simp only [decode, BitVec.extractLsb'_append_eq_left, ne_eq, append_classBits_iff, hk, not_true_eq_false, if_false,
    hrow]
  rw [hfield 65536, hfield 16384, hfield 2048, hfield 128, hfield 8, toNat_append_div]
  exact if_pos hmissing

end

/-! ## The statements -/

theorem encode_eq_append (i : Instr) : encode i = i.key ++ BitVec.ofNat 5 i.rt := rfl

theorem wellFormed_iff (i : Instr) : WellFormed i = true ↔ i.rt < 32 := by
  simp only [WellFormed, registerNumberOk, decide_eq_true_eq]
  omega

/-- Settles O1: the instruction stands in the tables at its own key, and the field Rt holds its operand. -/
theorem decodeOfEncodeIsTheInstruction : Obligations.DecodeOfEncodeIsTheInstruction := by
  intro i hi
  obtain ⟨f, row, hf⟩ := exists_isRow i
  have hrt : (BitVec.ofNat 5 i.rt).toNat = i.rt := Nat.mod_eq_of_lt ((wellFormed_iff i).mp hi)
  rw [encode_eq_append, decode_append_eq_instr_iff]
  exact ⟨f, row, by rw [hrt, hf]⟩

/-- Settles O2: the row that the decoder finds at the word's key holds instructions with that key. -/
theorem encodeOfDecodeIsTheWord : Obligations.EncodeOfDecodeIsTheWord := by
  intro w i h
  rw [← append_extractLsb'_eq w] at h ⊢
  obtain ⟨f, row, rfl⟩ := decode_append_eq_instr_iff.mp h
  obtain ⟨hkey, hrt⟩ := row.key_rt (w.extractLsb' 0 5).toNat
  constructor
  · rw [wellFormed_iff, hrt]
    exact (w.extractLsb' 0 5).isLt
  · rw [encode_eq_append, hkey, hrt, BitVec.ofNat_toNat, BitVec.setWidth_eq]

theorem classKey_key (i : Instr) : ClassKey i.key := by
  obtain ⟨f, row, _⟩ := exists_isRow i
  exact row.classKey

/-- Settles O4: the bits are those of the key, above the field Rt. -/
theorem everyWordHasTheClassBits : Obligations.EveryWordHasTheClassBits := by
  intro i
  rw [encode_eq_append, BitVec.extractLsb'_append_eq_of_le (by decide), BitVec.getLsbD_append]
  exact ⟨(classKey_key i).extractLsb'_eq, (classKey_key i).getLsbD_eq_true⟩

/-- The read-only and the write-only names of R205(a), but PMEVCNTSVR<m>_EL1. -/
def missingNames : List (BitVec 27) :=
  [ sysKey 0 3 3 9 12 6, sysKey 0 3 3 9 12 7, sysKey 0 3 0 9 14 6, sysKey 0 2 0 14 11 7, sysKey 0 2 0 14 12 0,
    sysKey 0 2 0 9 13 7, sysKey 0 2 0 9 13 0, sysKey 0 2 0 9 13 1, sysKey 0 2 0 9 13 6, sysKey 0 2 0 9 13 5,
    sysKey 0 2 0 9 13 4, sysKey 1 3 3 9 12 4, sysKey 1 3 3 9 13 4, sysKey 1 2 3 9 12 4 ]

theorem missingNames_all_missingDirection : missingNames.all missingDirection = true := by decide +kernel

theorem pmevcntsvr_all_missingDirection :
    (List.range 31).all (fun m => missingDirection (sysKey 0 2 0 14 (8 + m / 8) (m % 8))) = true := by decide +kernel

/-- Settles O5: each key is of no row and of a name in its missing direction, whatever Rt is. -/
theorem missingDirectionIsUndefined : Obligations.MissingDirectionIsUndefined := by
  intro k t s hk
  have hmissing : missingDirection k = true := by
    obtain hk | ⟨m, hm, rfl⟩ := hk
    · exact List.all_eq_true.mp missingNames_all_missingDirection k hk
    · exact List.all_eq_true.mp pmevcntsvr_all_missingDirection m (List.mem_range.mpr hm)
  have hdecode := decode_append_of_missingDirection t hmissing
  exact ⟨hdecode, executeWord_of_unallocated s hdecode⟩

theorem decode_of_encode_eq {w : InstrWord} {i : Instr} (hi : WellFormed i = true) (hw : encode i = w) :
    decode w = .instr i :=
  hw ▸ decodeOfEncodeIsTheInstruction i hi

/-- Settles O3: each word is the one that the tables give its instruction. -/
theorem wordsFromTheEncodingTables : Obligations.WordsFromTheEncodingTables := by
  refine ⟨?_, ?_, ?_, ?_, ?_, ?_, ?_, ?_, ?_, ?_, ?_, ?_, ?_, ?_, ?_, ?_⟩ <;> exact decode_of_encode_eq rfl rfl

end Sys2Proof.Machine

/-! The accesses to the cycle counter registers that complete, from EL1 or above and from EL0: the tests that the
listings of FEAT_PMUv3 share, decided once. -/

namespace Sys2Proof.Machine

/-! ## The ends of a performed access -/

section
variable {s : State} {t : Nat}

/-- A read of a register with no UNKNOWN field returns what the state holds. -/
theorem finishRead_perform_known {r : Reg} (h : s.regUnknown r = 0) :
    finishRead (.perform r) t s = .next (s.readDone t (s.regKnown r)) := by
  simp only [finishRead, State.regValue, h, mergeBits_zero_mask]

theorem finishRead_razWi : finishRead .razWi t s = .next (s.writeX t 0).advance := rfl

theorem finishWrite_razWi : finishWrite .razWi t s = .next s.advance := rfl

theorem finishRead_pmccntr : finishRead (.perform .pmccntr) t s = .next (s.readDone t s.pmu.pmccntr) :=
  finishRead_perform_known rfl

theorem finishRead_pmccntsvr : finishRead (.perform .pmccntsvr) t s = .next (s.readDone t s.pmu.pmccntsvr) :=
  finishRead_perform_known rfl

theorem finishRead_pmcntenclr : finishRead (.perform .pmcntenclr) t s =
    .next (s.readDone t (s.pmu.pmcnten &&& readMask s.countAccess)) := finishRead_perform_known rfl

theorem finishRead_pmccfiltr : finishRead (.perform .pmccfiltr) t s = .next (s.readDone t
    (mergeBits (s.pmu.pmccfiltr &&& s.cfg.filterMask) (s.unknown 0) (vsUnknown s.cfg s.pmu.pmccfiltr))) := rfl

theorem finishWrite_pmccntr : finishWrite (.perform .pmccntr) t s =
    .next (s.pmuDone { s.pmu with pmccntr := s.readX t }) := rfl

theorem finishWrite_pmccfiltr : finishWrite (.perform .pmccfiltr) t s =
    .next (s.pmuDone { s.pmu with pmccfiltr := s.readX t &&& s.cfg.filterMask }) := rfl

theorem finishWrite_pmovsclr : finishWrite (.perform .pmovsclr) t s = .next (s.pmuDone
    { s.pmu with pmovs := s.pmu.pmovs &&& ~~~(s.readX t &&& writeMask s.countAccess) }) := rfl

theorem finishWrite_pmselr : finishWrite (.perform .pmselr) t s =
    .next (s.pmuDone { s.pmu with pmselr := s.readX t &&& 31 }) := rfl

end

/-! ## Open accesses -/

/-- Each level from which an open access is made, with what the controls tested there say. -/
theorem privOpen_cases {s : State} {monitor trap guest : Bool} (h : s.privOpen monitor (trap || guest)) :
    s.inp.el = .el3 ∨
    (s.inp.el = .el2 ∧ (s.undefPriority && monitor) = false ∧ (s.haveEL3 && monitor) = false) ∨
    (s.inp.el = .el1 ∧ (s.undefPriority && monitor) = false ∧ (s.haveEL3 && monitor) = false ∧
      trap = false ∧ guest = false) := by
  obtain hel | ⟨hel, hmonitor⟩ | ⟨hel, hmonitor, hguest⟩ := h
  · exact .inl hel
  · exact .inr (.inl ⟨hel, undefPriority_and_eq_false hmonitor, hmonitor⟩)
  · exact .inr (.inr ⟨hel, undefPriority_and_eq_false hmonitor, hmonitor, Bool.or_eq_false_iff.mp hguest⟩)

/-! ## The listings of FEAT_PMUv3 -/

/-- The condition tree that the listings of FEAT_PMUv3 share: `denied` is the test of PMUSERENR_EL0, `fgt` the
fine-grained control of EL2, `user` and `priv` what an access is that no control takes away, from EL0 and from EL1 or
above. -/
def pmuListing (s : State) (denied fgt : Bool) (user priv : Access) : Access :=
  if !(s.has .PMUv3 && s.has .AA64) then .undefined
  else
    match s.inp.el with
    | .el0 =>
      if s.undefPriority && s.mdcr3TPM then .undefined
      else if denied then s.trapUser
      else if !s.inp.inHostEL0 && fgt then .trap .el2
      else if s.guestTPM then .trap .el2
      else if s.haveEL3 && s.mdcr3TPM then s.trapMonitor
      else user
    | .el1 =>
      if s.undefPriority && s.mdcr3TPM then .undefined
      else if fgt then .trap .el2
      else if s.guestTPM then .trap .el2
      else if s.haveEL3 && s.mdcr3TPM then s.trapMonitor
      else priv
    | .el2 =>
      if s.undefPriority && s.mdcr3TPM then .undefined
      else if s.haveEL3 && s.mdcr3TPM then s.trapMonitor
      else priv
    | .el3 => priv

section
variable {s : State} {denied fgt : Bool} {user priv : Access}

theorem pmuListing_of_privOpen (hpmu : s.has .PMUv3 = true) (haa64 : s.has .AA64 = true)
    (h : s.privOpen s.mdcr3TPM (fgt || s.guestTPM)) : pmuListing s denied fgt user priv = priv := by
  obtain hel | ⟨hel, hundef, hmonitor⟩ | ⟨hel, hundef, hmonitor, hfgt, htpm⟩ := privOpen_cases h
  · simp [pmuListing, hpmu, haa64, hel]
  · simp [pmuListing, hpmu, haa64, hel, hundef, hmonitor]
  · simp [pmuListing, hpmu, haa64, hel, hundef, hmonitor, hfgt, htpm]

theorem pmuListing_of_pmuReadOpen {b : FgtBit} (h : s.pmuReadOpen b) :
    pmuListing s denied (s.fgtRead b) user priv = priv :=
  have ⟨hpmu, haa64, hpriv⟩ := h
  pmuListing_of_privOpen hpmu haa64 hpriv

theorem pmuListing_of_pmuWriteOpen {b : FgtBit} (h : s.pmuWriteOpen b) :
    pmuListing s denied (s.fgtWrite b) user priv = priv :=
  have ⟨hpmu, haa64, hpriv⟩ := h
  pmuListing_of_privOpen hpmu haa64 hpriv

/-- The test of PMUSERENR_EL0 differs between the listings, so it is a hypothesis of its own beside `userOpen`. -/
theorem pmuListing_of_userOpen {control : Bool} (hpmu : s.has .PMUv3 = true) (haa64 : s.has .AA64 = true)
    (h : s.userOpen s.mdcr3TPM ((!s.inp.inHostEL0 && fgt) || s.guestTPM) control) (hdenied : denied = false) :
    pmuListing s denied fgt user priv = user := by
  obtain ⟨hel, hmonitor, hguest, -⟩ := h
  obtain ⟨hfgt, htpm⟩ := Bool.or_eq_false_iff.mp hguest
  have hundef := undefPriority_and_eq_false hmonitor
  simp [pmuListing, hpmu, haa64, hel, hundef, hdenied, hfgt, htpm, hmonitor]

end

/-! ## The permissions of PMUSERENR_EL0 (R892) -/

section
variable {s : State}

theorem userDisabledBut_of_userEN (b : Bool) (h : s.userEN = true) : s.userDisabledBut b = false := by
  simp [State.userDisabledBut, h]

theorem userDisabled_of_userEN (h : s.userEN = true) : s.userDisabled = false := by simp [State.userDisabled, h]

theorem userDisabledBut_of_userUENOn (b : Bool) (h : s.userUENOn = true) : s.userDisabledBut b = false := by
  obtain ⟨hp9, huen⟩ := Bool.and_eq_true_iff.mp h
  simp [State.userDisabledBut, hp9, huen]

theorem userDisabled_of_userUENOn (h : s.userUENOn = true) : s.userDisabled = false := by
  obtain ⟨hp9, huen⟩ := Bool.and_eq_true_iff.mp h
  simp [State.userDisabled, hp9, huen]

theorem userEN_and_userUENOn_of_userOpen {monitor guest : Bool}
    (h : s.userOpen monitor guest (!s.userEN || s.userUENOn)) : s.userEN = true ∧ s.userUENOn = false := by
  obtain ⟨_, _, _, huser⟩ := h
  simpa using huser

variable {b : FgtBit} {denied : Bool} {user priv : Access}

theorem pmuListing_of_pmuUserReadOpen (h : s.pmuUserReadOpen b) (hdenied : s.userEN = true → denied = false) :
    pmuListing s denied (s.fgtRead b) user priv = user := by
  obtain ⟨hpmu, haa64, hopen⟩ := h
  exact pmuListing_of_userOpen hpmu haa64 hopen (hdenied (userEN_and_userUENOn_of_userOpen hopen).1)

theorem pmuListing_of_pmuUserWriteOpen (h : s.pmuUserWriteOpen b) (hdenied : s.userEN = true → denied = false) :
    pmuListing s denied (s.fgtWrite b) user priv = user := by
  obtain ⟨hpmu, haa64, hopen⟩ := h
  exact pmuListing_of_userOpen hpmu haa64 hopen (hdenied (userEN_and_userUENOn_of_userOpen hopen).1)

theorem userUENOn_of_pmuUserReadOpen (h : s.pmuUserReadOpen b) : s.userUENOn = false :=
  have ⟨_, _, hopen⟩ := h
  (userEN_and_userUENOn_of_userOpen hopen).2

theorem userUENOn_of_pmuUserWriteOpen (h : s.pmuUserWriteOpen b) : s.userUENOn = false :=
  have ⟨_, _, hopen⟩ := h
  (userEN_and_userUENOn_of_userOpen hopen).2

/-- With UEN not in force, PMUACR_EL1 and the controls that UEN makes read-only ones decide nothing. -/
theorem ite_of_not_userUENOn {ignored : Bool} {a : Access} (h : s.userUENOn = false) :
    (if s.userUENOn && ignored then a else user) = user := by simp [h]

end

/-! ## The meanings, by the shared tree -/

section
variable (t : Nat) (s : State)

theorem exec_mrsPmccntrEl0 : exec (.mrsPmccntrEl0 t) s =
    finishRead (pmuListing s (s.userDisabledBut s.userCR) (s.fgtRead .PMCCNTR_EL0)
      (if s.userUENOn && !s.uacrC then .razWi else .perform .pmccntr) (.perform .pmccntr)) t s := rfl

theorem exec_msrPmccntrEl0 : exec (.msrPmccntrEl0 t) s =
    finishWrite (pmuListing s s.userDisabled (s.fgtWrite .PMCCNTR_EL0)
      (if s.userUENOn && (!s.uacrC || s.userCR) then .razWi else .perform .pmccntr) (.perform .pmccntr)) t s := rfl

theorem exec_mrsPmccfiltrEl0 : exec (.mrsPmccfiltrEl0 t) s =
    finishRead (pmuListing s s.userDisabled (s.fgtRead .PMCCFILTR_EL0)
      (if s.userUENOn && !s.uacrC then .razWi else .perform .pmccfiltr) (.perform .pmccfiltr)) t s := rfl

theorem exec_msrPmccfiltrEl0 : exec (.msrPmccfiltrEl0 t) s =
    finishWrite (pmuListing s s.userDisabled (s.fgtWrite .PMCCFILTR_EL0)
      (if s.userUENOn && (!s.uacrC || s.userCR) then .razWi else .perform .pmccfiltr) (.perform .pmccfiltr)) t s := rfl

theorem exec_mrsPmcntenclrEl0 : exec (.mrsPmcntenclrEl0 t) s =
    finishRead (pmuListing s s.userDisabled (s.fgtRead .PMCNTEN) (.perform .pmcntenclr) (.perform .pmcntenclr)) t s :=
  rfl

theorem exec_msrPmovsclrEl0 : exec (.msrPmovsclrEl0 t) s =
    finishWrite (pmuListing s s.userDisabled (s.fgtWrite .PMOVS) (.perform .pmovsclr) (.perform .pmovsclr)) t s := rfl

theorem exec_msrPmselrEl0 : exec (.msrPmselrEl0 t) s =
    finishWrite (pmuListing s (s.userDisabledBut s.userER) (s.fgtWrite .PMSELR_EL0) (.perform .pmselr)
      (.perform .pmselr)) t s := rfl

theorem exec_mrsPmccntsvrEl1 : exec (.mrsPmccntsvrEl1 t) s = finishRead (listingMrsPmccntsvrEl1 s) t s := rfl

end

/-! ## The statements -/

theorem listingMrsPmccntsvrEl1_of_snapshotReadOpen {s : State} (h : s.snapshotReadOpen .nPMSSDATA) :
    listingMrsPmccntsvrEl1 s = .perform .pmccntsvr := by
  obtain ⟨hss, haa64, hpriv⟩ := h
  rw [← Bool.or_false (s.fgt2Read _)] at hpriv
  obtain hel | ⟨hel, hundef, hmonitor⟩ | ⟨hel, hundef, hmonitor, hfgt, -⟩ := privOpen_cases hpriv
  · simp [listingMrsPmccntsvrEl1, hss, haa64, hel]
  · simp [listingMrsPmccntsvrEl1, hss, haa64, hel, hundef, hmonitor]
  · simp [listingMrsPmccntsvrEl1, hss, haa64, hel, hundef, hmonitor, hfgt]

/-- Settles O17: from EL1 or above each listing decides for its register. -/
theorem cycleCounterAccessesComplete : Obligations.CycleCounterAccessesComplete := by
  intro s t
  refine ⟨fun h => ?mrsPmccntr, fun h => ?msrPmccntr, fun h => ?mrsPmccfiltr, fun h => ?msrPmccfiltr,
    fun h => ?mrsPmccntsvr⟩
  case mrsPmccntr => rw [exec_mrsPmccntrEl0, pmuListing_of_pmuReadOpen h, finishRead_pmccntr]
  case msrPmccntr => rw [exec_msrPmccntrEl0, pmuListing_of_pmuWriteOpen h, finishWrite_pmccntr]
  case mrsPmccfiltr => rw [exec_mrsPmccfiltrEl0, pmuListing_of_pmuReadOpen h, finishRead_pmccfiltr]
  case msrPmccfiltr => rw [exec_msrPmccfiltrEl0, pmuListing_of_pmuWriteOpen h, finishWrite_pmccfiltr]
  case mrsPmccntsvr =>
    rw [exec_mrsPmccntsvrEl1, listingMrsPmccntsvrEl1_of_snapshotReadOpen h, finishRead_pmccntsvr]

/-- Settles O43: with EN the register is reached as from EL1; with UEN the last test of the listing, by PMUACR_EL1.C and
CR, is left to decide. -/
theorem userAccessesComplete : Obligations.UserAccessesComplete := by
  intro s t
  refine ⟨fun h => ?mrsPmccntr, fun h => ?msrPmccntr, fun h => ?mrsPmccfiltr, fun h => ?msrPmccfiltr,
    fun h => ?mrsPmcntenclr, fun h => ?msrPmovsclr, fun h => ?msrPmselr,
    fun hpmu haa64 huen => ⟨fun h => ?mrsPmccntrUEN, fun h => ?msrPmccntrUEN⟩⟩
  case mrsPmccntr =>
    rw [exec_mrsPmccntrEl0, pmuListing_of_pmuUserReadOpen h (userDisabledBut_of_userEN _),
      ite_of_not_userUENOn (userUENOn_of_pmuUserReadOpen h), finishRead_pmccntr]
  case msrPmccntr =>
    rw [exec_msrPmccntrEl0, pmuListing_of_pmuUserWriteOpen h userDisabled_of_userEN,
      ite_of_not_userUENOn (userUENOn_of_pmuUserWriteOpen h), finishWrite_pmccntr]
  case mrsPmccfiltr =>
    rw [exec_mrsPmccfiltrEl0, pmuListing_of_pmuUserReadOpen h userDisabled_of_userEN,
      ite_of_not_userUENOn (userUENOn_of_pmuUserReadOpen h), finishRead_pmccfiltr]
  case msrPmccfiltr =>
    rw [exec_msrPmccfiltrEl0, pmuListing_of_pmuUserWriteOpen h userDisabled_of_userEN,
      ite_of_not_userUENOn (userUENOn_of_pmuUserWriteOpen h), finishWrite_pmccfiltr]
  case mrsPmcntenclr =>
    rw [exec_mrsPmcntenclrEl0, pmuListing_of_pmuUserReadOpen h userDisabled_of_userEN, finishRead_pmcntenclr]
  case msrPmovsclr =>
    rw [exec_msrPmovsclrEl0, pmuListing_of_pmuUserWriteOpen h userDisabled_of_userEN, finishWrite_pmovsclr]
  case msrPmselr =>
    rw [exec_msrPmselrEl0, pmuListing_of_pmuUserWriteOpen h (userDisabledBut_of_userEN _), finishWrite_pmselr]
  case mrsPmccntrUEN =>
    rw [exec_mrsPmccntrEl0, pmuListing_of_userOpen hpmu haa64 h (userDisabledBut_of_userUENOn _ huen), huen]
    cases s.uacrC with
    | false => exact finishRead_razWi
    | true => exact finishRead_pmccntr
  case msrPmccntrUEN =>
    rw [exec_msrPmccntrEl0, pmuListing_of_userOpen hpmu haa64 h (userDisabled_of_userUENOn huen), huen]
    by_cases hperm : s.uacrC = true ∧ s.userCR = false
    · obtain ⟨huacr, hcr⟩ := hperm
      simp only [huacr, hcr]
      exact finishWrite_pmccntr
    · have hignored : (true && (!s.uacrC || s.userCR)) = true := by simpa [imp_iff_not_or] using hperm
      rw [if_pos hignored, if_neg hperm, finishWrite_razWi]

end Sys2Proof.Machine

/-! The identification, enable, control and selection registers: what each listing decides for an open access, what the
words that a read assembles from parts hold in each part, and what PMCR_EL0, PMIAR_EL1 and PMSWINC_EL0 do. -/

namespace Sys2Proof.Machine

/-! ## Words put together from fields (R10) -/

/-- The value `x` with its bit 0 at bit `lo` of a word. -/
def placed {w : Nat} (x : BitVec w) (lo : Nat) : Word := x.setWidth 64 <<< lo

section
variable {lo w : Nat}

theorem shiftLeft_eq_placed {n : Nat} (hn : n < 2 ^ w) (lo : Nat) :
    BitVec.ofNat 64 n <<< lo = placed (BitVec.ofNat w n) lo := by
  have hword : BitVec.ofNat 64 n = (BitVec.ofNat w n).setWidth 64 := by
    apply BitVec.eq_of_toNat_eq
    simp [Nat.mod_eq_of_lt hn]
  rw [placed, hword]

theorem bit_placed (x : BitVec w) {j : Nat} (hj : j < 64) :
    bit (placed x lo) j = (decide (lo ≤ j) && x.getLsbD (j - lo)) := by
  by_cases hlo : lo ≤ j <;> simp [placed, bit, hj, hlo]

@[simp] theorem bit_placed_outside (x : BitVec w) {j : Nat} (hj : j < 64) (h : j < lo ∨ lo + w ≤ j) :
    bit (placed x lo) j = false := by
  rw [bit_placed x hj]
  obtain h | h := h
  · simp [Nat.not_le.mpr h]
  · simp [BitVec.getLsbD_of_ge x (j - lo) (by omega)]

theorem fieldNat_of_field_eq_ofNat {v : Word} {n : Nat} (hn : n < 2 ^ w) (h : field v lo w = BitVec.ofNat w n) :
    fieldNat v lo w = n := by
  rw [fieldNat, h, BitVec.toNat_ofNat, Nat.mod_eq_of_lt hn]

theorem field_or (a b : Word) (lo w : Nat) : field (a ||| b) lo w = field a lo w ||| field b lo w :=
  BitVec.extractLsb'_or

theorem field_and (a b : Word) (lo w : Nat) : field (a &&& b) lo w = field a lo w &&& field b lo w :=
  BitVec.extractLsb'_and

@[simp] theorem field_placed_self (x : BitVec w) (h : lo + w ≤ 64) : field (placed x lo) lo w = x := by
  apply BitVec.eq_of_getLsbD_eq
  intro i hi
  rw [getLsbD_field, bit_placed x (by omega)]
  simp [hi]

@[simp] theorem field_placed_outside (x : BitVec w) {lo' w' : Nat} (hw : lo' + w' ≤ 64)
    (h : lo' + w' ≤ lo ∨ lo + w ≤ lo') : field (placed x lo) lo' w' = 0 :=
  (field_eq_zero_iff _ _ _).mpr fun i hi => bit_placed_outside x (by omega) (by omega)

@[simp] theorem field_bitIf_outside {k : Nat} (hk : k < 64) (c : Bool) (h : k < lo ∨ lo + w ≤ k) :
    field (bitIf k c) lo w = 0 := by
  refine (field_eq_zero_iff _ _ _).mpr fun i hi => ?_
  have hne : lo + i ≠ k := by omega
  simp [bit_bitIf k hk, hne]

@[simp] theorem field_onesWord_outside {k : Nat} (hk : k ≤ 64) (h : k ≤ lo) : field (onesWord k) lo w = 0 := by
  refine (field_eq_zero_iff _ _ _).mpr fun i _ => ?_
  have hnot : ¬ lo + i < k := by omega
  simp [bit_onesWord k hk, hnot]

end

/-! ## The listings of the names that are UNDEFINED at EL0 -/

/-- The condition tree of the listings whose name is UNDEFINED at EL0 and guarded by TPM: `present` is the feature of
the register, `fgt` the fine-grained control of EL2, `priv` what an access is that no control takes away. -/
def privListing (s : State) (present fgt : Bool) (priv : Access) : Access :=
  if !(present && s.has .AA64) then .undefined
  else
    match s.inp.el with
    | .el0 => .undefined
    | .el1 =>
      if s.undefPriority && s.mdcr3TPM then .undefined
      else if fgt then .trap .el2
      else if s.guestTPM then .trap .el2
      else if s.haveEL3 && s.mdcr3TPM then s.trapMonitor
      else priv
    | .el2 =>
      if s.undefPriority && s.mdcr3TPM then .undefined
      else if s.haveEL3 && s.mdcr3TPM then s.trapMonitor
      else priv
    | .el3 => priv

/-- The same for the names that MDCR_EL3.EnPM2 guards as well. -/
def pm2Listing (s : State) (present fgt : Bool) (priv : Access) : Access :=
  if !(present && s.has .AA64) then .undefined
  else
    match s.inp.el with
    | .el0 => .undefined
    | .el1 =>
      if s.undefPriority && !s.mdcr3EnPM2 then .undefined
      else if s.undefPriority && s.mdcr3TPM then .undefined
      else if fgt then .trap .el2
      else if s.guestTPM then .trap .el2
      else if s.haveEL3 && !s.mdcr3EnPM2 then s.trapMonitor
      else if s.haveEL3 && s.mdcr3TPM then s.trapMonitor
      else priv
    | .el2 =>
      if s.undefPriority && !s.mdcr3EnPM2 then .undefined
      else if s.undefPriority && s.mdcr3TPM then .undefined
      else if s.haveEL3 && !s.mdcr3EnPM2 then s.trapMonitor
      else if s.haveEL3 && s.mdcr3TPM then s.trapMonitor
      else priv
    | .el3 => priv

section
variable {s : State} {present fgt : Bool} {priv : Access}

theorem privListing_of_privOpen (hpresent : present = true) (haa64 : s.has .AA64 = true)
    (h : s.privOpen s.mdcr3TPM (fgt || s.guestTPM)) : privListing s present fgt priv = priv := by
  obtain hel | ⟨hel, hundef, hmonitor⟩ | ⟨hel, hundef, hmonitor, hfgt, htpm⟩ := privOpen_cases h
  · simp [privListing, hpresent, haa64, hel]
  · simp [privListing, hpresent, haa64, hel, hundef, hmonitor]
  · simp [privListing, hpresent, haa64, hel, hundef, hmonitor, hfgt, htpm]

theorem privListing_of_pmuReadOpen {b : FgtBit} (h : s.pmuReadOpen b) :
    privListing s (s.has .PMUv3) (s.fgtRead b) priv = priv :=
  have ⟨hpmu, haa64, hpriv⟩ := h
  privListing_of_privOpen hpmu haa64 hpriv

theorem privListing_of_pmuWriteOpen {b : FgtBit} (h : s.pmuWriteOpen b) :
    privListing s (s.has .PMUv3) (s.fgtWrite b) priv = priv :=
  have ⟨hpmu, haa64, hpriv⟩ := h
  privListing_of_privOpen hpmu haa64 hpriv

/-- A guard that is not in force because neither of two controls is. -/
theorem and_or_eq_false_iff {guard a b : Bool} :
    (guard && (a || b)) = false ↔ (guard && a) = false ∧ (guard && b) = false := by
  rw [Bool.and_or_distrib_left, Bool.or_eq_false_iff]

theorem pm2Listing_of_privOpen (hpresent : present = true) (haa64 : s.has .AA64 = true)
    (h : s.privOpen (!s.mdcr3EnPM2 || s.mdcr3TPM) (fgt || s.guestTPM)) : pm2Listing s present fgt priv = priv := by
  obtain hel | ⟨hel, hundef, hmonitor⟩ | ⟨hel, hundef, hmonitor, hfgt, htpm⟩ := privOpen_cases h
  · simp [pm2Listing, hpresent, haa64, hel]
  · obtain ⟨hundef2, hundefTPM⟩ := and_or_eq_false_iff.mp hundef
    obtain ⟨hmonitor2, hmonitorTPM⟩ := and_or_eq_false_iff.mp hmonitor
    simp [pm2Listing, hpresent, haa64, hel, hundef2, hundefTPM, hmonitor2, hmonitorTPM]
  · obtain ⟨hundef2, hundefTPM⟩ := and_or_eq_false_iff.mp hundef
    obtain ⟨hmonitor2, hmonitorTPM⟩ := and_or_eq_false_iff.mp hmonitor
    simp [pm2Listing, hpresent, haa64, hel, hundef2, hundefTPM, hmonitor2, hmonitorTPM, hfgt, htpm]

theorem pm2Listing_of_pm2ReadOpen {p : Prop} {b : Fgt2Bit} (hpresent : p → present = true) (h : s.pm2ReadOpen p b) :
    pm2Listing s present (s.fgt2Read b) priv = priv :=
  have ⟨hp, haa64, hpriv⟩ := h
  pm2Listing_of_privOpen (hpresent hp) haa64 hpriv

theorem pm2Listing_of_pm2WriteOpen {p : Prop} {b : Fgt2Bit} (hpresent : p → present = true) (h : s.pm2WriteOpen p b) :
    pm2Listing s present (s.fgt2Write b) priv = priv :=
  have ⟨hp, haa64, hpriv⟩ := h
  pm2Listing_of_privOpen (hpresent hp) haa64 hpriv

end

/-! ## The meanings, by the shared trees -/

section
variable (t : Nat) (s : State)

theorem exec_mrsPmcntensetEl0 : exec (.mrsPmcntensetEl0 t) s =
    finishRead (pmuListing s s.userDisabled (s.fgtRead .PMCNTEN) (.perform .pmcntenset) (.perform .pmcntenset)) t s :=
  rfl

theorem exec_mrsPmovsclrEl0 : exec (.mrsPmovsclrEl0 t) s =
    finishRead (pmuListing s s.userDisabled (s.fgtRead .PMOVS) (.perform .pmovsclr) (.perform .pmovsclr)) t s := rfl

theorem exec_mrsPmovssetEl0 : exec (.mrsPmovssetEl0 t) s =
    finishRead (pmuListing s s.userDisabled (s.fgtRead .PMOVS) (.perform .pmovsset) (.perform .pmovsset)) t s := rfl

theorem exec_mrsPmintenclrEl1 : exec (.mrsPmintenclrEl1 t) s =
    finishRead (privListing s (s.has .PMUv3) (s.fgtRead .PMINTEN) (.perform .pmintenclr)) t s := rfl

theorem exec_mrsPmintensetEl1 : exec (.mrsPmintensetEl1 t) s =
    finishRead (privListing s (s.has .PMUv3) (s.fgtRead .PMINTEN) (.perform .pmintenset)) t s := rfl

theorem exec_msrPmcntenclrEl0 : exec (.msrPmcntenclrEl0 t) s =
    finishWrite (pmuListing s s.userDisabled (s.fgtWrite .PMCNTEN) (.perform .pmcntenclr) (.perform .pmcntenclr)) t s :=
  rfl

theorem exec_msrPmcntensetEl0 : exec (.msrPmcntensetEl0 t) s =
    finishWrite (pmuListing s s.userDisabled (s.fgtWrite .PMCNTEN) (.perform .pmcntenset) (.perform .pmcntenset)) t s :=
  rfl

theorem exec_msrPmovssetEl0 : exec (.msrPmovssetEl0 t) s =
    finishWrite (pmuListing s s.userDisabled (s.fgtWrite .PMOVS) (.perform .pmovsset) (.perform .pmovsset)) t s := rfl

theorem exec_msrPmintenclrEl1 : exec (.msrPmintenclrEl1 t) s =
    finishWrite (privListing s (s.has .PMUv3) (s.fgtWrite .PMINTEN) (.perform .pmintenclr)) t s := rfl

theorem exec_msrPmintensetEl1 : exec (.msrPmintensetEl1 t) s =
    finishWrite (privListing s (s.has .PMUv3) (s.fgtWrite .PMINTEN) (.perform .pmintenset)) t s := rfl

theorem exec_mrsPmcrEl0 : exec (.mrsPmcrEl0 t) s = finishRead (listingMrsPmcrEl0 s) t s := rfl

theorem exec_msrPmcrEl0 : exec (.msrPmcrEl0 t) s = finishWrite (listingMsrPmcrEl0 s) t s := rfl

theorem exec_mrsPmecrEl1 : exec (.mrsPmecrEl1 t) s =
    finishRead (pm2Listing s (s.has .EBEP || s.has .PMUv3_SS) (s.fgt2Read .nPMECR_EL1) (.perform .pmecr)) t s := rfl

theorem exec_msrPmecrEl1 : exec (.msrPmecrEl1 t) s =
    finishWrite (pm2Listing s (s.has .EBEP || s.has .PMUv3_SS) (s.fgt2Write .nPMECR_EL1) (.perform .pmecr)) t s := rfl

theorem exec_mrsPmuacrEl1 : exec (.mrsPmuacrEl1 t) s =
    finishRead (pm2Listing s (s.has .PMUv3p9) (s.fgt2Read .nPMUACR_EL1) (.perform .pmuacr)) t s := rfl

theorem exec_msrPmuacrEl1 : exec (.msrPmuacrEl1 t) s =
    finishWrite (pm2Listing s (s.has .PMUv3p9) (s.fgt2Write .nPMUACR_EL1) (.perform .pmuacr)) t s := rfl

theorem exec_mrsPmiarEl1 : exec (.mrsPmiarEl1 t) s =
    finishRead (pm2Listing s (s.has .SEBEP) (s.fgt2Read .nPMIAR_EL1) (.perform .pmiar)) t s := rfl

theorem exec_msrPmiarEl1 : exec (.msrPmiarEl1 t) s =
    finishWrite (pm2Listing s (s.has .SEBEP) (s.fgt2Write .nPMIAR_EL1) (.perform .pmiar)) t s := rfl

theorem exec_mrsPmselrEl0 : exec (.mrsPmselrEl0 t) s =
    finishRead (pmuListing s (s.userDisabledBut s.userER) (s.fgtRead .PMSELR_EL0) (.perform .pmselr)
      (.perform .pmselr)) t s := rfl

/-- PMUSERENR_EL0 does not guard a read of itself. -/
theorem exec_mrsPmuserenrEl0 : exec (.mrsPmuserenrEl0 t) s =
    finishRead (pmuListing s false (s.fgtRead .PMUSERENR_EL0) (.perform .pmuserenr) (.perform .pmuserenr)) t s := rfl

theorem exec_msrPmuserenrEl0 : exec (.msrPmuserenrEl0 t) s =
    finishWrite (privListing s (s.has .PMUv3) (s.fgtWrite .PMUSERENR_EL0) (.perform .pmuserenr)) t s := rfl

/-- The two tests of PMUSERENR_EL0 have the same answer, so they are one. -/
theorem listingMrsPmceid0El0_eq : listingMrsPmceid0El0 s =
    pmuListing s (s.userDisabled || (s.has .PMUv3p9 && s.userTID)) (s.fgtRead .PMCEIDn_EL0) (.perform .pmceid0)
      (.perform .pmceid0) := by
  unfold listingMrsPmceid0El0 pmuListing
  cases s.userDisabled <;> rfl

theorem listingMrsPmceid1El0_eq : listingMrsPmceid1El0 s =
    pmuListing s (s.userDisabled || (s.has .PMUv3p9 && s.userTID)) (s.fgtRead .PMCEIDn_EL0) (.perform .pmceid1)
      (.perform .pmceid1) := by
  unfold listingMrsPmceid1El0 pmuListing
  cases s.userDisabled <;> rfl

theorem exec_mrsPmceid0El0 : exec (.mrsPmceid0El0 t) s = finishRead (listingMrsPmceid0El0 s) t s := rfl

theorem exec_mrsPmceid1El0 : exec (.mrsPmceid1El0 t) s = finishRead (listingMrsPmceid1El0 s) t s := rfl

theorem exec_mrsPmmirEl1 : exec (.mrsPmmirEl1 t) s =
    finishRead (privListing s (s.has .PMUv3p4) (s.fgtRead .PMMIR_EL1) (.perform .pmmir)) t s := rfl

theorem exec_msrPmswincEl0 : exec (.msrPmswincEl0 t) s =
    finishWrite (pmuListing s (s.userDisabledBut s.userSW) (s.fgtWrite .PMSWINC_EL0) (.perform .pmswinc)
      (.perform .pmswinc)) t s := rfl

end

/-! ## The shared bitmaps -/

/-- Settles O18: the two names of each bitmap read the same stored word under the same mask. -/
theorem bitmapReadsComplete : Obligations.BitmapReadsComplete := by
  intro s t
  refine ⟨fun h => ⟨?mrsPmcntenclr, ?mrsPmcntenset⟩, fun h => ⟨?mrsPmintenclr, ?mrsPmintenset⟩,
    fun h => ⟨?mrsPmovsclr, ?mrsPmovsset⟩⟩
  case mrsPmcntenclr => rw [exec_mrsPmcntenclrEl0, pmuListing_of_pmuReadOpen h, finishRead_pmcntenclr]
  case mrsPmcntenset =>
    rw [exec_mrsPmcntensetEl0, pmuListing_of_pmuReadOpen h]
    exact finishRead_perform_known rfl
  case mrsPmintenclr =>
    rw [exec_mrsPmintenclrEl1, privListing_of_pmuReadOpen h]
    exact finishRead_perform_known rfl
  case mrsPmintenset =>
    rw [exec_mrsPmintensetEl1, privListing_of_pmuReadOpen h]
    exact finishRead_perform_known rfl
  case mrsPmovsclr =>
    rw [exec_mrsPmovsclrEl0, pmuListing_of_pmuReadOpen h]
    exact finishRead_perform_known rfl
  case mrsPmovsset =>
    rw [exec_mrsPmovssetEl0, pmuListing_of_pmuReadOpen h]
    exact finishRead_perform_known rfl

theorem finishWrite_perform (r : Reg) (t : Nat) (s : State) :
    finishWrite (.perform r) t s = .next (writeReg r (s.readX t) s).advance := rfl

/-- Settles O19: each listing decides for its register, and the write of it is the stated one. -/
theorem bitmapWritesClearAndSet : Obligations.BitmapWritesClearAndSet := by
  intro s t
  refine ⟨fun h => ⟨?msrPmcntenclr, ?msrPmcntenset⟩, fun h => ⟨?msrPmintenclr, ?msrPmintenset⟩,
    fun h => ⟨?msrPmovsclr, ?msrPmovsset⟩⟩
  case msrPmcntenclr => rw [exec_msrPmcntenclrEl0, pmuListing_of_pmuWriteOpen h, finishWrite_perform, writeReg]
  case msrPmcntenset => rw [exec_msrPmcntensetEl0, pmuListing_of_pmuWriteOpen h, finishWrite_perform, writeReg]
  case msrPmintenclr => rw [exec_msrPmintenclrEl1, privListing_of_pmuWriteOpen h, finishWrite_perform, writeReg]
  case msrPmintenset => rw [exec_msrPmintensetEl1, privListing_of_pmuWriteOpen h, finishWrite_perform, writeReg]
  case msrPmovsclr => rw [exec_msrPmovsclrEl0, pmuListing_of_pmuWriteOpen h, finishWrite_pmovsclr]
  case msrPmovsset => rw [exec_msrPmovssetEl0, pmuListing_of_pmuWriteOpen h, finishWrite_perform, writeReg]

/-! ## PMCR_EL0 -/

section
variable {s : State}

/-- What an open access at EL1 to PMCR_EL0 asks of MDCR_EL2.TPMCR, which is tested there only. -/
theorem tpmcr_of_el1 (hel : s.inp.el = .el1) (h : s.inp.el ≠ .el1 ∨ (s.el2Enabled && s.mdcr2TPMCR) = false) :
    (s.el2Enabled && s.mdcr2TPMCR) = false := h.resolve_left fun hne => hne hel

theorem listingMrsPmcrEl0_of_pmuReadOpen (h : s.pmuReadOpen .PMCR_EL0)
    (htpmcr : s.inp.el ≠ .el1 ∨ (s.el2Enabled && s.mdcr2TPMCR) = false) : listingMrsPmcrEl0 s = .perform .pmcr := by
  obtain ⟨hpmu, haa64, hpriv⟩ := h
  obtain hel | ⟨hel, hundef, hmonitor⟩ | ⟨hel, hundef, hmonitor, -, htpm⟩ := privOpen_cases hpriv
  · simp [listingMrsPmcrEl0, hpmu, haa64, hel]
  · simp [listingMrsPmcrEl0, hpmu, haa64, hel, hundef, hmonitor]
  · have hcr := tpmcr_of_el1 hel htpmcr
    rw [State.guestTPM] at htpm
    simp [listingMrsPmcrEl0, hpmu, haa64, hel, hundef, hmonitor, htpm, hcr]

theorem listingMsrPmcrEl0_of_pmuWriteOpen (h : s.pmuWriteOpen .PMCR_EL0)
    (htpmcr : s.inp.el ≠ .el1 ∨ (s.el2Enabled && s.mdcr2TPMCR) = false) : listingMsrPmcrEl0 s = .perform .pmcr := by
  obtain ⟨hpmu, haa64, hpriv⟩ := h
  obtain hel | ⟨hel, hundef, hmonitor⟩ | ⟨hel, hundef, hmonitor, hfgt, htpm⟩ := privOpen_cases hpriv
  · simp [listingMsrPmcrEl0, hpmu, haa64, hel]
  · simp [listingMsrPmcrEl0, hpmu, haa64, hel, hundef, hmonitor]
  · have hcr := tpmcr_of_el1 hel htpmcr
    rw [State.guestTPM] at htpm
    simp [listingMsrPmcrEl0, hpmu, haa64, hel, hundef, hmonitor, hfgt, htpm, hcr]

/-- PMCR_EL0.IMP (R464). -/
def State.pmcrImp (s : State) : BitVec 8 := if s.has .PMUv3p7 then 0 else s.cfg.imp

/-- PMCR_EL0.IDCODE (R465). -/
def State.pmcrIdcode (s : State) : BitVec 8 := if s.pmcrImp = 0 then 0 else s.cfg.idcode

theorem numAccessible_lt (s : State) : s.numAccessible < 32 := by
  have haccessible := numAccessible_le s
  have hselfHosted := numSelfHosted_le s
  have hcounters := numCounters_le s.cfg
  omega

variable (s)

theorem pmcrValue_eq : s.pmcrValue = (s.pmu.pmcr &&& s.cfg.pmcrMask) ||| bitIf 6 (!s.has .AA32) |||
    placed s.pmcrImp 24 ||| placed s.pmcrIdcode 16 ||| placed (BitVec.ofNat 5 s.numAccessible) 11 := by
  have hn : s.numAccessible % 32 = s.numAccessible := Nat.mod_eq_of_lt (numAccessible_lt s)
  rw [← shiftLeft_eq_placed (numAccessible_lt s), ← hn]
  simp [State.pmcrValue, State.pmcrIdcode, placed, State.pmcrImp]

/-- No stored bit of PMCR_EL0 lies in the constant fields. -/
theorem field_pmcrMask_outside {lo w : Nat} (c : Config) (h : 9 < lo) (hw : lo + w ≤ 32) :
    field c.pmcrMask lo w = 0 := by
  simp only [Config.pmcrMask, field_or]
  repeat rw [field_bitIf_outside (by decide) _ (by omega)]
  simp

/-- Outside the constant fields, PMCR_EL0 reads as its stored bits, and as RES1 in LC without FEAT_AA32. -/
theorem bit_pmcrValue_outside {i : Nat} (h : i < 11 ∨ i = 32) :
    bit s.pmcrValue i = (bit (s.pmu.pmcr &&& s.cfg.pmcrMask) i || bit (bitIf 6 (!s.has .AA32)) i) := by
  have hi : i < 64 := by omega
  have himp : i < 24 ∨ 24 + 8 ≤ i := by omega
  have hidcode : i < 16 ∨ 16 + 8 ≤ i := by omega
  have hn : i < 11 ∨ 11 + 5 ≤ i := by omega
  simp [pmcrValue_eq, hi, himp, hidcode, hn]

/-- Above the stored bits and below bit 32, PMCR_EL0 reads as the constant fields. -/
theorem field_pmcrValue_outside {lo w : Nat} (h : 9 < lo) (hw : lo + w ≤ 32) : field s.pmcrValue lo w =
    field (placed s.pmcrImp 24) lo w ||| field (placed s.pmcrIdcode 16) lo w |||
      field (placed (BitVec.ofNat 5 s.numAccessible) 11) lo w := by
  rw [pmcrValue_eq]
  simp only [field_or, field_and]
  rw [field_pmcrMask_outside s.cfg h hw, field_bitIf_outside (by decide) _ (by omega)]
  simp

theorem field_pmcrValue_imp : field s.pmcrValue 24 8 = s.pmcrImp := by simp [field_pmcrValue_outside]

theorem field_pmcrValue_idcode : field s.pmcrValue 16 8 = s.pmcrIdcode := by simp [field_pmcrValue_outside]

theorem field_pmcrValue_n : field s.pmcrValue 11 5 = BitVec.ofNat 5 s.numAccessible := by
  simp [field_pmcrValue_outside]

end

/-- Settles O21: the value is the stored fields, LC and three constant fields, each in bits of its own. -/
theorem pmcrReadCompletes : Obligations.PmcrReadCompletes := by
  intro s t h htpmcr
  refine ⟨s.pmcrValue, ?completes, ?bitP, ?bitC, fun i hi => ?stored, ?lc,
    fieldNat_of_field_eq_ofNat (numAccessible_lt s) (field_pmcrValue_n s), field_pmcrValue_imp s, ?idcode⟩
  case completes =>
    rw [exec_mrsPmcrEl0, listingMrsPmcrEl0_of_pmuReadOpen h htpmcr]
    exact finishRead_perform_known rfl
  case bitP =>
    rw [bit_pmcrValue_outside s (by decide)]
    simp [Config.pmcrMask, bit_bitIf]
  case bitC =>
    rw [bit_pmcrValue_outside s (by decide)]
    simp [Config.pmcrMask, bit_bitIf]
  case stored =>
    have hconst : (i < 11 ∨ i = 32) ∧ i ≠ 6 := by
      simp only [List.mem_cons, List.not_mem_nil, or_false] at hi
      omega
    obtain ⟨hout, hne⟩ := hconst
    simp [bit_pmcrValue_outside s hout, bit_bitIf, hne]
  case lc =>
    rw [bit_pmcrValue_outside s (by decide), Bool.or_comm]
    cases haa32 : s.has .AA32 <;> rw [State.has] at haa32 <;> simp [Config.pmcrMask, bit_bitIf, haa32]
  case idcode => rw [field_pmcrValue_imp, field_pmcrValue_idcode, State.pmcrIdcode]

/-! ## The effect of a write of PMCR_EL0 (R473, R474, R477) -/

section
variable (v : Word) (s : State)

theorem pmcrPAffects_eq_true_iff (n : Nat) : s.pmcrPAffects n = true ↔ n < s.hpmnEff ∨ (n < s.numSelfHosted ∧
    (s.el2Enabled = false ∨ s.inp.el = .el2 ∨ s.inp.el = .el3)) := by
  simp only [State.pmcrPAffects, State.firstRange, State.secondRange, Bool.or_eq_true, Bool.and_eq_true,
    decide_eq_true_eq, Bool.not_eq_true', beq_iff_eq, or_assoc]
  by_cases hfirst : n < s.hpmnEff
  · simp [hfirst]
  · simp [hfirst, Nat.not_lt.mp hfirst]

theorem evcntr_writePmcr {n : Nat} (hn : n < 31) :
    (writePmcr v s).evcntr n = if (bit v 1 && s.pmcrPAffects n) = true then 0 else s.evcntr n :=
  arrayGet_ofFn _ n 0 hn

theorem writePmcr_pmu : (writePmcr v s).pmu = { s.pmu with
    pmcr := v &&& s.cfg.pmcrMask
    pmccntr := if bit v 2 then 0 else s.pmu.pmccntr
    pmevcntr := (writePmcr v s).pmu.pmevcntr
    divPhase := (writePmcr v s).pmu.divPhase
    edgePrev := (writePmcr v s).pmu.edgePrev } := rfl

/-- A write of PMCR_EL0 reaches PMU registers only; the free values it draws are counted. -/
theorem writePmcr_frame : writePmcr v s = { s with pmu := (writePmcr v s).pmu, freeCtr := (writePmcr v s).freeCtr } :=
  rfl

end

/-- Settles O22: the write of the register is the stated one, and the instruction then completes. -/
theorem pmcrWriteCompletes : Obligations.PmcrWriteCompletes := by
  intro s t h htpmcr
  refine ⟨(writePmcr (s.readX t) s).advance, ?completes, ?pmcr, ?pmccntr, fun n hn => ?evcntr, ?pmu, ?frame⟩
  case completes => rw [exec_msrPmcrEl0, listingMsrPmcrEl0_of_pmuWriteOpen h htpmcr, finishWrite_perform, writeReg]
  case pmcr => rw [advance_pmu, writePmcr_pmu]
  case pmccntr => rw [advance_pmu, writePmcr_pmu]
  case evcntr =>
    have hwrite := evcntr_writePmcr (s.readX t) s hn
    simp only [Bool.and_eq_true, pmcrPAffects_eq_true_iff] at hwrite
    exact hwrite
  case pmu => rw [advance_pmu, writePmcr_pmu]
  case frame => rw [State.advance, writePmcr_frame]

/-! ## PMECR_EL1, PMUACR_EL1 and PMIAR_EL1 -/

theorem pmiarP_eq (s : State) : pmiarP s.cfg = if s.has .LVA3 then 56 else if s.has .LVA then 52 else 48 := rfl

theorem bit_pmiarSign {p i : Nat} (hp : p ≤ 64) (hi : i < 64) (v : Word) :
    bit (pmiarSign p v) i = (decide (p ≤ i) && bit v (p - 1)) := by
  unfold pmiarSign
  cases bit v (p - 1) with
  | false => rw [Bool.and_false]; exact bit_zero i
  | true => simp [hi, bit_onesWord p hp, ← decide_not]

/-- The bits that PMIAR_WRITE_NONCANONICAL offers where a write breaks the form of PMIAR_EL1 (D13). -/
theorem bit_pmiarRest {c : Config} {free v : Word} {i : Nat} (hi : i < 64) :
    bit (pmiarRest c free v) i = match c.pmiarNoncanonical with
      | .unspecified => bit free i
      | .byValue => bit (Config.pmiarFunction v) i
      | .signExtended => decide (pmiarP c ≤ i) && bit v (pmiarP c - 1)
      | .asWritten => bit v i := by
  unfold pmiarRest
  cases c.pmiarNoncanonical with
  | signExtended => exact bit_pmiarSign (pmiarP_le c) hi v
  | unspecified | byValue | asWritten => rfl

/-- A write of PMIAR_EL1 changes that register only, and draws one free value. -/
theorem writePmiar_frame (v : Word) (s : State) :
    writePmiar v s = (s.withPmu { s.pmu with pmiar := (writePmiar v s).pmu.pmiar }).drawn 1 := rfl

/-- Settles O23: each listing decides for its register; what a write of PMIAR_EL1 stores is `writePmiar_pmiar`. -/
theorem extendedControlAccessesComplete : Obligations.ExtendedControlAccessesComplete := by
  intro s t
  refine ⟨fun h => ?mrsPmecr, fun h => ?msrPmecr, fun h => ?mrsPmuacr, fun h => ?msrPmuacr, fun h => ?mrsPmiar,
    fun h hcanonical => ?msrPmiar, fun h hcanonical => ?msrPmiarNoncanonical⟩
  case mrsPmecr => rw [exec_mrsPmecrEl1, pm2Listing_of_pm2ReadOpen (Bool.or_eq_true _ _).mpr h]; rfl
  case msrPmecr =>
    rw [exec_msrPmecrEl1, pm2Listing_of_pm2WriteOpen (Bool.or_eq_true _ _).mpr h, finishWrite_perform, writeReg]
  case mrsPmuacr =>
    rw [exec_mrsPmuacrEl1, pm2Listing_of_pm2ReadOpen id h]
    exact finishRead_perform_known rfl
  case msrPmuacr => rw [exec_msrPmuacrEl1, pm2Listing_of_pm2WriteOpen id h, finishWrite_perform, writeReg]
  case mrsPmiar =>
    rw [exec_mrsPmiarEl1, pm2Listing_of_pm2ReadOpen id h]
    exact finishRead_perform_known rfl
  case msrPmiar =>
    obtain ⟨hcanonicalStored, -⟩ := writePmiar_pmiar (s.readX t) s
    have hstored := hcanonicalStored hcanonical
    rw [exec_msrPmiarEl1, pm2Listing_of_pm2WriteOpen id h, finishWrite_perform, writeReg, writePmiar_frame, hstored]
  case msrPmiarNoncanonical =>
    obtain ⟨-, hstored⟩ := writePmiar_pmiar (s.readX t) s
    simp only [hcanonical, Bool.false_or, decide_eq_true_eq] at hstored
    refine ⟨(writePmiar (s.readX t) s).pmu.pmiar, pmiarP s.cfg, ?completes, pmiarP_eq s, fun i hlo hhi => ?written,
      fun i hi hout => ?rest⟩
    case completes =>
      rw [exec_msrPmiarEl1, pm2Listing_of_pm2WriteOpen id h, finishWrite_perform, writeReg, ← writePmiar_frame]
    case written =>
      have hp := pmiarP_le s.cfg
      rw [hstored i (by omega), if_pos ⟨hlo, hhi⟩]
    case rest =>
      rw [hstored i hi, if_neg (by omega)]
      exact bit_pmiarRest hi

/-! ## PMSELR_EL0, PMCEID<n>_EL0 and PMMIR_EL1 -/

theorem regUnknown_pmselr (s : State) : s.regUnknown .pmselr =
    if s.has .FGT = false ∧ s.cfg.numCounters ≤ s.sel ∧ s.sel ≠ 31 then 31 else 0 := by
  simp [State.regUnknown, fieldIf, and_assoc]

theorem bit_pmceidMask (c : Config) {i : Nat} (hi : i < 64) :
    bit c.pmceidMask i = (c.has .PMUv3p1 || decide (i < 32)) := by
  by_cases hlow : i < 32
  · simp [Config.pmceidMask, bit_fieldIf, hlow]
  · simp [Config.pmceidMask, bit_fieldIf, hlow, hi, Nat.not_lt.mp hlow]

section
variable (c : Config) {n : Nat}

/-- An event number in one of the ranges of PMCEID<n>_EL0 is supported exactly if its bit there says so (R404, R414). -/
theorem supported_of_protectedEvent {e : Nat} (h : c.protectedEvent e = true) : c.supported e = c.commonEvent e := by
  rw [Config.supported, if_pos h]

theorem bit_pmceid0_low (hn : n < 32) : bit (c.pmceid0 &&& c.pmceidMask) n = c.supported n := by
  have hprotected : c.protectedEvent n = true := by
    have hlt : n < 0x40 := by omega
    simp [Config.protectedEvent, hlt]
  rw [supported_of_protectedEvent c hprotected, Config.commonEvent, if_pos hn, bit_and, bit_pmceidMask c (by omega)]
  simp [hn]

theorem bit_pmceid1_low (hn : n < 32) : bit (c.pmceid1 &&& c.pmceidMask) n = c.supported (0x20 + n) := by
  have hprotected : c.protectedEvent (0x20 + n) = true := by
    have hlt : 0x20 + n < 0x40 := by omega
    simp [Config.protectedEvent, hlt]
  rw [supported_of_protectedEvent c hprotected, Config.commonEvent, if_neg (by omega), if_pos (by omega),
    Nat.add_sub_cancel_left, bit_and, bit_pmceidMask c (by omega)]
  simp [hn]

/-- The ranges of IDhi, which exist with FEAT_PMUv3p1. -/
theorem protectedEvent_high (hp1 : c.has .PMUv3p1 = true) {e : Nat} (hlo : 0x4000 ≤ e) (hhi : e < 0x4040) :
    c.protectedEvent e = true := by
  simp [Config.protectedEvent, hp1, hlo, hhi]

theorem bit_pmceid0_high (hp1 : c.has .PMUv3p1 = true) (hn : n < 32) :
    bit (c.pmceid0 &&& c.pmceidMask) (n + 32) = c.supported (0x4000 + n) := by
  rw [supported_of_protectedEvent c (protectedEvent_high c hp1 (by omega) (by omega)), Config.commonEvent,
    if_neg (by omega), if_neg (by omega), if_pos (by omega), Nat.add_sub_cancel_left, bit_and,
    bit_pmceidMask c (by omega), hp1]
  simp

theorem bit_pmceid1_high (hp1 : c.has .PMUv3p1 = true) (hn : n < 32) :
    bit (c.pmceid1 &&& c.pmceidMask) (n + 32) = c.supported (0x4020 + n) := by
  rw [supported_of_protectedEvent c (protectedEvent_high c hp1 (by omega) (by omega)), Config.commonEvent,
    if_neg (by omega), if_neg (by omega), if_neg (by omega), Nat.add_sub_cancel_left, bit_and,
    bit_pmceidMask c (by omega), hp1]
  simp

/-! ### PMMIR_EL1 (R761 to R768) -/

theorem pmmirEdge_eq : c.pmmirEdge = if c.has .PMUv3_TH = false then 0 else if c.has .PMUv3_TH2 then 2
    else if c.has .PMUv3_EDGE then 1 else 0 := by
  simp [Config.pmmirEdge]

theorem pmmirEdge_lt : c.pmmirEdge < 2 ^ 4 := by
  unfold Config.pmmirEdge
  split_ifs <;> decide

theorem thWidth_eq_zero_iff : c.thWidth = 0 ↔ c.has .PMUv3_TH = false := by
  unfold Config.thWidth
  cases c.has .PMUv3_TH with
  | false => simp
  | true => simp

theorem thWidth_le : c.thWidth ≤ 12 := by
  unfold Config.thWidth
  split <;> omega

theorem pmmirBusWidth_mem : c.pmmirBusWidth ∈ [0, 3, 4, 5, 6, 7, 8, 9, 10, 11, 12] := by
  unfold Config.pmmirBusWidth
  split
  case isTrue h => exact List.contains_iff_mem.mp h
  case isFalse => decide

theorem pmmirBusWidth_lt : c.pmmirBusWidth < 2 ^ 4 := by
  have hall : ∀ b ∈ [0, 3, 4, 5, 6, 7, 8, 9, 10, 11, 12], b < 2 ^ 4 := by decide
  exact hall _ (pmmirBusWidth_mem c)

theorem thWidth_lt : c.thWidth < 2 ^ 4 := (thWidth_le c).trans_lt (by decide)

theorem pmmirValue_eq : c.pmmirValue = bitIf 28 (c.has .PMUv3_SME) ||| placed (BitVec.ofNat 4 c.pmmirEdge) 24 |||
    placed (BitVec.ofNat 4 c.thWidth) 20 ||| placed (BitVec.ofNat 4 c.pmmirBusWidth) 16 |||
    (c.pmmir &&& onesWord 16) := by
  rw [← shiftLeft_eq_placed (pmmirEdge_lt c), ← shiftLeft_eq_placed (thWidth_lt c),
    ← shiftLeft_eq_placed (pmmirBusWidth_lt c), Config.pmmirValue]

/-- A field of PMMIR_EL1 outside SME, as its four parts have it. -/
theorem field_pmmirValue {lo w : Nat} (h : 28 < lo ∨ lo + w ≤ 28) : field c.pmmirValue lo w =
    field (placed (BitVec.ofNat 4 c.pmmirEdge) 24) lo w ||| field (placed (BitVec.ofNat 4 c.thWidth) 20) lo w |||
      field (placed (BitVec.ofNat 4 c.pmmirBusWidth) 16) lo w |||
      (field c.pmmir lo w &&& field (onesWord 16) lo w) := by
  rw [pmmirValue_eq]
  simp only [field_or, field_and]
  rw [field_bitIf_outside (by decide) _ h]
  simp

theorem field_pmmirValue_res0 : field c.pmmirValue 29 35 = 0 := by
  simp [field_pmmirValue]

theorem bit_pmmirValue_sme : bit c.pmmirValue 28 = c.has .PMUv3_SME := by
  simp [pmmirValue_eq, bit_onesWord, bit_bitIf]

theorem fieldNat_pmmirValue_edge : fieldNat c.pmmirValue 24 4 = c.pmmirEdge := by
  apply fieldNat_of_field_eq_ofNat (pmmirEdge_lt c)
  simp [field_pmmirValue]

theorem fieldNat_pmmirValue_thWidth : fieldNat c.pmmirValue 20 4 = c.thWidth := by
  apply fieldNat_of_field_eq_ofNat (thWidth_lt c)
  simp [field_pmmirValue]

theorem fieldNat_pmmirValue_busWidth : fieldNat c.pmmirValue 16 4 = c.pmmirBusWidth := by
  apply fieldNat_of_field_eq_ofNat (pmmirBusWidth_lt c)
  simp [field_pmmirValue]

/-- BUS_SLOTS and SLOTS are those of the parameter. -/
theorem field_pmmirValue_slots : field c.pmmirValue 0 16 = field c.pmmir 0 16 := by
  have hones : field (onesWord 16) 0 16 = BitVec.allOnes 16 := by decide
  rw [field_pmmirValue c (by decide), hones, BitVec.and_allOnes]
  simp

end

/-- Settles O25: each listing decides for its register; the bits of PMCEID<n>_EL0 and the fields of PMMIR_EL1 are those
of the lemmas above. -/
theorem selectUserAndIdentificationComplete : Obligations.SelectUserAndIdentificationComplete := by
  intro s t
  refine ⟨fun h => ?mrsPmselr, fun h => ?msrPmselr, fun h => ?mrsPmuserenr, fun h => ?msrPmuserenr,
    fun h => ⟨?mrsPmceid0, ?mrsPmceid1⟩, fun hp4 haa64 h => ?mrsPmmir,
    fun n hn => ⟨bit_pmceid0_low s.cfg hn, bit_pmceid1_low s.cfg hn,
      fun hp1 => ⟨bit_pmceid0_high s.cfg hp1 hn, bit_pmceid1_high s.cfg hp1 hn⟩⟩⟩
  case mrsPmselr =>
    rw [exec_mrsPmselrEl0, pmuListing_of_pmuReadOpen h, ← regUnknown_pmselr]
    rfl
  case msrPmselr => rw [exec_msrPmselrEl0, pmuListing_of_pmuWriteOpen h, finishWrite_pmselr]
  case mrsPmuserenr =>
    rw [exec_mrsPmuserenrEl0, pmuListing_of_pmuReadOpen h]
    exact finishRead_perform_known rfl
  case msrPmuserenr => rw [exec_msrPmuserenrEl0, privListing_of_pmuWriteOpen h, finishWrite_perform, writeReg]
  case mrsPmceid0 =>
    rw [exec_mrsPmceid0El0, listingMrsPmceid0El0_eq, pmuListing_of_pmuReadOpen h]
    exact finishRead_perform_known rfl
  case mrsPmceid1 =>
    rw [exec_mrsPmceid1El0, listingMrsPmceid1El0_eq, pmuListing_of_pmuReadOpen h]
    exact finishRead_perform_known rfl
  case mrsPmmir =>
    refine ⟨s.cfg.pmmirValue, ?completes, field_pmmirValue_res0 s.cfg, bit_pmmirValue_sme s.cfg, ?edge, ?thWidth,
      ?thWidthMax, ?busWidth, field_pmmirValue_slots s.cfg⟩
    case completes =>
      rw [exec_mrsPmmirEl1, privListing_of_privOpen hp4 haa64 h]
      exact finishRead_perform_known rfl
    case edge => exact (fieldNat_pmmirValue_edge s.cfg).trans (pmmirEdge_eq s.cfg)
    case thWidth => rw [fieldNat_pmmirValue_thWidth]; exact thWidth_eq_zero_iff s.cfg
    case thWidthMax => rw [fieldNat_pmmirValue_thWidth]; exact thWidth_le s.cfg
    case busWidth => rw [fieldNat_pmmirValue_busWidth]; exact pmmirBusWidth_mem s.cfg

/-! ## Software increments (R808, R863) -/

section
variable (d : Nat → Nat) (s : State)

/-- Of the PMU registers, hardware additions reach the event counters and the overflow flags only. -/
theorem addToCounters_pmu : (addToCounters d s).pmu =
    { s.pmu with pmevcntr := (addToCounters d s).pmu.pmevcntr, pmovs := (addToCounters d s).pmu.pmovs } := rfl

theorem evcntr_addToCounters {n : Nat} (hn : n < 31) : (addToCounters d s).evcntr n =
    if d n = 0 then s.evcntr n else (s.evcntr n + BitVec.ofNat 64 (d n)) &&& s.cfg.counterMask :=
  arrayGet_ofFn _ n 0 hn

theorem bit_pmovs_addToCounters (i : Nat) : bit (addToCounters d s).pmu.pmovs i =
    (bit s.pmu.pmovs i || (decide (i < 31) && overflows (s.eventOvfWidth i) (s.evcntr i) (d i))) := by
  rw [← bit_maskOf 31 (by decide) fun n => overflows (s.eventOvfWidth n) (s.evcntr n) (d n), ← bit_or]
  rfl

end

/-- Keeping the `w` low bits of a sum is adding modulo `2 ^ w`. -/
theorem add_and_onesWord {w : Nat} (hw : w ≤ 64) (x : Word) (k : Nat) :
    (x + BitVec.ofNat 64 k) &&& onesWord w = BitVec.ofNat 64 ((x.toNat + k) % 2 ^ w) := by
  have hdvd : 2 ^ w ∣ 2 ^ 64 := Nat.pow_dvd_pow 2 hw
  have hpow : 2 ^ w ≤ 2 ^ 64 := Nat.pow_le_pow_right (by decide) hw
  have hpos : 0 < 2 ^ w := Nat.two_pow_pos w
  have hlt : (x.toNat + k) % 2 ^ w < 2 ^ 64 := (Nat.mod_lt _ hpos).trans_le hpow
  have hones : (onesWord w).toNat = 2 ^ w - 1 := by
    rw [onesWord, BitVec.toNat_ofNat, Nat.mod_eq_of_lt (by omega)]
  apply BitVec.eq_of_toNat_eq
  rw [BitVec.toNat_and, hones, Nat.and_two_pow_sub_one_eq_mod, BitVec.toNat_add, BitVec.toNat_ofNat,
    Nat.add_mod_mod, Nat.mod_mod_of_dvd _ hdvd, BitVec.toNat_ofNat, Nat.mod_eq_of_lt hlt]

theorem counterMask_eq (s : State) : s.cfg.counterMask = onesWord (if s.has .PMUv3p5 then 64 else 32) := rfl

theorem counterBits_le (s : State) : (if s.has .PMUv3p5 then 64 else 32) ≤ 64 := by split <;> decide

theorem ne_el0_of_privOpen {s : State} {monitor guest : Bool} (h : s.privOpen monitor guest) : s.inp.el ≠ .el0 := by
  obtain hel | ⟨hel, -⟩ | ⟨hel, -⟩ := h <;> simp [hel]

/-- Above EL0, PMUACR_EL1 and PMUSERENR_EL0 do not restrict software increments (R862). -/
theorem swincWritable_of_ne_el0 {s : State} (hel : s.inp.el ≠ .el0) (n : Nat) :
    s.swincWritable n = decide (n < s.numAccessible) := by
  simp [State.swincWritable, hel, ← decide_not]

section
variable {s : State} {v : Word} {n : Nat}

theorem swincAmount_of_ne_el0 (hel : s.inp.el ≠ .el0) {incremented : Prop} [Decidable incremented]
    (h : incremented ↔ bit v n = true ∧ n < s.numAccessible ∧ s.cfg.evtCount (s.evtyper n) = 0 ∧
      s.cfg.supported 0 = true ∧ s.evCounts n s.context = true) :
    s.swincAmount v n = if incremented then 1 else 0 := by
  simp only [State.swincAmount, swincWritable_of_ne_el0 hel, Bool.and_eq_true, decide_eq_true_eq, beq_iff_eq, and_assoc,
    h]

end

/-- Settles O28: above EL0 the write adds 1 to the counters named and 0 to the others, as hardware does. -/
theorem softwareIncrementCompletes : Obligations.SoftwareIncrementCompletes := by
  intro s t incremented h hincremented
  classical
  have ⟨_, _, hpriv⟩ := h
  have hel := ne_el0_of_privOpen hpriv
  have hamount (n : Nat) := swincAmount_of_ne_el0 hel (hincremented n)
  refine ⟨(addToCounters (s.swincAmount (s.readX t)) s).pmu, ?completes, fun n hn => ⟨fun hinc => ?counted,
    fun hnot => ?unchanged, ?flag⟩, fun i hi => ?otherFlags, addToCounters_pmu (s.swincAmount (s.readX t)) s⟩
  case completes => rw [exec_msrPmswincEl0, pmuListing_of_pmuWriteOpen h, finishWrite_perform, writeReg]; rfl
  case counted =>
    have hadd := evcntr_addToCounters (s.swincAmount (s.readX t)) s hn
    rw [hamount, if_pos hinc, if_neg one_ne_zero, counterMask_eq, add_and_onesWord (counterBits_le s)] at hadd
    exact hadd
  case unchanged =>
    have hadd := evcntr_addToCounters (s.swincAmount (s.readX t)) s hn
    rw [hamount, if_neg hnot, if_pos rfl] at hadd
    exact hadd
  case flag =>
    rw [bit_pmovs_addToCounters, hamount]
    by_cases hinc : incremented n <;> simp [overflows, hinc, hn]
  case otherFlags =>
    rw [bit_pmovs_addToCounters, decide_eq_false (Nat.not_lt.mpr hi), Bool.false_and, Bool.or_false]

end Sys2Proof.Machine

/-! The event counters and event types, by their number and through the PMXEV* windows: the condition tree that the
eight listings share, what each decides for a counter that is accessible, reserved for EL2 or not implemented, and what
the choices of R1510 make of the last two. -/

namespace Sys2Proof.Machine

/-! ## The accessors with a counter index -/

/-- The condition tree that the listings of event counter `m` share (R558, R559, R610, R611): that of `pmuListing`, with
the tests of the index before the Exception level is examined and below EL2. -/
def counterListing (s : State) (m : Nat) (denied fgt : Bool) (user priv : Access) : Access :=
  if !(s.has .PMUv3 && s.has .AA64) then .undefined
  else if decide (s.numSelfHosted ≤ m) then
    if s.has .FGT then .undefined
    else .constrained .unimplemented
  else
    match s.inp.el with
    | .el0 =>
      if s.undefPriority && s.mdcr3TPM then .undefined
      else if denied then s.trapUser
      else if !s.inp.inHostEL0 && fgt then .trap .el2
      else if s.guestTPM then .trap .el2
      else if s.el2Enabled && decide (s.numAccessible ≤ m) then
        if !s.has .FGT then .constrained .reservedForEL2
        else .trap .el2
      else if s.haveEL3 && s.mdcr3TPM then s.trapMonitor
      else user
    | .el1 =>
      if s.undefPriority && s.mdcr3TPM then .undefined
      else if fgt then .trap .el2
      else if s.guestTPM then .trap .el2
      else if s.el2Enabled && decide (s.numAccessible ≤ m) then
        if !s.has .FGT then .constrained .reservedForEL2
        else .trap .el2
      else if s.haveEL3 && s.mdcr3TPM then s.trapMonitor
      else priv
    | .el2 =>
      if s.undefPriority && s.mdcr3TPM then .undefined
      else if s.haveEL3 && s.mdcr3TPM then s.trapMonitor
      else priv
    | .el3 => priv

/-- The listing of each name and direction. -/
def CuName.listing (name : CuName) (dir : Direction) : Nat → State → Access :=
  match name, dir with
  | .pmevcntr, .read => listingMrsPmevcntrEl0
  | .pmevcntr, .write => listingMsrPmevcntrEl0
  | .pmevtyper, .read => listingMrsPmevtyperEl0
  | .pmevtyper, .write => listingMsrPmevtyperEl0
  | .pmxevcntr, .read => listingMrsPmxevcntrEl0
  | .pmxevcntr, .write => listingMsrPmxevcntrEl0
  | .pmxevtyper, .read => listingMrsPmxevtyperEl0
  | .pmxevtyper, .write => listingMsrPmxevtyperEl0

/-- The array that a window selects from. -/
def CuName.array : CuName → CuName
  | .pmevcntr | .pmxevcntr => .pmevcntr
  | .pmevtyper | .pmxevtyper => .pmevtyper

/-- The register with index `m`. -/
def CuName.reg (name : CuName) (m : Nat) : Reg :=
  match name with
  | .pmevcntr | .pmxevcntr => .pmevcntr m
  | .pmevtyper | .pmxevtyper => .pmevtyper m

/-- The instructions of the array. -/
noncomputable def CuName.rows (name : CuName) (dir : Direction) : List (Nat → Instr) :=
  match name.array, dir with
  | .pmevcntr, .read => mrsPmevcntrRows
  | .pmevcntr, .write => msrPmevcntrRows
  | _, .read => mrsPmevtyperRows
  | _, .write => msrPmevtyperRows

/-- The test of PMUSERENR_EL0 at EL0 (R892): ER permits a read of a counter. -/
def CuName.denied (name : CuName) (dir : Direction) (s : State) : Bool :=
  match name.array, dir with
  | .pmevcntr, .read => s.userDisabledBut s.userER
  | _, _ => s.userDisabled

/-- The bit of HDFGRTR_EL2 and HDFGWTR_EL2. -/
def CuName.fgtBit (name : CuName) : FgtBit :=
  match name.array with
  | .pmevcntr => .PMEVCNTRn_EL0
  | _ => .PMEVTYPERn_EL0

/-- The fine-grained control of EL2. -/
def Direction.fgt (dir : Direction) (s : State) (b : FgtBit) : Bool :=
  match dir with
  | .read => s.fgtRead b
  | .write => s.fgtWrite b

/-- An access from EL1 or above that no control takes away. -/
def Direction.pmuOpen (dir : Direction) (s : State) (b : FgtBit) : Prop :=
  match dir with
  | .read => s.pmuReadOpen b
  | .write => s.pmuWriteOpen b

/-- With UEN in force, what makes an access from EL0 to counter `m` read as zero or be ignored. -/
def Direction.ignores (dir : Direction) (s : State) (m : Nat) : Bool :=
  match dir with
  | .read => !s.uacrP m
  | .write => !s.uacrP m || s.userER

/-- The same for PMCCFILTR_EL0. -/
def Direction.ignoresCycle (dir : Direction) (s : State) : Bool :=
  match dir with
  | .read => !s.uacrC
  | .write => !s.uacrC || s.userCR

/-- An access to a register of event counter `m` from EL0 that no control takes away. -/
def CuName.userAccess (name : CuName) (dir : Direction) (m : Nat) (s : State) : Access :=
  if s.userUENOn && dir.ignores s m then .razWi else .perform (name.reg m)

/-- The end of an access in either direction. -/
def finishAccess (dir : Direction) (a : Access) (t : Nat) (s : State) : Outcome :=
  match dir with
  | .read => finishRead a t s
  | .write => finishWrite a t s

/-- The access by `name` with index `m`. -/
def finishIndexed (name : CuName) (dir : Direction) (m t : Nat) (s : State) : Outcome :=
  finishAccess dir (resolve name dir (name.listing dir) m s).1 t (resolve name dir (name.listing dir) m s).2

section
variable {name : CuName} {dir : Direction} {m t : Nat} {s : State}

/-- Only PMXEVTYPER_EL0 has an index, 31, that is no event counter. -/
theorem listing_eq_counterListing (hm : name = .pmxevtyper → m ≠ 31) :
    name.listing dir m s = counterListing s m (name.denied dir s) (dir.fgt s name.fgtBit) (name.userAccess dir m s)
      (.perform (name.reg m)) := by
  cases name with
  | pmevcntr => cases dir <;> rfl
  | pmevtyper => cases dir <;> rfl
  | pmxevcntr => cases dir <;> rfl
  | pmxevtyper =>
    have hne : (m != 31) = true := bne_iff_ne.mpr (hm rfl)
    have hbeq : (m == 31) = false := beq_false_of_ne (hm rfl)
    cases dir <;> simp only [CuName.listing, listingMrsPmxevtyperEl0, listingMsrPmxevtyperEl0, hne, hbeq, Bool.true_and,
      Bool.and_true, Bool.false_and, Bool.or_false, Bool.false_eq_true, if_false] <;> rfl

/-- With SEL = 31, PMXEVTYPER_EL0 has the condition tree of PMCCFILTR_EL0. -/
theorem listing_pmxevtyper_31 : CuName.listing .pmxevtyper dir 31 s =
    pmuListing s s.userDisabled (dir.fgt s .PMEVTYPERn_EL0)
      (if s.userUENOn && dir.ignoresCycle s then .razWi else .perform .pmccfiltr) (.perform .pmccfiltr) := by
  cases dir <;> simp only [CuName.listing, listingMrsPmxevtyperEl0, listingMsrPmxevtyperEl0, bne_self_eq_false,
    beq_self_eq_true, Bool.true_and, Bool.and_false, Bool.false_and, Bool.false_or, Bool.false_eq_true, if_false,
    if_true] <;> rfl

/-- The free values are no input of a listing. -/
theorem listing_drawn (k : Nat) : name.listing dir m (s.drawn k) = name.listing dir m s := by
  cases name <;> cases dir <;> rfl

/-! ## The instructions as accessors -/

/-- Where the rows of an array mean `meaning` of their indices, one after the other, each row does. -/
theorem exec_of_getElem? {rows : List (Nat → Instr)} {meaning : Nat → Outcome} {f : Nat → Instr}
    (h : rows.map (fun f => exec (f t) s) = (List.range 31).map meaning) (hf : rows[m]? = some f) :
    exec (f t) s = meaning m := by
  have hm := congrArg (·[m]?) h
  simp only [List.getElem?_map, hf, Option.map_some] at hm
  obtain ⟨n, hn, hmeaning⟩ := Option.map_eq_some_iff.mp hm.symm
  obtain ⟨_, hnm⟩ := List.getElem?_eq_some_iff.mp hn
  rw [← hmeaning, ← hnm, List.getElem_range]

variable (name dir t s) in
theorem map_exec_rows : (name.rows dir).map (fun f => exec (f t) s) =
    (List.range 31).map fun m => finishIndexed name.array dir m t s := by
  cases name <;> cases dir <;> rfl

variable (name dir) in
theorem exec_of_rows {f : Nat → Instr} (hf : (name.rows dir)[m]? = some f) :
    exec (f t) s = finishIndexed name.array dir m t s := exec_of_getElem? (map_exec_rows name dir t s) hf

theorem exec_of_mrsPmevcntsvrRows {f : Nat → Instr} (hf : mrsPmevcntsvrRows[m]? = some f) :
    exec (f t) s = finishRead (listingMrsPmevcntsvrEl1 m s) t s :=
  exec_of_getElem? (meaning := fun m => finishRead (listingMrsPmevcntsvrEl1 m s) t s) rfl hf

theorem exists_mem_rows (hm : m < 31) : ∃ g, (name.rows dir)[m]? = some g := by
  have hlen : (name.rows dir).length = 31 := by cases name <;> cases dir <;> rfl
  exact ⟨_, List.getElem?_eq_getElem (hlen ▸ hm)⟩

theorem exec_mrsPmxevcntrEl0 : exec (.mrsPmxevcntrEl0 t) s = finishIndexed .pmxevcntr .read s.sel t s := rfl

theorem exec_msrPmxevcntrEl0 : exec (.msrPmxevcntrEl0 t) s = finishIndexed .pmxevcntr .write s.sel t s := rfl

theorem exec_mrsPmxevtyperEl0 : exec (.mrsPmxevtyperEl0 t) s = finishIndexed .pmxevtyper .read s.sel t s := rfl

theorem exec_msrPmxevtyperEl0 : exec (.msrPmxevtyperEl0 t) s = finishIndexed .pmxevtyper .write s.sel t s := rfl

/-! ## The ends of an access in either direction -/

theorem finishAccess_undefined : finishAccess dir .undefined t s = .next (takeException .undefined s) := by
  cases dir <;> rfl

theorem finishAccess_trap (el : EL) :
    finishAccess dir (.trap el) t s = .next (takeException (.systemAccessTrap el 0x18) s) := by
  cases dir <;> rfl

theorem finishAccess_nop : finishAccess dir .nop t s = .next s.advance := by cases dir <;> rfl

theorem finishAccess_razWi : finishAccess dir .razWi t s =
    .next (if dir = .read then (s.writeX t 0).advance else s.advance) := by cases dir <;> rfl

theorem finishIndexed_of_decided {a : Access} (h : name.listing dir m s = a) (ha : ∀ p, a ≠ .constrained p) :
    finishIndexed name dir m t s = finishAccess dir a t s := by
  subst h
  rw [finishIndexed, resolve_of_decided _ _ _ _ _ ha]

/-! ## Accessible counters -/

theorem counterListing_of_accessible {denied fgt : Bool} {user priv : Access} (hm : m < s.numAccessible) :
    counterListing s m denied fgt user priv = pmuListing s denied fgt user priv := by
  have hself : ¬ s.numSelfHosted ≤ m := Nat.not_le.mpr (hm.trans_le (numAccessible_le s))
  have haccess : ¬ s.numAccessible ≤ m := Nat.not_le.mpr hm
  simp only [counterListing, hself, haccess, decide_false, Bool.and_false, Bool.false_eq_true, if_false]
  rfl

theorem numSelfHosted_le_31 (s : State) : s.numSelfHosted ≤ 31 := (numSelfHosted_le s).trans (numCounters_le s.cfg)

theorem lt_31_of_accessible (hm : m < s.numAccessible) : m < 31 :=
  hm.trans_le ((numAccessible_le s).trans (numSelfHosted_le_31 s))

theorem listing_of_accessible (hm : m < s.numAccessible) :
    name.listing dir m s = pmuListing s (name.denied dir s) (dir.fgt s name.fgtBit) (name.userAccess dir m s)
      (.perform (name.reg m)) := by
  rw [listing_eq_counterListing fun _ => (lt_31_of_accessible hm).ne, counterListing_of_accessible hm]

theorem pmuListing_of_pmuOpen {b : FgtBit} {denied : Bool} {user priv : Access} (h : dir.pmuOpen s b) :
    pmuListing s denied (dir.fgt s b) user priv = priv := by
  cases dir with
  | read => exact pmuListing_of_pmuReadOpen h
  | write => exact pmuListing_of_pmuWriteOpen h

variable (name dir) in
theorem finishIndexed_of_pmuOpen (hm : m < s.numAccessible) (h : dir.pmuOpen s name.fgtBit) :
    finishIndexed name dir m t s = finishAccess dir (.perform (name.reg m)) t s :=
  finishIndexed_of_decided ((listing_of_accessible hm).trans (pmuListing_of_pmuOpen h)) nofun

variable (dir) in
theorem finishIndexed_pmxevtyper_31_of_pmuOpen (h : dir.pmuOpen s .PMEVTYPERn_EL0) :
    finishIndexed .pmxevtyper dir 31 t s = finishAccess dir (.perform .pmccfiltr) t s :=
  finishIndexed_of_decided (listing_pmxevtyper_31.trans (pmuListing_of_pmuOpen h)) nofun

theorem listingMrsPmevcntsvrEl1_of_snapshotReadOpen (hm : m < s.numAccessible) (h : s.snapshotReadOpen .nPMSSDATA) :
    listingMrsPmevcntsvrEl1 m s = .perform (.pmevcntsvr m) := by
  have hself : ¬ s.numSelfHosted ≤ m := Nat.not_le.mpr (hm.trans_le (numAccessible_le s))
  have haccess : ¬ s.numAccessible ≤ m := Nat.not_le.mpr hm
  obtain ⟨hss, haa64, hpriv⟩ := h
  rw [← Bool.or_false (s.fgt2Read _)] at hpriv
  obtain hel | ⟨hel, hundef, hmonitor⟩ | ⟨hel, hundef, hmonitor, hfgt, -⟩ := privOpen_cases hpriv
  · simp [listingMrsPmevcntsvrEl1, hss, haa64, hself, hel]
  · simp [listingMrsPmevcntsvrEl1, hss, haa64, hself, hel, hundef, hmonitor]
  · simp [listingMrsPmevcntsvrEl1, hss, haa64, hself, haccess, hel, hundef, hmonitor, hfgt]

theorem finishAccess_read_pmevcntr : finishAccess .read (.perform (.pmevcntr m)) t s =
    .next (s.readDone t (s.evcntr m &&& s.cfg.counterMask)) := finishRead_perform_known rfl

theorem finishAccess_write_pmevcntr : finishAccess .write (.perform (.pmevcntr m)) t s = .next (s.pmuDone
    { s.pmu with pmevcntr := arraySet s.pmu.pmevcntr m (s.readX t &&& s.cfg.counterMask) }) := rfl

theorem finishAccess_read_pmevtyper : finishAccess .read (.perform (.pmevtyper m)) t s = .next (s.readDone t
    (mergeBits (s.cfg.evtyperStored m (s.evtyper m)) (s.unknown 0) (evtyperUnknown s.cfg m (s.evtyper m)))) := rfl

theorem finishAccess_write_pmevtyper : finishAccess .write (.perform (.pmevtyper m)) t s = .next
    (((s.withPmu { s.pmu with
        pmevtyper := arraySet s.pmu.pmevtyper m (s.cfg.evtyperStored m (s.readX t))
        edgePrev := arraySet s.pmu.edgePrev m (bit (s.unknown 0) 0) }).drawn 1).advance) := rfl

theorem finishRead_pmevcntsvr : finishRead (.perform (.pmevcntsvr m)) t s =
    .next (s.readDone t (arrayGet s.pmu.pmevcntsvr m 0)) := finishRead_perform_known rfl

end

/-- Settles O31: each row is the access with its index, whose listing decides for the counter. -/
theorem eventCounterAccessesComplete : Obligations.EventCounterAccessesComplete := by
  intro m s t hm
  refine ⟨fun f hf h => ?read, fun f hf h => ?write, fun f hf h => ?snapshot⟩
  case read =>
    calc exec (f t) s
      _ = finishIndexed .pmevcntr .read m t s := exec_of_rows .pmevcntr .read hf
      _ = finishAccess .read (.perform (.pmevcntr m)) t s := finishIndexed_of_pmuOpen .pmevcntr .read hm h
      _ = _ := finishAccess_read_pmevcntr
  case write =>
    calc exec (f t) s
      _ = finishIndexed .pmevcntr .write m t s := exec_of_rows .pmevcntr .write hf
      _ = finishAccess .write (.perform (.pmevcntr m)) t s := finishIndexed_of_pmuOpen .pmevcntr .write hm h
      _ = _ := finishAccess_write_pmevcntr
  case snapshot =>
    rw [exec_of_mrsPmevcntsvrRows hf, listingMrsPmevcntsvrEl1_of_snapshotReadOpen hm h, finishRead_pmevcntsvr]

/-- Settles O32: each row is the access with its index, whose listing decides for the event type register. -/
theorem eventTypeAccessesComplete : Obligations.EventTypeAccessesComplete := by
  intro m s t hm
  refine ⟨fun f hf h => ?read, fun f hf h => ?write⟩
  case read =>
    calc exec (f t) s
      _ = finishIndexed .pmevtyper .read m t s := exec_of_rows .pmevtyper .read hf
      _ = finishAccess .read (.perform (.pmevtyper m)) t s := finishIndexed_of_pmuOpen .pmevtyper .read hm h
      _ = _ := finishAccess_read_pmevtyper
  case write =>
    calc exec (f t) s
      _ = finishIndexed .pmevtyper .write m t s := exec_of_rows .pmevtyper .write hf
      _ = finishAccess .write (.perform (.pmevtyper m)) t s := finishIndexed_of_pmuOpen .pmevtyper .write hm h
      _ = _ := finishAccess_write_pmevtyper

/-- Settles O30: a window is the access with index SEL; 31 is not tested against the numbers of counters. -/
theorem selectedCounterAccessesComplete : Obligations.SelectedCounterAccessesComplete := by
  intro s t
  refine ⟨fun hsel h => ?readCounter, fun hsel h => ?writeCounter, fun hsel h => ?readType, fun hsel h => ?writeType,
    fun hsel h => ?readFilter, fun hsel h => ?writeFilter⟩
  case readCounter =>
    rw [exec_mrsPmxevcntrEl0, finishIndexed_of_pmuOpen .pmxevcntr .read hsel h]
    exact finishAccess_read_pmevcntr
  case writeCounter =>
    rw [exec_msrPmxevcntrEl0, finishIndexed_of_pmuOpen .pmxevcntr .write hsel h]
    exact finishAccess_write_pmevcntr
  case readType =>
    rw [exec_mrsPmxevtyperEl0, finishIndexed_of_pmuOpen .pmxevtyper .read hsel h]
    exact finishAccess_read_pmevtyper
  case writeType =>
    rw [exec_msrPmxevtyperEl0, finishIndexed_of_pmuOpen .pmxevtyper .write hsel h]
    exact finishAccess_write_pmevtyper
  case readFilter =>
    rw [exec_mrsPmxevtyperEl0, hsel, finishIndexed_pmxevtyper_31_of_pmuOpen .read h]
    exact finishRead_pmccfiltr
  case writeFilter =>
    rw [exec_msrPmxevtyperEl0, hsel, finishIndexed_pmxevtyper_31_of_pmuOpen .write h]
    exact finishWrite_pmccfiltr

end Sys2Proof.Machine

/-! An index of an event counter that does not exist or is not accessible: the two places of R1510, what FEAT_FGT makes
of them, and what the choice in force makes of them without it. -/

namespace Sys2Proof.Machine

/-- What a listing decides at one of the two places of R1510. -/
def State.placeAccess (s : State) (place : CuPlace) : Access :=
  if s.has .FGT then (if place = .unimplemented then .undefined else .trap .el2) else .constrained place

section
variable {name : CuName} {dir : Direction} {m t : Nat} {s : State} {place p : CuPlace}

/-! ## The listings at the two places -/

theorem placeAccess_of_not_has_FGT (hfgt : s.has .FGT = false) (place : CuPlace) :
    s.placeAccess place = .constrained place := by
  simp [State.placeAccess, hfgt]

theorem listing_undefined_of_has_FGT (hm31 : name = .pmxevtyper → m ≠ 31) (hm : s.numSelfHosted ≤ m)
    (hfgt : s.has .FGT = true) : name.listing dir m s = .undefined := by
  rw [listing_eq_counterListing hm31]
  simp [counterListing, hm, hfgt]

theorem listing_unimplemented (hpmu : s.has .PMUv3 = true) (haa64 : s.has .AA64 = true)
    (hm31 : name = .pmxevtyper → m ≠ 31) (hm : s.numSelfHosted ≤ m) :
    name.listing dir m s = s.placeAccess .unimplemented := by
  rw [listing_eq_counterListing hm31]
  simp [counterListing, State.placeAccess, hpmu, haa64, hm]

theorem finishIndexed_of_has_FGT (hfgt : s.has .FGT = true) (h : name.listing dir m s = s.placeAccess place) :
    finishIndexed name dir m t s = .next (takeException
      (if place = .unimplemented then .undefined else .systemAccessTrap .el2 0x18) s) := by
  rw [State.placeAccess, if_pos hfgt] at h
  cases place with
  | unimplemented => rw [finishIndexed_of_decided h nofun]; exact finishAccess_undefined
  | reservedForEL2 => rw [finishIndexed_of_decided h nofun]; exact finishAccess_trap .el2

theorem fgt_of_not_has_FGT (hfgt : s.has .FGT = false) (b : FgtBit) : dir.fgt s b = false := by
  cases dir <;> simp [Direction.fgt, State.fgtRead, State.fgtWrite, hfgt]

theorem denied_eq_false (h : s.userEN = true ∨ s.has .PMUv3p9 = true ∧ s.userUEN = true ∨
    s.userER = true ∧ dir = .read ∧ (name = .pmevcntr ∨ name = .pmxevcntr)) : name.denied dir s = false := by
  have hdenied (hcounter : s.userDisabledBut s.userER = false) (htype : s.userDisabled = false) :
      name.denied dir s = false := by cases name <;> cases dir <;> assumption
  obtain hen | ⟨hp9, huen⟩ | ⟨her, rfl, hname⟩ := h
  · exact hdenied (userDisabledBut_of_userEN _ hen) (userDisabled_of_userEN hen)
  · have hon : s.userUENOn = true := by simp [State.userUENOn, hp9, huen]
    exact hdenied (userDisabledBut_of_userUENOn _ hon) (userDisabled_of_userUENOn hon)
  · have hcounter : s.userDisabledBut s.userER = false := by simp [State.userDisabledBut, her]
    obtain rfl | rfl := hname <;> exact hcounter

theorem listing_reservedForEL2 (hpmu : s.has .PMUv3 = true) (haa64 : s.has .AA64 = true)
    (haccess : s.numAccessible ≤ m) (hself : m < s.numSelfHosted) (hel2 : s.el2Enabled = true)
    (hundef : (s.undefPriority && s.mdcr3TPM) = false)
    (hel : s.inp.el = .el1 ∨ s.inp.el = .el0 ∧ name.denied dir s = false)
    (htpm : s.has .FGT = false → s.guestTPM = false) :
    name.listing dir m s = s.placeAccess .reservedForEL2 := by
  have hm31 : m ≠ 31 := (hself.trans_le (numSelfHosted_le_31 s)).ne
  rw [listing_eq_counterListing fun _ => hm31]
  have hexists : ¬ s.numSelfHosted ≤ m := Nat.not_le.mpr hself
  cases hfgt : s.has .FGT with
  | true =>
    obtain hel | ⟨hel, hdenied⟩ := hel
    · simp [counterListing, State.placeAccess, hpmu, haa64, hexists, hel, hundef, hel2, haccess, hfgt]
    · simp [counterListing, State.placeAccess, hpmu, haa64, hexists, hel, hundef, hel2, haccess, hfgt, hdenied]
  | false =>
    have htpm := htpm hfgt
    have hfine := fgt_of_not_has_FGT (dir := dir) hfgt
    obtain hel | ⟨hel, hdenied⟩ := hel
    · simp [counterListing, State.placeAccess, hpmu, haa64, hexists, hel, hundef, hel2, haccess, hfgt, htpm, hfine]
    · simp [counterListing, State.placeAccess, hpmu, haa64, hexists, hel, hundef, hel2, haccess, hfgt, htpm, hfine,
        hdenied]

theorem listingMrsPmevcntsvrEl1_of_unimplemented (hm : s.numSelfHosted ≤ m) :
    listingMrsPmevcntsvrEl1 m s = .undefined := by
  simp [listingMrsPmevcntsvrEl1, hm]

theorem listingMrsPmevcntsvrEl1_of_reservedForEL2 (hss : s.has .PMUv3_SS = true) (haa64 : s.has .AA64 = true)
    (hel : s.inp.el = .el1) (hel2 : s.el2Enabled = true) (haccess : s.numAccessible ≤ m) (hself : m < s.numSelfHosted)
    (hundef : (s.undefPriority && !s.mdcr3EnPMSS) = false) : listingMrsPmevcntsvrEl1 m s = .trap .el2 := by
  have hexists : ¬ s.numSelfHosted ≤ m := Nat.not_le.mpr hself
  simp [listingMrsPmevcntsvrEl1, hss, haa64, hexists, hel, hundef, hel2, haccess]

/-! ## The choices (R1510) -/

section
variable {l : Nat → State → Access} {i : Nat}

theorem constrainUnpredictable_undefined (h : cuChoice s.choices.cu name dir p s.inp.el = .undefined) :
    constrainUnpredictable name dir l p i s = (.undefined, s) := by simp only [constrainUnpredictable, h]

theorem constrainUnpredictable_razWi (h : cuChoice s.choices.cu name dir p s.inp.el = .razWi) :
    constrainUnpredictable name dir l p i s = (.razWi, s) := by simp only [constrainUnpredictable, h]

theorem constrainUnpredictable_nop (h : cuChoice s.choices.cu name dir p s.inp.el = .nop) :
    constrainUnpredictable name dir l p i s = (.nop, s) := by simp only [constrainUnpredictable, h]

theorem constrainUnpredictable_otherCounter (h : cuChoice s.choices.cu name dir p s.inp.el = .otherCounter) :
    constrainUnpredictable name dir l p i s =
      if s.numAccessible = 0 then (.undefined, s) else (l s.otherCounter s, s.drawn 1) := by
  simp only [constrainUnpredictable, h]

theorem constrainUnpredictable_trapEL2 (h : cuChoice s.choices.cu name dir p s.inp.el = .trapEL2) :
    constrainUnpredictable name dir l p i s = (if p = .reservedForEL2 then .trap .el2 else .undefined, s) := by
  simp only [constrainUnpredictable, h, beq_iff_eq]
  split <;> rfl

theorem constrainUnpredictable_asSel31 (h : cuChoice s.choices.cu name dir p s.inp.el = .asSel31)
    (hi : name = .pmxevtyper → i ≠ 31) :
    constrainUnpredictable name dir l p i s = (if name = .pmxevtyper then l 31 s else .undefined, s) := by
  by_cases hname : name = .pmxevtyper
  · subst hname
    simp [constrainUnpredictable, h, hi rfl]
  · simp [constrainUnpredictable, h, hname]

end

/-- The place whose choice settles the access: for PMXEVCNTR_EL0 as SEL 31, that of the access with index 31. The index
with which the choice is made matters to PMXEVTYPER_EL0 only. -/
theorem resolve_of_constrained (h : name.listing dir m s = .constrained place)
    (h31 : name = .pmxevcntr → name.listing dir 31 s = .constrained .unimplemented)
    (hp : p = if name = .pmxevcntr ∧ cuChoice s.choices.cu name dir place s.inp.el = .asSel31 then .unimplemented
      else place) :
    ∃ i, (name = .pmxevtyper → i = m) ∧ resolve name dir (name.listing dir) m s =
      constrainUnpredictable name dir (name.listing dir) p i s := by
  by_cases hagain : name = .pmxevcntr ∧ cuChoice s.choices.cu name dir place s.inp.el = .asSel31
  · rw [if_pos hagain] at hp
    obtain ⟨rfl, hchoice⟩ := hagain
    have h31 := h31 rfl
    refine ⟨31, nofun, ?_⟩
    by_cases hm : m = 31
    · subst hm
      have hplace : place = .unimplemented := Access.constrained.inj (h.symm.trans h31)
      simp [resolve, h31, hp]
    · simp [resolve, h, h31, hchoice, hm, hp]
  · rw [if_neg hagain] at hp
    refine ⟨m, fun _ => rfl, ?_⟩
    have hfirst :
        (name == .pmxevcntr && m != 31 && cuChoice s.choices.cu name dir place s.inp.el == .asSel31) = false := by
      simp only [Bool.and_eq_false_iff, beq_eq_false_iff_ne]
      rw [not_and] at hagain
      by_cases hname : name = .pmxevcntr
      · exact .inr (hagain hname)
      · exact .inl (.inl hname)
    simp [resolve, h, hfirst, hp]

/-! ## The access to another counter -/

theorem pmuListing_ne_constrained {denied fgt : Bool} {user priv : Access} (huser : user ≠ .constrained p)
    (hpriv : priv ≠ .constrained p) : pmuListing s denied fgt user priv ≠ .constrained p := by
  have htrap : s.trapUser ≠ .constrained p := by unfold State.trapUser; split <;> nofun
  have hmonitor : s.trapMonitor ≠ .constrained p := by unfold State.trapMonitor; split <;> nofun
  unfold pmuListing
  cases s.inp.el <;> simp [ite_eq_iff, htrap, hmonitor, huser, hpriv]

theorem listing_ne_constrained_of_accessible (hm : m < s.numAccessible) : name.listing dir m s ≠ .constrained p := by
  rw [listing_of_accessible hm]
  refine pmuListing_ne_constrained ?_ nofun
  unfold CuName.userAccess
  split <;> nofun

/-- For an accessible counter, a window has the listing of its array. -/
theorem listing_array_of_accessible (hm : m < s.numAccessible) :
    name.array.listing dir m s = name.listing dir m s := by
  rw [listing_of_accessible hm, listing_of_accessible hm]
  cases name <;> rfl

theorem exec_otherCounter (h : 0 < s.numAccessible) : ∃ k < s.numAccessible, ∃ g, (name.rows dir)[k]? = some g ∧
    finishAccess dir (name.listing dir s.otherCounter s) t (s.drawn 1) = exec (g t) (s.drawn 1) := by
  have hk : s.otherCounter < s.numAccessible := Nat.mod_lt _ h
  obtain ⟨g, hg⟩ := exists_mem_rows (name := name) (dir := dir) (lt_31_of_accessible hk)
  refine ⟨_, hk, g, hg, ?_⟩
  rw [exec_of_rows name dir hg]
  have hlisting : name.array.listing dir s.otherCounter (s.drawn 1) = name.listing dir s.otherCounter s :=
    (listing_drawn 1).trans (listing_array_of_accessible hk)
  exact (finishIndexed_of_decided hlisting fun _ => listing_ne_constrained_of_accessible hk).symm

/-- Without FEAT_FGT nothing tells PMXEVTYPER_EL0 with SEL = 31 from PMCCFILTR_EL0. -/
theorem finishAccess_pmxevtyper_31 (hfgt : s.has .FGT = false) :
    finishAccess dir (CuName.listing .pmxevtyper dir 31 s) t s =
      exec (if dir = .read then .mrsPmccfiltrEl0 t else .msrPmccfiltrEl0 t) s := by
  have hbit : dir.fgt s .PMEVTYPERn_EL0 = dir.fgt s .PMCCFILTR_EL0 := by
    rw [fgt_of_not_has_FGT hfgt, fgt_of_not_has_FGT hfgt]
  rw [listing_pmxevtyper_31, hbit]
  cases dir <;> rfl

end

/-- Settles O48: at each place the listing decides by FEAT_FGT, and without it for the choice in force, which is
resolved once. -/
theorem counterIndexOutOfRange : Obligations.CounterIndexOutOfRange := by
  intro m s t f
  refine ⟨fun hm hfgt hf => ?withFGT, fun hf => ⟨fun hm => ?snapshotUnimplemented,
    fun hss haa64 hel hel2 haccess hself hundef => ?snapshotReserved⟩,
    fun name dir rows i place p choice c hsite hm31 hpmu haa64 hplace => ?places⟩
  case withFGT =>
    obtain ⟨name, dir, hf⟩ : ∃ (name : CuName) (dir : Direction), (name.rows dir)[m]? = some f := by
      simp only [List.mem_cons, List.not_mem_nil, or_false] at hf
      obtain hf | hf | hf | hf := hf
      · exact ⟨.pmevcntr, .read, hf.symm⟩
      · exact ⟨.pmevcntr, .write, hf.symm⟩
      · exact ⟨.pmevtyper, .read, hf.symm⟩
      · exact ⟨.pmevtyper, .write, hf.symm⟩
    have harray : name.array = .pmxevtyper → m ≠ 31 := by cases name <;> nofun
    rw [exec_of_rows name dir hf, finishIndexed_of_decided (listing_undefined_of_has_FGT harray hm hfgt) nofun,
      finishAccess_undefined]
  case snapshotUnimplemented =>
    rw [exec_of_mrsPmevcntsvrRows hf, listingMrsPmevcntsvrEl1_of_unimplemented hm]
    rfl
  case snapshotReserved =>
    rw [exec_of_mrsPmevcntsvrRows hf,
      listingMrsPmevcntsvrEl1_of_reservedForEL2 hss haa64 hel hel2 haccess hself hundef]
    rfl
  case places =>
    obtain ⟨rfl, hexec⟩ : rows = name.rows dir ∧ exec i s = finishIndexed name dir m t s := by
      simp only [List.mem_cons, List.not_mem_nil, or_false, Prod.mk.injEq] at hsite
      obtain ⟨hf, rfl, ⟨rfl, rfl, rfl⟩ | ⟨rfl, rfl, rfl⟩ | ⟨rfl, rfl, rfl⟩ | ⟨rfl, rfl, rfl⟩⟩ |
        ⟨rfl, ⟨rfl, rfl, rfl, rfl⟩ | ⟨rfl, rfl, rfl, rfl⟩ | ⟨rfl, rfl, rfl, rfl⟩ | ⟨rfl, rfl, rfl, rfl⟩⟩ := hsite
      · exact ⟨rfl, exec_of_rows .pmevcntr .read hf⟩
      · exact ⟨rfl, exec_of_rows .pmevcntr .write hf⟩
      · exact ⟨rfl, exec_of_rows .pmevtyper .read hf⟩
      · exact ⟨rfl, exec_of_rows .pmevtyper .write hf⟩
      · exact ⟨rfl, exec_mrsPmxevcntrEl0⟩
      · exact ⟨rfl, exec_msrPmxevcntrEl0⟩
      · exact ⟨rfl, exec_mrsPmxevtyperEl0⟩
      · exact ⟨rfl, exec_msrPmxevtyperEl0⟩
    have hlisting (htpm : s.has .FGT = false → place = .reservedForEL2 → s.guestTPM = false) :
        name.listing dir m s = s.placeAccess place := by
      obtain ⟨rfl, hm⟩ | ⟨rfl, haccess, hself, hel2, hundef, hel⟩ := hplace
      · exact listing_unimplemented hpmu haa64 hm31 hm
      · exact listing_reservedForEL2 hpmu haa64 haccess hself hel2 hundef
          (hel.imp_right fun ⟨hel0, huser⟩ => ⟨hel0, denied_eq_false huser⟩) fun hfgt => htpm hfgt rfl
    refine ⟨fun hfgt => ?decided, fun hfgt htpm hchoice hp hc => ?chosen⟩
    case decided => rw [hexec, finishIndexed_of_has_FGT hfgt (hlisting fun hnot => absurd hfgt (by simp [hnot]))]
    case chosen =>
      have hconstrained := placeAccess_of_not_has_FGT hfgt
      have h31 (hname : name = .pmxevcntr) : name.listing dir 31 s = .constrained .unimplemented := by
        rw [← hconstrained]
        exact listing_unimplemented hpmu haa64 (by simp [hname]) (numSelfHosted_le_31 s)
      subst hchoice
      obtain ⟨j, hj, hresolve⟩ := resolve_of_constrained ((hlisting fun _ => htpm).trans (hconstrained place)) h31 hp
      have hchoice : cuChoice s.choices.cu name dir p s.inp.el = c := by
        rw [hc, hp]
        split <;> rfl
      rw [hexec, finishIndexed, hresolve]
      clear hp hc
      subst hchoice
      refine ⟨fun h => ?undefined, fun h => ?razWi, fun h => ?nop, fun h => ?otherCounter, fun h => ?trapEL2,
        fun h => ?asSel31⟩
      case undefined => rw [constrainUnpredictable_undefined h, finishAccess_undefined]
      case razWi => rw [constrainUnpredictable_razWi h, finishAccess_razWi]
      case nop => rw [constrainUnpredictable_nop h, finishAccess_nop]
      case otherCounter =>
        rw [constrainUnpredictable_otherCounter h]
        split
        case isTrue => exact finishAccess_undefined
        case isFalse hsome => exact exec_otherCounter (Nat.pos_of_ne_zero hsome)
      case trapEL2 =>
        rw [constrainUnpredictable_trapEL2 h]
        split
        · exact finishAccess_trap .el2
        · exact finishAccess_undefined
      case asSel31 =>
        rw [constrainUnpredictable_asSel31 h fun hname => hj hname ▸ hm31 hname]
        split
        case isTrue hname => rw [hname, finishAccess_pmxevtyper_31 hfgt]
        case isFalse => exact finishAccess_undefined

end Sys2Proof.Machine

/-! The accesses to the instruction counter, its filter and its snapshot that complete, from EL1 or above. -/

namespace Sys2Proof.Machine

/-! ## The listings of the instruction counter -/

/-- The condition tree of the listings of PMICNTR_EL0 and PMICFILTR_EL0: that of `pm2Listing`, with EL0 under
PMUSERENR_EL0.UEN. `user` is what an access from EL0 is that no control takes away, `priv` one from EL1 or above. -/
def icntrListing (s : State) (fgt : Bool) (user priv : Access) : Access :=
  if !(s.has .PMUv3_ICNTR && s.has .AA64) then .undefined
  else
    match s.inp.el with
    | .el0 =>
      if s.undefPriority && !s.mdcr3EnPM2 then .undefined
      else if s.undefPriority && s.mdcr3TPM then .undefined
      else if !s.userUEN then s.trapUser
      else if !s.inp.inHostEL0 && fgt then .trap .el2
      else if s.guestTPM then .trap .el2
      else if s.haveEL3 && !s.mdcr3EnPM2 then s.trapMonitor
      else if s.haveEL3 && s.mdcr3TPM then s.trapMonitor
      else user
    | .el1 =>
      if s.undefPriority && !s.mdcr3EnPM2 then .undefined
      else if s.undefPriority && s.mdcr3TPM then .undefined
      else if fgt then .trap .el2
      else if s.guestTPM then .trap .el2
      else if s.haveEL3 && !s.mdcr3EnPM2 then s.trapMonitor
      else if s.haveEL3 && s.mdcr3TPM then s.trapMonitor
      else priv
    | .el2 =>
      if s.undefPriority && !s.mdcr3EnPM2 then .undefined
      else if s.undefPriority && s.mdcr3TPM then .undefined
      else if s.haveEL3 && !s.mdcr3EnPM2 then s.trapMonitor
      else if s.haveEL3 && s.mdcr3TPM then s.trapMonitor
      else priv
    | .el3 => priv

section
variable {s : State} {fgt : Bool} {user priv : Access} {b : Fgt2Bit}

/-- The two trees differ at EL0 only. -/
theorem icntrListing_eq_pm2Listing (hel : s.inp.el ≠ .el0) :
    icntrListing s fgt user priv = pm2Listing s (s.has .PMUv3_ICNTR) fgt priv := by
  unfold icntrListing pm2Listing
  cases h : s.inp.el with
  | el0 => exact absurd h hel
  | el1 | el2 | el3 => rfl

theorem icntrListing_of_pm2ReadOpen (h : s.pm2ReadOpen (s.has .PMUv3_ICNTR = true) b) :
    icntrListing s (s.fgt2Read b) user priv = priv := by
  have ⟨_, _, hpriv⟩ := h
  rw [icntrListing_eq_pm2Listing (ne_el0_of_privOpen hpriv), pm2Listing_of_pm2ReadOpen id h]

theorem icntrListing_of_pm2WriteOpen (h : s.pm2WriteOpen (s.has .PMUv3_ICNTR = true) b) :
    icntrListing s (s.fgt2Write b) user priv = priv := by
  have ⟨_, _, hpriv⟩ := h
  rw [icntrListing_eq_pm2Listing (ne_el0_of_privOpen hpriv), pm2Listing_of_pm2WriteOpen id h]

end

/-! ## The listings of the snapshot registers -/

/-- The condition tree of the listings that MDCR_EL3.EnPMSS guards: `present` is the feature of the register, `fgt` the
fine-grained control of EL2, `priv` what an access is that no control takes away. -/
def snapshotListing (s : State) (present fgt : Bool) (priv : Access) : Access :=
  if !(present && s.has .AA64) then .undefined
  else
    match s.inp.el with
    | .el0 => .undefined
    | .el1 =>
      if s.undefPriority && !s.mdcr3EnPMSS then .undefined
      else if fgt then .trap .el2
      else if s.haveEL3 && !s.mdcr3EnPMSS then s.trapMonitor
      else priv
    | .el2 =>
      if s.undefPriority && !s.mdcr3EnPMSS then .undefined
      else if s.haveEL3 && !s.mdcr3EnPMSS then s.trapMonitor
      else priv
    | .el3 => priv

theorem snapshotListing_of_privOpen {s : State} {present fgt : Bool} {priv : Access} (hpresent : present = true)
    (haa64 : s.has .AA64 = true) (h : s.privOpen (!s.mdcr3EnPMSS) fgt) : snapshotListing s present fgt priv = priv := by
  rw [← Bool.or_false fgt] at h
  obtain hel | ⟨hel, hundef, hmonitor⟩ | ⟨hel, hundef, hmonitor, hfgt, -⟩ := privOpen_cases h
  · simp [snapshotListing, hpresent, haa64, hel]
  · simp [snapshotListing, hpresent, haa64, hel, hundef, hmonitor]
  · simp [snapshotListing, hpresent, haa64, hel, hundef, hmonitor, hfgt]

/-! ## The meanings, by these trees -/

section
variable (t : Nat) (s : State)

theorem exec_mrsPmicntrEl0 : exec (.mrsPmicntrEl0 t) s = finishRead (icntrListing s (s.fgt2Read .nPMICNTR_EL0)
    (if s.userUENOn && !s.uacrF0 then .razWi else .perform .pmicntr) (.perform .pmicntr)) t s := rfl

theorem exec_msrPmicntrEl0 : exec (.msrPmicntrEl0 t) s = finishWrite (icntrListing s (s.fgt2Write .nPMICNTR_EL0)
    (if s.userUENOn && (!s.uacrF0 || s.userIR) then .razWi else .perform .pmicntr) (.perform .pmicntr)) t s := rfl

theorem exec_mrsPmicfiltrEl0 : exec (.mrsPmicfiltrEl0 t) s = finishRead (icntrListing s (s.fgt2Read .nPMICFILTR_EL0)
    (if s.userUENOn && !s.uacrF0 then .razWi else .perform .pmicfiltr) (.perform .pmicfiltr)) t s := rfl

theorem exec_msrPmicfiltrEl0 : exec (.msrPmicfiltrEl0 t) s = finishWrite (icntrListing s (s.fgt2Write .nPMICFILTR_EL0)
    (if s.userUENOn && (!s.uacrF0 || s.userIR) then .razWi else .perform .pmicfiltr) (.perform .pmicfiltr)) t s := rfl

theorem exec_mrsPmicntsvrEl1 : exec (.mrsPmicntsvrEl1 t) s = finishRead
    (snapshotListing s (s.has .PMUv3_ICNTR && s.has .PMUv3_SS) (s.fgt2Read .nPMSSDATA) (.perform .pmicntsvr)) t s := rfl

theorem finishRead_pmicntr : finishRead (.perform .pmicntr) t s = .next (s.readDone t s.pmu.pmicntr) :=
  finishRead_perform_known rfl

theorem finishRead_pmicntsvr : finishRead (.perform .pmicntsvr) t s = .next (s.readDone t s.pmu.pmicntsvr) :=
  finishRead_perform_known rfl

/-- The field evtCount is the constant 0x0008; VS is UNKNOWN while it holds its reserved value (R661). -/
theorem finishRead_pmicfiltr : finishRead (.perform .pmicfiltr) t s = .next (s.readDone t
    (mergeBits ((s.pmu.pmicfiltr &&& s.cfg.icfiltrMask) ||| 8) (s.unknown 0) (vsUnknown s.cfg s.pmu.pmicfiltr))) := rfl

end

/-- Settles O24: from EL1 or above each listing decides for its register. -/
theorem instructionCounterAccessesComplete : Obligations.InstructionCounterAccessesComplete := by
  intro s t
  refine ⟨fun h => ?mrsPmicntr, fun h => ?msrPmicntr, fun h => ?mrsPmicfiltr, fun h => ?msrPmicfiltr,
    fun hicntr h => ?mrsPmicntsvr⟩
  case mrsPmicntr => rw [exec_mrsPmicntrEl0, icntrListing_of_pm2ReadOpen h, finishRead_pmicntr]
  case msrPmicntr => rw [exec_msrPmicntrEl0, icntrListing_of_pm2WriteOpen h, finishWrite_perform, writeReg]
  case mrsPmicfiltr => rw [exec_mrsPmicfiltrEl0, icntrListing_of_pm2ReadOpen h, finishRead_pmicfiltr]
  case msrPmicfiltr => rw [exec_msrPmicfiltrEl0, icntrListing_of_pm2WriteOpen h, finishWrite_perform, writeReg]
  case mrsPmicntsvr =>
    obtain ⟨hss, haa64, hpriv⟩ := h
    have hpresent : (s.has .PMUv3_ICNTR && s.has .PMUv3_SS) = true := Bool.and_eq_true_iff.mpr ⟨hicntr, hss⟩
    rw [exec_mrsPmicntsvrEl1, snapshotListing_of_privOpen hpresent haa64 hpriv, finishRead_pmicntsvr]

end Sys2Proof.Machine

/-! The snapshot control register: the chain of the three controls of Capture events, and the accesses to PMSSCR_EL1
that complete, from EL1 or above. -/

namespace Sys2Proof.Machine

/-! ## The controls of Capture events (R844) -/

/-- The first control of the chain that is not delegated by 0b01 decides; only the last can hold a reserved value. -/
theorem captureControl_eq_captureOf {s : State} {v3 v2 v : BitVec 2}
    (h3 : v3 = if s.haveEL3 then field s.mdcrEl3 30 2 else 1) (h2 : v2 = if s.haveEL2 then field s.mdcrEl2 30 2 else 1)
    (hv : v = if v3 ≠ 1 then v3 else if v2 ≠ 1 then v2 else field s.pmu.pmecr 3 2) (hreserved : v ≠ 1) :
    s.captureControl = captureOf v := by
  simp only [State.captureControl, ← h3, ← h2, bne_iff_ne, beq_iff_eq]
  by_cases hmonitor : v3 ≠ 1
  case pos => rw [if_pos hmonitor, hv, if_pos hmonitor]
  by_cases hguest : v2 ≠ 1
  case pos => rw [if_neg hmonitor, if_pos hguest, hv, if_neg hmonitor, if_pos hguest]
  have hsse : v = field s.pmu.pmecr 3 2 := by rw [hv, if_neg hmonitor, if_neg hguest]
  rw [if_neg hmonitor, if_neg hguest, ← hsse, if_neg hreserved]

/-- Settles O27: the value that the chain resolves is not 0b01, and stands for the stated control. -/
theorem captureControlChain : Obligations.CaptureControlChain := by
  intro s v3 v2 h3 h2 v hv
  refine ⟨?disabled, ?prohibited, ?allowed⟩
  case disabled => rintro rfl; exact captureControl_eq_captureOf h3 h2 hv (by decide)
  case prohibited => rintro rfl; exact captureControl_eq_captureOf h3 h2 hv (by decide)
  case allowed => rintro rfl; exact captureControl_eq_captureOf h3 h2 hv (by decide)

/-! ## The accesses to PMSSCR_EL1 (R845, R847, R848) -/

section
variable {t : Nat} {s : State}

theorem exec_mrsPmsscrEl1 : exec (.mrsPmsscrEl1 t) s = finishRead
    (snapshotListing s (s.has .PMUv3_SS) (s.fgt2Read .nPMSSCR_EL1) (.perform .pmsscr)) t s := rfl

theorem exec_msrPmsscrEl1 : exec (.msrPmsscrEl1 t) s = finishWrite
    (snapshotListing s (s.has .PMUv3_SS) (s.fgt2Write .nPMSSCR_EL1) (.perform .pmsscr)) t s := rfl

theorem finishRead_pmsscr :
    finishRead (.perform .pmsscr) t s = .next (s.readDone t (s.pmu.pmsscr &&& 0x100000001)) :=
  finishRead_perform_known rfl

theorem exec_msrPmsscrEl1_of_privOpen (hss : s.has .PMUv3_SS = true) (haa64 : s.has .AA64 = true)
    (h : s.privOpen (!s.mdcr3EnPMSS) (s.fgt2Write .nPMSSCR_EL1)) :
    exec (.msrPmsscrEl1 t) s = .next (writePmsscr (s.readX t) s).advance := by
  rw [exec_msrPmsscrEl1, snapshotListing_of_privOpen hss haa64 h, finishWrite_perform, writeReg]

end

theorem bit_one (i : Nat) : bit 1#64 i = decide (i = 0) := bit_bitIf 0 (by decide) true i

section
variable {v : Word} {s : State}

theorem writePmsscr_of_allowed (hss : bit v 0 = true) (h : s.captureControl = .allowed) :
    writePmsscr v s = s.withPmu (captured s) := by simp [writePmsscr, hss, h]

theorem writePmsscr_of_prohibited (hss : bit v 0 = true) (h : s.captureControl = .prohibited) :
    writePmsscr v s = s.withPmu { s.pmu with pmsscr := 0x100000000 } := by
  have hnc : bitIf 32 true = 0x100000000 := rfl
  simp [writePmsscr, hss, h, hnc]

/-- Without a Capture event NC is written, and SS, the only other bit kept, stays as it was. -/
theorem writePmsscr_of_no_request (h : bit v 0 = false ∨ s.captureControl = .disabled) :
    writePmsscr v s = s.withPmu { s.pmu with pmsscr := bitIf 32 (bit v 32) ||| (s.pmu.pmsscr &&& 1) } := by
  obtain hss | hdisabled := h
  · simp [writePmsscr, hss]
  · simp [writePmsscr, hdisabled]

theorem arrayGet_captured_pmevcntsvr {n : Nat} (hn : n < 31) : arrayGet (captured s).pmevcntsvr n 0 =
    if n < s.cfg.numCounters then s.evcntr n else arrayGet s.pmu.pmevcntsvr n 0 := arrayGet_ofFn _ n 0 hn

/-- A Capture event reaches the snapshot registers and PMSSCR_EL1 only. -/
theorem captured_frame : captured s = { s.pmu with
    pmccntsvr := (captured s).pmccntsvr, pmevcntsvr := (captured s).pmevcntsvr,
    pmicntsvr := (captured s).pmicntsvr, pmsscr := (captured s).pmsscr } := rfl

end

/-- Settles O26: the listings decide for the register, and a write is one of the three that the controls of Capture
events allow. -/
theorem snapshotControlCompletes : Obligations.SnapshotControlCompletes := by
  intro s t
  refine ⟨fun ⟨hss, haa64, hpriv⟩ => ?mrsPmsscr, fun hss haa64 hpriv => ?msrPmsscr⟩
  case mrsPmsscr => rw [exec_mrsPmsscrEl1, snapshotListing_of_privOpen hss haa64 hpriv, finishRead_pmsscr]
  case msrPmsscr =>
    rw [exec_msrPmsscrEl1_of_privOpen hss haa64 hpriv]
    refine ⟨fun hrequest hallowed => ?allowed, fun hrequest hprohibited => ?prohibited, fun hno => ?noRequest⟩
    case allowed =>
      rw [writePmsscr_of_allowed hrequest hallowed]
      exact ⟨captured s, rfl, rfl, fun n hn => arrayGet_captured_pmevcntsvr hn, rfl, rfl, captured_frame⟩
    case prohibited => rw [writePmsscr_of_prohibited hrequest hprohibited]
    case noRequest =>
      rw [writePmsscr_of_no_request hno]
      refine ⟨bitIf 32 (bit (s.readX t) 32) ||| (s.pmu.pmsscr &&& 1), rfl, ?nc, ?ss⟩
      case nc => simp [bit_bitIf, bit_one]
      case ss => simp [bit_bitIf, bit_one]

end Sys2Proof.Machine

/-! PMZR_EL0 and the user enable register: the counters that a write of PMZR_EL0 from EL1 or above sets to zero, and the
accesses from EL0 that PMUSERENR_EL0 does not permit. -/

namespace Sys2Proof.Machine

/-! ## PMZR_EL0 (R972 to R976) -/

section
variable {s : State}

/-- The condition tree of PMZR_EL0 is `privListing` but for EL0, where the register is not UNDEFINED. -/
theorem listingMsrPmzrEl0_eq_privListing (hel : s.inp.el ≠ .el0) :
    listingMsrPmzrEl0 s = privListing s (s.has .PMUv3p9) (s.fgt2Write .nPMZR_EL0) (.perform .pmzr) := by
  unfold listingMsrPmzrEl0 privListing
  cases h : s.inp.el with
  | el0 => exact absurd h hel
  | el1 | el2 | el3 => rfl

theorem exec_msrPmzrEl0 {t : Nat} : exec (.msrPmzrEl0 t) s = finishWrite (listingMsrPmzrEl0 s) t s := rfl

theorem zrWritable_31_of_ne_el0 (hel : s.inp.el ≠ .el0) : s.zrWritable 31 = true := by simp [State.zrWritable, hel]

theorem zrWritable_of_ne_el0 (hel : s.inp.el ≠ .el0) {n : Nat} (hn : n < 31) :
    s.zrWritable n = decide (n < s.numAccessible) := by
  have hne31 : n ≠ 31 := by omega
  have hne32 : n ≠ 32 := by omega
  simp [State.zrWritable, hel, hne31, hne32, ← decide_not]

/-- From EL2 and EL3, EnPM2 is the one control of the bit of PMICNTR_EL0 (R972). -/
theorem zrWritable_32_of_el2_or_el3
    (h : s.inp.el = .el3 ∨ s.inp.el = .el2 ∧ (s.haveEL3 = false ∨ s.mdcr3EnPM2 = true)) :
    s.zrWritable 32 = s.has .PMUv3_ICNTR := by
  have hguest : s.f0Guest = false := by
    obtain hel | ⟨hel, -⟩ := h <;> simp [State.f0Guest, State.atEL0or1, hel]
  have henabled : s.f0Disabled = false := by
    obtain hel | ⟨-, hno3 | hen⟩ := h
    · simp [State.f0Disabled, hel]
    · simp [State.f0Disabled, hno3]
    · simp [State.f0Disabled, hen]
  have hel0 : (s.inp.el == .el0) = false := by obtain hel | ⟨hel, -⟩ := h <;> rw [hel] <;> rfl
  simp [State.zrWritable, hguest, henabled, hel0]

variable (s) (v : Word)

theorem zeroPmuCounters_pmccntr : (zeroPmuCounters v s).pmu.pmccntr =
    if bit v 31 && s.zrWritable 31 then 0 else s.pmu.pmccntr := rfl

theorem zeroPmuCounters_pmicntr : (zeroPmuCounters v s).pmu.pmicntr =
    if bit v 32 && s.zrWritable 32 then 0 else s.pmu.pmicntr := rfl

theorem evcntr_zeroPmuCounters {n : Nat} (hn : n < 31) : (zeroPmuCounters v s).evcntr n =
    if bit v n && s.zrWritable n then 0 else s.evcntr n := arrayGet_ofFn _ n 0 hn

/-- `ZeroPMUCounters(v)` reaches the counters only. -/
theorem zeroPmuCounters_frame : zeroPmuCounters v s = s.withPmu { s.pmu with
    pmccntr := (zeroPmuCounters v s).pmu.pmccntr
    pmevcntr := (zeroPmuCounters v s).pmu.pmevcntr
    pmicntr := (zeroPmuCounters v s).pmu.pmicntr } := rfl

end

/-- Settles O29: the listing decides for PMZR_EL0, whose bits are all writable above EL0 but for the counters that do
not exist there. -/
theorem zeroCountersCompletes : Obligations.ZeroCountersCompletes := by
  intro s t hp9 haa64 hpriv
  have hel := ne_el0_of_privOpen hpriv
  refine ⟨(zeroPmuCounters (s.readX t) s).pmu, ?completes, ?pmccntr, fun n hn => ?evcntr, fun hicntr => ?pmicntr,
    congrArg State.pmu (zeroPmuCounters_frame s (s.readX t))⟩
  case completes =>
    rw [exec_msrPmzrEl0, listingMsrPmzrEl0_eq_privListing hel, privListing_of_privOpen hp9 haa64 hpriv,
      finishWrite_perform, writeReg, zeroPmuCounters_frame]
    rfl
  case pmccntr => rw [zeroPmuCounters_pmccntr, zrWritable_31_of_ne_el0 hel, Bool.and_true]
  case evcntr =>
    have hzero := evcntr_zeroPmuCounters s (s.readX t) hn
    simp only [zrWritable_of_ne_el0 hel hn, Bool.and_eq_true, decide_eq_true_eq] at hzero
    exact hzero
  case pmicntr => simp only [zeroPmuCounters_pmicntr, zrWritable_32_of_el2_or_el3 hicntr, Bool.and_eq_true]

/-! ## Accesses from EL0 without permission (R892) -/

/-- An access from EL0 of which PMUSERENR_EL0 is the first control: FEAT_PMUv3 is there, and
EL3SDDUndefPriority() does not put MDCR_EL3.TPM before it. -/
def State.userTestFirst (s : State) : Prop :=
  s.inp.el = .el0 ∧ s.has .PMUv3 = true ∧ s.has .AA64 = true ∧ s.undefPriority = false

section
variable {s : State} {denied fgt : Bool} {user priv : Access}

theorem userDisabled_eq_true (hen : s.userEN = false) (huen : s.userUEN = false) : s.userDisabled = true := by
  simp [State.userDisabled, hen, huen]

theorem userDisabledBut_eq_true (hen : s.userEN = false) (huen : s.userUEN = false) {b : Bool} (hb : b = false) :
    s.userDisabledBut b = true := by
  simp [State.userDisabledBut, hen, huen, hb]

theorem pmuListing_of_denied (h : s.userTestFirst) (hdenied : denied = true) :
    pmuListing s denied fgt user priv = s.trapUser := by
  obtain ⟨hel, hpmu, haa64, hundef⟩ := h
  simp [pmuListing, hpmu, haa64, hel, hundef, hdenied]

/-- The existence of the counter is tested before PMUSERENR_EL0. -/
theorem counterListing_of_denied (h : s.userTestFirst) (hdenied : denied = true) {m : Nat} (hm : m < s.numSelfHosted) :
    counterListing s m denied fgt user priv = s.trapUser := by
  obtain ⟨hel, hpmu, haa64, hundef⟩ := h
  have hexists : ¬ s.numSelfHosted ≤ m := Nat.not_le.mpr hm
  simp [counterListing, hpmu, haa64, hexists, hel, hundef, hdenied]

theorem listingMrsPmcrEl0_of_not_userEN (h : s.userTestFirst) (hen : s.userEN = false) :
    listingMrsPmcrEl0 s = s.trapUser := by
  obtain ⟨hel, hpmu, haa64, hundef⟩ := h
  simp [listingMrsPmcrEl0, hpmu, haa64, hel, hundef, hen]

theorem listingMsrPmcrEl0_of_not_userEN (h : s.userTestFirst) (hen : s.userEN = false) :
    listingMsrPmcrEl0 s = s.trapUser := by
  obtain ⟨hel, hpmu, haa64, hundef⟩ := h
  simp [listingMsrPmcrEl0, hpmu, haa64, hel, hundef, hen]

theorem trapUser_eq (s : State) : s.trapUser = .trap (if s.el2Enabled && s.inp.tge then .el2 else .el1) :=
  (apply_ite Access.trap _ _ _).symm

variable {name : CuName} {dir : Direction} {m t : Nat} {i : Instr} {a : Access}

/-- An access that ends in the trap of an EL0 access raises the exception that R1502 gives it. -/
theorem exec_of_trapUser (dir : Direction) (hexec : exec i s = finishAccess dir a t s) (ha : a = s.trapUser) :
    exec i s = .next (takeException
      (.systemAccessTrap (if s.el2Enabled && s.inp.tge then .el2 else .el1) 0x18) s) := by
  rw [hexec, ha, trapUser_eq, finishAccess_trap]

theorem denied_eq_true (hen : s.userEN = false) (huen : s.userUEN = false) (her : s.userER = false) :
    name.denied dir s = true := by
  have hcounter := userDisabledBut_eq_true hen huen her
  have htype := userDisabled_eq_true hen huen
  cases name <;> cases dir <;> assumption

theorem exec_of_rows_of_denied (name : CuName) (dir : Direction) (h : s.userTestFirst)
    (hdenied : name.array.denied dir s = true) (hm : m < s.numSelfHosted)
    (hi : some i = (name.rows dir)[m]?.map (· t)) : exec i s = finishAccess dir s.trapUser t s := by
  obtain ⟨f, hf, rfl⟩ := Option.map_eq_some_iff.mp hi.symm
  have hm31 : m ≠ 31 := (hm.trans_le (numSelfHosted_le_31 s)).ne
  have hlisting : name.array.listing dir m s = s.trapUser := by
    rw [listing_eq_counterListing fun _ => hm31, counterListing_of_denied h hdenied hm]
  have hdecided : ∀ p, s.trapUser ≠ .constrained p := by rw [trapUser_eq]; exact nofun
  rw [exec_of_rows name dir hf, finishIndexed_of_decided hlisting hdecided]

end

/-- Settles O44: PMUSERENR_EL0 is the first control that each listing tests, and none of its permissions is given. -/
theorem userAccessWithoutPermissionTraps : Obligations.UserAccessWithoutPermissionTraps := by
  intro s t i hpmu haa64 hel hen huen hcr her hsw hundef hi
  have hfirst : s.userTestFirst := ⟨hel, hpmu, haa64, hundef⟩
  have hdisabled := userDisabled_eq_true hen huen
  have hdisabledCR := userDisabledBut_eq_true hen huen hcr
  have hdisabledER := userDisabledBut_eq_true hen huen her
  have hdisabledSW := userDisabledBut_eq_true hen huen hsw
  have hceid : (s.userDisabled || (s.has .PMUv3p9 && s.userTID)) = true := by rw [hdisabled, Bool.true_or]
  obtain hi | ⟨m, hm, hi⟩ := hi
  · simp only [List.mem_cons, List.not_mem_nil, or_false] at hi
    obtain rfl | rfl | rfl | rfl | rfl | rfl | rfl | rfl | rfl | rfl | rfl | rfl | rfl | rfl | rfl | rfl | rfl | rfl |
      rfl := hi
    · exact exec_of_trapUser .read (exec_mrsPmccfiltrEl0 t s) (pmuListing_of_denied hfirst hdisabled)
    · exact exec_of_trapUser .write (exec_msrPmccfiltrEl0 t s) (pmuListing_of_denied hfirst hdisabled)
    · exact exec_of_trapUser .read (exec_mrsPmccntrEl0 t s) (pmuListing_of_denied hfirst hdisabledCR)
    · exact exec_of_trapUser .write (exec_msrPmccntrEl0 t s) (pmuListing_of_denied hfirst hdisabled)
    · exact exec_of_trapUser .read (exec_mrsPmceid0El0 t s)
        ((listingMrsPmceid0El0_eq s).trans (pmuListing_of_denied hfirst hceid))
    · exact exec_of_trapUser .read (exec_mrsPmceid1El0 t s)
        ((listingMrsPmceid1El0_eq s).trans (pmuListing_of_denied hfirst hceid))
    · exact exec_of_trapUser .read (exec_mrsPmcntenclrEl0 t s) (pmuListing_of_denied hfirst hdisabled)
    · exact exec_of_trapUser .write (exec_msrPmcntenclrEl0 t s) (pmuListing_of_denied hfirst hdisabled)
    · exact exec_of_trapUser .read (exec_mrsPmcntensetEl0 t s) (pmuListing_of_denied hfirst hdisabled)
    · exact exec_of_trapUser .write (exec_msrPmcntensetEl0 t s) (pmuListing_of_denied hfirst hdisabled)
    · exact exec_of_trapUser .read (exec_mrsPmcrEl0 t s) (listingMrsPmcrEl0_of_not_userEN hfirst hen)
    · exact exec_of_trapUser .write (exec_msrPmcrEl0 t s) (listingMsrPmcrEl0_of_not_userEN hfirst hen)
    · exact exec_of_trapUser .read (exec_mrsPmovsclrEl0 t s) (pmuListing_of_denied hfirst hdisabled)
    · exact exec_of_trapUser .write (exec_msrPmovsclrEl0 t s) (pmuListing_of_denied hfirst hdisabled)
    · exact exec_of_trapUser .read (exec_mrsPmovssetEl0 t s) (pmuListing_of_denied hfirst hdisabled)
    · exact exec_of_trapUser .write (exec_msrPmovssetEl0 t s) (pmuListing_of_denied hfirst hdisabled)
    · exact exec_of_trapUser .read (exec_mrsPmselrEl0 t s) (pmuListing_of_denied hfirst hdisabledER)
    · exact exec_of_trapUser .write (exec_msrPmselrEl0 t s) (pmuListing_of_denied hfirst hdisabledER)
    · exact exec_of_trapUser .write (exec_msrPmswincEl0 t s) (pmuListing_of_denied hfirst hdisabledSW)
  · have hdenied {name : CuName} {dir : Direction} : name.denied dir s = true := denied_eq_true hen huen her
    simp only [List.mem_cons, List.not_mem_nil, or_false] at hi
    obtain hi | hi | hi | hi := hi
    · exact exec_of_trapUser .read (exec_of_rows_of_denied .pmevcntr .read hfirst hdenied hm hi) rfl
    · exact exec_of_trapUser .write (exec_of_rows_of_denied .pmevcntr .write hfirst hdenied hm hi) rfl
    · exact exec_of_trapUser .read (exec_of_rows_of_denied .pmevtyper .read hfirst hdenied hm hi) rfl
    · exact exec_of_trapUser .write (exec_of_rows_of_denied .pmevtyper .write hfirst hdenied hm hi) rfl

end Sys2Proof.Machine

/-! The registers of the System PMUs: the condition trees that their listings share, what an access is that no control
takes away, and the controls of MDSCR_EL1.EnSPM and of the access fields that take one away. -/

namespace Sys2Proof.Machine

/-! ## The condition trees of the System PMU listings (R1001, R1002) -/

/-- The fine-grained control of EL2 in HDFGRTR2_EL2 or HDFGWTR2_EL2. -/
def Direction.fgt2 (dir : Direction) (s : State) (b : Fgt2Bit) : Bool :=
  match dir with
  | .read => s.fgt2Read b
  | .write => s.fgt2Write b

/-- The access field of the selected System PMU, in an access register, does not allow the access (R1001). -/
def Direction.spmDenies (dir : Direction) (s : State) : Word → Bool :=
  match dir with
  | .read => s.spmNoRead
  | .write => s.spmNoWrite

/-- The condition tree at EL0 of the listings of a register of the selected System PMU: `b` is its fine-grained control,
`a` what an access is that no control takes away. -/
def spmuUserListing (s : State) (dir : Direction) (b : Fgt2Bit) (a : Access) : Access :=
  if s.undefPriority && !s.mdcr3EnPM2 then .undefined
  else if s.undefPriority && dir.spmDenies s s.spm.spmaccessr3 then .undefined
  else if !s.inp.mdscrEnSPM then s.trapUser
  else if !s.inp.inHostEL0 && dir.spmDenies s s.spm.spmaccessr1 then s.trapUser
  else if !s.inp.inHostEL0 && dir.fgt2 s b then .trap .el2
  else if s.el2Enabled && !s.mdcr2EnSPM then .trap .el2
  else if s.el2Enabled && dir.spmDenies s s.spm.spmaccessr2 then .trap .el2
  else if s.haveEL3 && !s.mdcr3EnPM2 then s.trapMonitor
  else if s.haveEL3 && dir.spmDenies s s.spm.spmaccessr3 then s.trapMonitor
  else a

/-- The condition tree of these listings: `present` is the feature of the register, and `user` says that the name is not
UNDEFINED at EL0. -/
def spmuListing (s : State) (present : Bool) (dir : Direction) (b : Fgt2Bit) (user : Bool) (a : Access) : Access :=
  if !(present && s.has .AA64) then .undefined
  else
    match s.inp.el with
    | .el0 => if user then spmuUserListing s dir b a else .undefined
    | .el1 =>
      if s.undefPriority && !s.mdcr3EnPM2 then .undefined
      else if s.undefPriority && dir.spmDenies s s.spm.spmaccessr3 then .undefined
      else if dir.fgt2 s b then .trap .el2
      else if s.el2Enabled && !s.mdcr2EnSPM then .trap .el2
      else if s.el2Enabled && dir.spmDenies s s.spm.spmaccessr2 then .trap .el2
      else if s.haveEL3 && !s.mdcr3EnPM2 then s.trapMonitor
      else if s.haveEL3 && dir.spmDenies s s.spm.spmaccessr3 then s.trapMonitor
      else a
    | .el2 =>
      if s.undefPriority && !s.mdcr3EnPM2 then .undefined
      else if s.undefPriority && dir.spmDenies s s.spm.spmaccessr3 then .undefined
      else if s.haveEL3 && !s.mdcr3EnPM2 then s.trapMonitor
      else if s.haveEL3 && dir.spmDenies s s.spm.spmaccessr3 then s.trapMonitor
      else a
    | .el3 => a

/-- The condition tree of the listings of SPMSELR_EL0 and SPMACCESSR_EL1, which exist once per PE: no access field is
tested, and what an access is that no control takes away may depend on the Exception level. -/
def spmPeListing (s : State) (dir : Direction) (b : Fgt2Bit) (user : Bool) (a : EL → Access) : Access :=
  if !(s.has .SPMU && s.has .AA64) then .undefined
  else
    match s.inp.el with
    | .el0 =>
      if user then
        if s.undefPriority && !s.mdcr3EnPM2 then .undefined
        else if !s.inp.mdscrEnSPM then s.trapUser
        else if !s.inp.inHostEL0 && dir.fgt2 s b then .trap .el2
        else if s.el2Enabled && !s.mdcr2EnSPM then .trap .el2
        else if s.haveEL3 && !s.mdcr3EnPM2 then s.trapMonitor
        else a .el0
      else .undefined
    | .el1 =>
      if s.undefPriority && !s.mdcr3EnPM2 then .undefined
      else if dir.fgt2 s b then .trap .el2
      else if s.el2Enabled && !s.mdcr2EnSPM then .trap .el2
      else if s.haveEL3 && !s.mdcr3EnPM2 then s.trapMonitor
      else a .el1
    | .el2 =>
      if s.undefPriority && !s.mdcr3EnPM2 then .undefined
      else if s.haveEL3 && !s.mdcr3EnPM2 then s.trapMonitor
      else a .el2
    | .el3 => a .el3

/-! ## Open accesses -/

/-- An access to a register of the selected System PMU from EL1 or above that no control takes away. -/
def Direction.spmuPrivOpen (dir : Direction) (s : State) (b : Fgt2Bit) : Prop :=
  match dir with
  | .read => s.spmuReadOpen b
  | .write => s.spmuWriteOpen b

/-- The same from EL0 too. -/
def Direction.spmuOpen (dir : Direction) (s : State) (b : Fgt2Bit) : Prop :=
  match dir with
  | .read => s.spmuReadOpen b ∨ s.spmuUserReadOpen b
  | .write => s.spmuWriteOpen b ∨ s.spmuUserWriteOpen b

/-- An access to a System PMU register that exists once per PE, from EL1 or above, that no control takes away. -/
def Direction.spmPePrivOpen (dir : Direction) (s : State) (b : Fgt2Bit) : Prop :=
  match dir with
  | .read => s.spmPeReadOpen b
  | .write => s.spmPeWriteOpen b

/-- The same from EL0 too. -/
def Direction.spmPeOpen (dir : Direction) (s : State) (b : Fgt2Bit) : Prop :=
  match dir with
  | .read => s.spmPeReadOpen b ∨ s.spmPeUserReadOpen b
  | .write => s.spmPeWriteOpen b ∨ s.spmPeUserWriteOpen b

section
variable {s : State} {present user : Bool} {dir : Direction} {b : Fgt2Bit} {a : Access}

theorem spmuListing_of_privOpen (hpresent : present = true) (haa64 : s.has .AA64 = true)
    (h : s.privOpen (!s.mdcr3EnPM2 || dir.spmDenies s s.spm.spmaccessr3)
      (dir.fgt2 s b || (s.el2Enabled && (!s.mdcr2EnSPM || dir.spmDenies s s.spm.spmaccessr2)))) :
    spmuListing s present dir b user a = a := by
  obtain hel | ⟨hel, hundef, hmonitor⟩ | ⟨hel, hundef, hmonitor, hfgt, hguest⟩ := privOpen_cases h
  · simp [spmuListing, hpresent, haa64, hel]
  · obtain ⟨hundef2, hundefField⟩ := and_or_eq_false_iff.mp hundef
    obtain ⟨hmonitor2, hmonitorField⟩ := and_or_eq_false_iff.mp hmonitor
    simp [spmuListing, hpresent, haa64, hel, hundef2, hundefField, hmonitor2, hmonitorField]
  · obtain ⟨hundef2, hundefField⟩ := and_or_eq_false_iff.mp hundef
    obtain ⟨hmonitor2, hmonitorField⟩ := and_or_eq_false_iff.mp hmonitor
    obtain ⟨hguestEn, hguestField⟩ := and_or_eq_false_iff.mp hguest
    simp [spmuListing, hpresent, haa64, hel, hundef2, hundefField, hfgt, hguestEn, hguestField, hmonitor2,
      hmonitorField]

theorem spmuListing_of_userOpen (hpresent : present = true) (haa64 : s.has .AA64 = true)
    (h : s.userOpen (!s.mdcr3EnPM2 || dir.spmDenies s s.spm.spmaccessr3)
      ((!s.inp.inHostEL0 && dir.fgt2 s b) || (s.el2Enabled && (!s.mdcr2EnSPM || dir.spmDenies s s.spm.spmaccessr2)))
      (s.spmuUserDenied (dir.spmDenies s))) :
    spmuListing s present dir b true a = a := by
  obtain ⟨hel, hmonitor, hguest, huser⟩ := h
  obtain ⟨hundef2, hundefField⟩ := and_or_eq_false_iff.mp (undefPriority_and_eq_false hmonitor)
  obtain ⟨hmonitor2, hmonitorField⟩ := and_or_eq_false_iff.mp hmonitor
  obtain ⟨hfgt, hguest⟩ := Bool.or_eq_false_iff.mp hguest
  obtain ⟨hguestEn, hguestField⟩ := and_or_eq_false_iff.mp hguest
  obtain ⟨huserEn, huserField⟩ := Bool.or_eq_false_iff.mp huser
  simp [spmuListing, spmuUserListing, hpresent, haa64, hel, hundef2, hundefField, huserEn, huserField, hfgt, hguestEn,
    hguestField, hmonitor2, hmonitorField]

theorem spmuListing_of_spmuPrivOpen (h : dir.spmuPrivOpen s b) :
    spmuListing s (s.has .SPMU) dir b user a = a := by
  cases dir with
  | read =>
    obtain ⟨hspmu, haa64, hopen⟩ := h
    exact spmuListing_of_privOpen hspmu haa64 hopen
  | write =>
    obtain ⟨hspmu, haa64, hopen⟩ := h
    exact spmuListing_of_privOpen hspmu haa64 hopen

/-- SPMZR_EL0 has another feature than the other registers, and so its traps stand alone (R1476). -/
theorem spmuListing_of_writeFree (hpresent : present = true) (h : s.spmuWriteFree b ∨ s.spmuUserWriteFree b) :
    spmuListing s present .write b true a = a := by
  obtain ⟨haa64, hopen⟩ | ⟨haa64, hopen⟩ := h
  · exact spmuListing_of_privOpen hpresent haa64 hopen
  · exact spmuListing_of_userOpen hpresent haa64 hopen

theorem spmuListing_of_spmuOpen (h : dir.spmuOpen s b) : spmuListing s (s.has .SPMU) dir b true a = a := by
  cases dir with
  | read =>
    obtain hpriv | ⟨hspmu, haa64, hopen⟩ := h
    · exact spmuListing_of_spmuPrivOpen hpriv
    · exact spmuListing_of_userOpen hspmu haa64 hopen
  | write =>
    obtain ⟨hspmu, hfree⟩ | ⟨hspmu, hfree⟩ := h
    · exact spmuListing_of_writeFree hspmu (.inl hfree)
    · exact spmuListing_of_writeFree hspmu (.inr hfree)

variable {acc : EL → Access}

theorem spmPeListing_of_privOpen (hspmu : s.has .SPMU = true) (haa64 : s.has .AA64 = true)
    (h : s.privOpen (!s.mdcr3EnPM2) (dir.fgt2 s b || (s.el2Enabled && !s.mdcr2EnSPM))) :
    spmPeListing s dir b user acc = acc s.inp.el := by
  obtain hel | ⟨hel, hundef, hmonitor⟩ | ⟨hel, hundef, hmonitor, hfgt, hguest⟩ := privOpen_cases h
  · simp [spmPeListing, hspmu, haa64, hel]
  · simp [spmPeListing, hspmu, haa64, hel, hundef, hmonitor]
  · simp [spmPeListing, hspmu, haa64, hel, hundef, hmonitor, hfgt, hguest]

theorem spmPeListing_of_userOpen (hspmu : s.has .SPMU = true) (haa64 : s.has .AA64 = true)
    (h : s.userOpen (!s.mdcr3EnPM2) ((!s.inp.inHostEL0 && dir.fgt2 s b) || (s.el2Enabled && !s.mdcr2EnSPM))
      (!s.inp.mdscrEnSPM)) :
    spmPeListing s dir b true acc = acc s.inp.el := by
  obtain ⟨hel, hmonitor, hguest, huser⟩ := h
  obtain ⟨hfgt, hguest⟩ := Bool.or_eq_false_iff.mp hguest
  have hundef := undefPriority_and_eq_false hmonitor
  simp [spmPeListing, hspmu, haa64, hel, hundef, huser, hfgt, hguest, hmonitor]

theorem spmPeListing_of_spmPePrivOpen (h : dir.spmPePrivOpen s b) :
    spmPeListing s dir b user acc = acc s.inp.el := by
  cases dir with
  | read =>
    obtain ⟨hspmu, haa64, hopen⟩ := h
    exact spmPeListing_of_privOpen hspmu haa64 hopen
  | write =>
    obtain ⟨hspmu, haa64, hopen⟩ := h
    exact spmPeListing_of_privOpen hspmu haa64 hopen

theorem spmPeListing_of_spmPeOpen (h : dir.spmPeOpen s b) : spmPeListing s dir b true acc = acc s.inp.el := by
  cases dir with
  | read =>
    obtain hpriv | ⟨hspmu, haa64, hopen⟩ := h
    · exact spmPeListing_of_spmPePrivOpen hpriv
    · exact spmPeListing_of_userOpen hspmu haa64 hopen
  | write =>
    obtain hpriv | ⟨hspmu, haa64, hopen⟩ := h
    · exact spmPeListing_of_spmPePrivOpen hpriv
    · exact spmPeListing_of_userOpen hspmu haa64 hopen

end

/-! ## The meanings, by these trees -/

section
variable (t : Nat) (s : State)

theorem exec_mrsSpmcfgrEl1 : exec (.mrsSpmcfgrEl1 t) s = finishAccess .read
    (spmuListing s (s.has .SPMU) .read .nSPMID false (.perform (.spmcfgr s.selectedSpmu))) t s := rfl

theorem exec_mrsSpmcgcr0El1 : exec (.mrsSpmcgcr0El1 t) s = finishAccess .read
    (spmuListing s (s.has .SPMU) .read .nSPMID false (.perform (.spmcgcr s.selectedSpmu 0))) t s := rfl

theorem exec_mrsSpmcgcr1El1 : exec (.mrsSpmcgcr1El1 t) s = finishAccess .read
    (spmuListing s (s.has .SPMU) .read .nSPMID false (.perform (.spmcgcr s.selectedSpmu 1))) t s := rfl

theorem exec_mrsSpmdevaffEl1 : exec (.mrsSpmdevaffEl1 t) s = finishAccess .read
    (spmuListing s (s.has .SPMU) .read .nSPMDEVAFF_EL1 false (.perform (.spmdevaff s.selectedSpmu))) t s := rfl

theorem exec_mrsSpmdevarchEl1 : exec (.mrsSpmdevarchEl1 t) s = finishAccess .read
    (spmuListing s (s.has .SPMU) .read .nSPMID false (.perform (.spmdevarch s.selectedSpmu))) t s := rfl

theorem exec_mrsSpmiidrEl1 : exec (.mrsSpmiidrEl1 t) s = finishAccess .read
    (spmuListing s (s.has .SPMU) .read .nSPMID false (.perform (.spmiidr s.selectedSpmu))) t s := rfl

theorem exec_mrsSpmcntenclrEl0 : exec (.mrsSpmcntenclrEl0 t) s = finishAccess .read
    (spmuListing s (s.has .SPMU) .read .nSPMCNTEN true (.perform (.spmcntenclr s.selectedSpmu))) t s := rfl

theorem exec_msrSpmcntenclrEl0 : exec (.msrSpmcntenclrEl0 t) s = finishAccess .write
    (spmuListing s (s.has .SPMU) .write .nSPMCNTEN true (.perform (.spmcntenclr s.selectedSpmu))) t s := rfl

theorem exec_mrsSpmcntensetEl0 : exec (.mrsSpmcntensetEl0 t) s = finishAccess .read
    (spmuListing s (s.has .SPMU) .read .nSPMCNTEN true (.perform (.spmcntenset s.selectedSpmu))) t s := rfl

theorem exec_msrSpmcntensetEl0 : exec (.msrSpmcntensetEl0 t) s = finishAccess .write
    (spmuListing s (s.has .SPMU) .write .nSPMCNTEN true (.perform (.spmcntenset s.selectedSpmu))) t s := rfl

theorem exec_mrsSpmcrEl0 : exec (.mrsSpmcrEl0 t) s = finishAccess .read
    (spmuListing s (s.has .SPMU) .read .nSPMCR_EL0 true (.perform (.spmcr s.selectedSpmu))) t s := rfl

theorem exec_msrSpmcrEl0 : exec (.msrSpmcrEl0 t) s = finishAccess .write
    (spmuListing s (s.has .SPMU) .write .nSPMCR_EL0 true (.perform (.spmcr s.selectedSpmu))) t s := rfl

theorem exec_mrsSpmintenclrEl1 : exec (.mrsSpmintenclrEl1 t) s = finishAccess .read
    (spmuListing s (s.has .SPMU) .read .nSPMINTEN false (.perform (.spmintenclr s.selectedSpmu))) t s := rfl

theorem exec_msrSpmintenclrEl1 : exec (.msrSpmintenclrEl1 t) s = finishAccess .write
    (spmuListing s (s.has .SPMU) .write .nSPMINTEN false (.perform (.spmintenclr s.selectedSpmu))) t s := rfl

theorem exec_mrsSpmintensetEl1 : exec (.mrsSpmintensetEl1 t) s = finishAccess .read
    (spmuListing s (s.has .SPMU) .read .nSPMINTEN false (.perform (.spmintenset s.selectedSpmu))) t s := rfl

theorem exec_msrSpmintensetEl1 : exec (.msrSpmintensetEl1 t) s = finishAccess .write
    (spmuListing s (s.has .SPMU) .write .nSPMINTEN false (.perform (.spmintenset s.selectedSpmu))) t s := rfl

theorem exec_mrsSpmovsclrEl0 : exec (.mrsSpmovsclrEl0 t) s = finishAccess .read
    (spmuListing s (s.has .SPMU) .read .nSPMOVS true (.perform (.spmovsclr s.selectedSpmu))) t s := rfl

theorem exec_msrSpmovsclrEl0 : exec (.msrSpmovsclrEl0 t) s = finishAccess .write
    (spmuListing s (s.has .SPMU) .write .nSPMOVS true (.perform (.spmovsclr s.selectedSpmu))) t s := rfl

theorem exec_mrsSpmovssetEl0 : exec (.mrsSpmovssetEl0 t) s = finishAccess .read
    (spmuListing s (s.has .SPMU) .read .nSPMOVS true (.perform (.spmovsset s.selectedSpmu))) t s := rfl

theorem exec_msrSpmovssetEl0 : exec (.msrSpmovssetEl0 t) s = finishAccess .write
    (spmuListing s (s.has .SPMU) .write .nSPMOVS true (.perform (.spmovsset s.selectedSpmu))) t s := rfl

theorem exec_msrSpmzrEl0 : exec (.msrSpmzrEl0 t) s = finishAccess .write
    (spmuListing s (s.has .SPMU2) .write .nSPMEVCNTRn_EL0 true (.perform (.spmzr s.selectedSpmu))) t s := rfl

theorem exec_mrsSpmselrEl0 : exec (.mrsSpmselrEl0 t) s = finishAccess .read
    (spmPeListing s .read .nSPMSELR_EL0 true fun _ => .perform .spmselr) t s := rfl

theorem exec_msrSpmselrEl0 : exec (.msrSpmselrEl0 t) s = finishAccess .write
    (spmPeListing s .write .nSPMSELR_EL0 true fun _ => .perform .spmselr) t s := rfl

end

end Sys2Proof.Machine

/-! The accesses to the registers of a System PMU that complete, from EL1 or above and, for the names of EL0, from EL0:
what each reads and writes. -/

namespace Sys2Proof.Machine

/-! ## Registers of a System PMU (R1003, R1202) -/

section
variable {s : State} {n k t : Nat} {p : SpmuConfig}

theorem unitValue_of_none (h : s.cfg.spmuConfig n = none) (f : SpmuConfig → SpmUnit → Word) : s.unitValue n f = 0 := by
  simp [State.unitValue, h]

theorem unitValue_of_some (h : s.cfg.spmuConfig n = some p) (f : SpmuConfig → SpmUnit → Word) :
    s.unitValue n f = f p (s.unit n) := by
  simp [State.unitValue, h]

/-- A register whose value does not depend on the parameters. -/
theorem unitValue_of_unit (n : Nat) (g : SpmUnit → Word) :
    (s.unitValue n fun _ u => g u) = if s.cfg.spmuImplemented n then g (s.unit n) else 0 := by
  cases h : s.cfg.spmuConfig n with
  | none => simp [unitValue_of_none h, Config.spmuImplemented, h]
  | some p => simp [unitValue_of_some h, Config.spmuImplemented, h]

theorem counterValue_of_some (h : s.cfg.spmuConfig n = some p) (hk : s.cfg.spmuCounterImplemented n k = true)
    (f : SpmuConfig → SpmUnit → Word) : s.counterValue n k f = f p (s.unit n) := by
  rw [State.counterValue, if_pos hk, unitValue_of_some h]

theorem updateUnit_of_some (h : s.cfg.spmuConfig n = some p) (f : SpmuConfig → SpmUnit → SpmUnit) :
    updateUnit n f s = s.withSpm { s.spm with units := arraySet s.spm.units n (f p (s.unit n)) } := by
  simp [updateUnit, h, State.withSpm]

theorem updateCounter_of_some (h : s.cfg.spmuConfig n = some p) (hk : s.cfg.spmuCounterImplemented n k = true)
    (f : SpmuConfig → SpmUnit → SpmUnit) :
    updateCounter n k f s = s.withSpm { s.spm with units := arraySet s.spm.units n (f p (s.unit n)) } := by
  rw [updateCounter, if_pos hk, updateUnit_of_some h]

theorem exists_spmuConfig (h : s.cfg.spmuImplemented n = true) : ∃ p, s.cfg.spmuConfig n = some p :=
  Option.isSome_iff_exists.mp h

end

/-! ## SPMACCESSR and SPMSELR_EL0 -/

/-- What the name SPMACCESSR_EL1 reaches at each Exception level above EL0 (R1014, R1015). -/
def spmaccessrEl1Access (s : State) : EL → Access
  | .el1 => if s.inp.nvx == 7 then .nvmem else .perform .spmaccessr1
  | .el2 => if s.inp.inHostEL2 then .perform .spmaccessr2 else .perform .spmaccessr1
  | _ => .perform .spmaccessr1

section
variable {t : Nat} {s : State}

theorem exec_mrsSpmaccessrEl1_eq_spmPeListing : exec (.mrsSpmaccessrEl1 t) s = finishAccess .read
    (spmPeListing s .read .nSPMACCESSR_EL1 false (spmaccessrEl1Access s)) t s := rfl

theorem exec_msrSpmaccessrEl1_eq_spmPeListing : exec (.msrSpmaccessrEl1 t) s = finishAccess .write
    (spmPeListing s .write .nSPMACCESSR_EL1 false (spmaccessrEl1Access s)) t s := rfl

theorem exec_mrsSpmaccessrEl2 : exec (.mrsSpmaccessrEl2 t) s = finishRead (listingMrsSpmaccessrEl2 s) t s := rfl

theorem exec_msrSpmaccessrEl2 : exec (.msrSpmaccessrEl2 t) s = finishWrite (listingMsrSpmaccessrEl2 s) t s := rfl

theorem exec_mrsSpmaccessrEl3 : exec (.mrsSpmaccessrEl3 t) s = finishRead (listingMrsSpmaccessrEl3 s) t s := rfl

theorem exec_msrSpmaccessrEl3 : exec (.msrSpmaccessrEl3 t) s = finishWrite (listingMsrSpmaccessrEl3 s) t s := rfl

/-- The listings of the other three names test no control that tells a read from a write. -/
theorem listingMsrSpmaccessrEl12_eq : listingMsrSpmaccessrEl12 s = listingMrsSpmaccessrEl12 s := rfl

theorem listingMsrSpmaccessrEl2_eq : listingMsrSpmaccessrEl2 s = listingMrsSpmaccessrEl2 s := rfl

theorem listingMsrSpmaccessrEl3_eq : listingMsrSpmaccessrEl3 s = listingMrsSpmaccessrEl3 s := rfl

/-- Not redirected to memory, the name reaches SPMACCESSR_EL2 from EL2 with ELIsInHost(EL2) only. -/
theorem spmaccessrEl1Access_eq (hnvx : s.inp.el = .el1 → s.inp.nvx ≠ 7) : spmaccessrEl1Access s s.inp.el =
    .perform (if s.inp.el = .el2 ∧ s.inp.inHostEL2 = true then .spmaccessr2 else .spmaccessr1) := by
  cases hel : s.inp.el with
  | el0 | el3 => simp [spmaccessrEl1Access]
  | el1 => simpa [spmaccessrEl1Access] using hnvx hel
  | el2 => simp [spmaccessrEl1Access, apply_ite Access.perform]

variable (hspmu : s.has .SPMU = true) (haa64 : s.has .AA64 = true)
include hspmu haa64

theorem listingMrsSpmaccessrEl12_of_host (hhost : s.inp.inHostEL2 = true)
    (h : s.inp.el = .el3 ∨ (s.inp.el = .el2 ∧ (s.haveEL3 && !s.mdcr3EnPM2) = false)) :
    listingMrsSpmaccessrEl12 s = .perform .spmaccessr1 := by
  obtain hel | ⟨hel, hmonitor⟩ := h
  · simp [listingMrsSpmaccessrEl12, hspmu, haa64, hel, hhost]
  · simp [listingMrsSpmaccessrEl12, hspmu, haa64, hel, hhost, hmonitor, undefPriority_and_eq_false hmonitor]

theorem listingMrsSpmaccessrEl2_of_el2_or_el3
    (h : s.inp.el = .el3 ∨ (s.inp.el = .el2 ∧ (s.haveEL3 && !s.mdcr3EnPM2) = false)) :
    listingMrsSpmaccessrEl2 s = .perform .spmaccessr2 := by
  obtain hel | ⟨hel, hmonitor⟩ := h
  · simp [listingMrsSpmaccessrEl2, hspmu, haa64, hel]
  · simp [listingMrsSpmaccessrEl2, hspmu, haa64, hel, hmonitor, undefPriority_and_eq_false hmonitor]

theorem listingMrsSpmaccessrEl3_of_el3 (hel : s.inp.el = .el3) :
    listingMrsSpmaccessrEl3 s = .perform .spmaccessr3 := by
  simp [listingMrsSpmaccessrEl3, hspmu, haa64, hel]

end

section
variable (t : Nat) (s : State)

theorem finishRead_spmaccessr1 : finishRead (.perform .spmaccessr1) t s = .next (s.readDone t
    (mergeBits (s.spm.spmaccessr1 &&& s.cfg.spmaccessMask) (s.unknown 0)
      (spmaccessUnknown s.cfg.spmaccessMask s.spm.spmaccessr1))) := rfl

theorem finishRead_spmaccessr2 : finishRead (.perform .spmaccessr2) t s = .next (s.readDone t
    (mergeBits (s.spm.spmaccessr2 &&& s.cfg.spmaccess2Mask) (s.unknown 0)
      (spmaccessUnknown s.cfg.spmaccess2Mask s.spm.spmaccessr2))) := rfl

theorem finishRead_spmaccessr3 : finishRead (.perform .spmaccessr3) t s = .next (s.readDone t
    (mergeBits (s.spm.spmaccessr3 &&& s.cfg.spmaccessMask) (s.unknown 0)
      (spmaccessUnknown s.cfg.spmaccessMask s.spm.spmaccessr3))) := rfl

theorem finishRead_spmselr : finishRead (.perform .spmselr) t s = .next (s.readDone t
    (mergeBits (s.spm.spmselr &&& 0x3F3) (s.unknown 0) (if bit s.spm.spmselr 9 then 0x3F0 else 0))) := rfl

theorem finishWrite_spmaccessr1 : finishWrite (.perform .spmaccessr1) t s =
    .next (s.spmDone { s.spm with spmaccessr1 := s.readX t &&& s.cfg.spmaccessMask }) := rfl

theorem finishWrite_spmaccessr2 : finishWrite (.perform .spmaccessr2) t s =
    .next (s.spmDone { s.spm with spmaccessr2 := s.readX t &&& s.cfg.spmaccess2Mask }) := rfl

theorem finishWrite_spmaccessr3 : finishWrite (.perform .spmaccessr3) t s =
    .next (s.spmDone { s.spm with spmaccessr3 := s.readX t &&& s.cfg.spmaccessMask }) := rfl

theorem finishWrite_spmselr : finishWrite (.perform .spmselr) t s =
    .next (s.spmDone { s.spm with spmselr := s.readX t &&& 0x3F3 }) := rfl

end

/-- Settles O33: each listing decides for the register that its name reaches at the Exception level. -/
theorem spmAccessAndSelectComplete : Obligations.SpmAccessAndSelectComplete := by
  intro s t v1 v2 v3
  refine ⟨fun hopen hnvx => ?mrsEl1, fun hopen hnvx => ?msrEl1,
    fun hspmu haa64 hlevel => ⟨fun hhost => ⟨?mrsEl12, ?msrEl12⟩, ?mrsEl2, ?msrEl2⟩,
    fun hspmu haa64 hel => ⟨?mrsEl3, ?msrEl3⟩, fun hopen => ?mrsSpmselr, fun hopen => ?msrSpmselr⟩
  case mrsEl1 =>
    rw [exec_mrsSpmaccessrEl1_eq_spmPeListing, spmPeListing_of_spmPePrivOpen (dir := .read) hopen,
      spmaccessrEl1Access_eq hnvx]
    split
    · exact finishRead_spmaccessr2 t s
    · exact finishRead_spmaccessr1 t s
  case msrEl1 =>
    rw [exec_msrSpmaccessrEl1_eq_spmPeListing, spmPeListing_of_spmPePrivOpen (dir := .write) hopen,
      spmaccessrEl1Access_eq hnvx]
    split
    · exact finishWrite_spmaccessr2 t s
    · exact finishWrite_spmaccessr1 t s
  case mrsEl12 =>
    rw [exec_mrsSpmaccessrEl12, listingMrsSpmaccessrEl12_of_host hspmu haa64 hhost hlevel, finishRead_spmaccessr1]
  case msrEl12 =>
    rw [exec_msrSpmaccessrEl12, listingMsrSpmaccessrEl12_eq, listingMrsSpmaccessrEl12_of_host hspmu haa64 hhost hlevel,
      finishWrite_spmaccessr1]
  case mrsEl2 =>
    rw [exec_mrsSpmaccessrEl2, listingMrsSpmaccessrEl2_of_el2_or_el3 hspmu haa64 hlevel, finishRead_spmaccessr2]
  case msrEl2 =>
    rw [exec_msrSpmaccessrEl2, listingMsrSpmaccessrEl2_eq, listingMrsSpmaccessrEl2_of_el2_or_el3 hspmu haa64 hlevel,
      finishWrite_spmaccessr2]
  case mrsEl3 =>
    rw [exec_mrsSpmaccessrEl3, listingMrsSpmaccessrEl3_of_el3 hspmu haa64 hel, finishRead_spmaccessr3]
  case msrEl3 =>
    rw [exec_msrSpmaccessrEl3, listingMsrSpmaccessrEl3_eq, listingMrsSpmaccessrEl3_of_el3 hspmu haa64 hel,
      finishWrite_spmaccessr3]
  case mrsSpmselr =>
    rw [exec_mrsSpmselrEl0, spmPeListing_of_spmPeOpen (dir := .read) hopen]
    exact finishRead_spmselr t s
  case msrSpmselr =>
    rw [exec_msrSpmselrEl0, spmPeListing_of_spmPeOpen (dir := .write) hopen]
    exact finishWrite_spmselr t s

/-! ## The bitmaps -/

section
variable (n t : Nat) (s : State)

theorem finishRead_spmcnten {r : Reg} (h : r = .spmcntenclr n ∨ r = .spmcntenset n) :
    finishRead (.perform r) t s = .next (s.readDone t
      (if s.cfg.spmuImplemented n then (s.unit n).spmcnten &&& s.cfg.spmuImplMask n else 0)) := by
  rw [← unitValue_of_unit n fun u => u.spmcnten &&& s.cfg.spmuImplMask n]
  obtain rfl | rfl := h <;> exact finishRead_perform_known rfl

theorem finishRead_spminten {r : Reg} (h : r = .spmintenclr n ∨ r = .spmintenset n) :
    finishRead (.perform r) t s = .next (s.readDone t
      (if s.cfg.spmuImplemented n then (s.unit n).spminten &&& s.cfg.spmuIntMask n else 0)) := by
  rw [← unitValue_of_unit n fun u => u.spminten &&& s.cfg.spmuIntMask n]
  obtain rfl | rfl := h <;> exact finishRead_perform_known rfl

theorem finishRead_spmovs {r : Reg} (h : r = .spmovsclr n ∨ r = .spmovsset n) :
    finishRead (.perform r) t s = .next (s.readDone t
      (if s.cfg.spmuImplemented n then (s.unit n).spmovs &&& s.cfg.spmuOvfMask n else 0)) := by
  rw [← unitValue_of_unit n fun u => u.spmovs &&& s.cfg.spmuOvfMask n]
  obtain rfl | rfl := h <;> exact finishRead_perform_known rfl

end

/-- Settles O35: each listing decides for the bitmap of the selected System PMU. -/
theorem spmBitmapReadsComplete : Obligations.SpmBitmapReadsComplete := by
  rintro s t n v rfl rfl
  refine ⟨fun hopen => ⟨?cntenclr, ?cntenset⟩, fun hopen => ⟨?intenclr, ?intenset⟩, fun hopen => ⟨?ovsclr, ?ovsset⟩⟩
  case cntenclr =>
    rw [exec_mrsSpmcntenclrEl0, spmuListing_of_spmuOpen (dir := .read) hopen]
    exact finishRead_spmcnten _ t s (.inl rfl)
  case cntenset =>
    rw [exec_mrsSpmcntensetEl0, spmuListing_of_spmuOpen (dir := .read) hopen]
    exact finishRead_spmcnten _ t s (.inr rfl)
  case intenclr =>
    rw [exec_mrsSpmintenclrEl1, spmuListing_of_spmuPrivOpen (dir := .read) hopen]
    exact finishRead_spminten _ t s (.inl rfl)
  case intenset =>
    rw [exec_mrsSpmintensetEl1, spmuListing_of_spmuPrivOpen (dir := .read) hopen]
    exact finishRead_spminten _ t s (.inr rfl)
  case ovsclr =>
    rw [exec_mrsSpmovsclrEl0, spmuListing_of_spmuOpen (dir := .read) hopen]
    exact finishRead_spmovs _ t s (.inl rfl)
  case ovsset =>
    rw [exec_mrsSpmovssetEl0, spmuListing_of_spmuOpen (dir := .read) hopen]
    exact finishRead_spmovs _ t s (.inr rfl)

theorem finishAccess_write_perform (r : Reg) (t : Nat) (s : State) :
    finishAccess .write (.perform r) t s = .next (writeReg r (s.readX t) s).advance := rfl

/-- Settles O36: each listing decides for the bitmap, and the write of it changes the selected System PMU. -/
theorem spmBitmapWritesClearAndSet : Obligations.SpmBitmapWritesClearAndSet := by
  rintro s t n put rfl himpl rfl
  obtain ⟨p, hp⟩ := exists_spmuConfig himpl
  refine ⟨fun hopen => ⟨?cntenclr, ?cntenset⟩, fun hopen => ⟨?intenclr, ?intenset⟩, fun hopen => ⟨?ovsclr, ?ovsset⟩⟩
  case cntenclr =>
    rw [exec_msrSpmcntenclrEl0, spmuListing_of_spmuOpen (dir := .write) hopen, finishAccess_write_perform, writeReg,
      updateUnit_of_some hp]
  case cntenset =>
    rw [exec_msrSpmcntensetEl0, spmuListing_of_spmuOpen (dir := .write) hopen, finishAccess_write_perform, writeReg,
      updateUnit_of_some hp]
  case intenclr =>
    rw [exec_msrSpmintenclrEl1, spmuListing_of_spmuPrivOpen (dir := .write) hopen, finishAccess_write_perform, writeReg,
      updateUnit_of_some hp]
  case intenset =>
    rw [exec_msrSpmintensetEl1, spmuListing_of_spmuPrivOpen (dir := .write) hopen, finishAccess_write_perform, writeReg,
      updateUnit_of_some hp]
  case ovsclr =>
    rw [exec_msrSpmovsclrEl0, spmuListing_of_spmuOpen (dir := .write) hopen, finishAccess_write_perform, writeReg,
      updateUnit_of_some hp]
  case ovsset =>
    rw [exec_msrSpmovssetEl0, spmuListing_of_spmuOpen (dir := .write) hopen, finishAccess_write_perform, writeReg,
      updateUnit_of_some hp]

/-! ## SPMCR_EL0 and SPMZR_EL0 -/

section
variable {p : SpmuConfig} {na : Bool} {u : SpmUnit} {el : EL} {v m : Word} {i k : Nat}

/-- Besides NA, the bits of SPMCR_EL0 are stored ones. -/
theorem bit_spmcrValue_of_ne (h : i ≠ 8) : bit (spmcrValue p na u) i = bit (u.spmcr &&& p.crMask .el3) i := by
  simp [spmcrValue, bit_bitIf, h]

theorem bit_crMask_8 : bit (p.crMask el) 8 = false := by simp [SpmuConfig.crMask, bit_bitIf]

theorem bit_spmcrValue_8 : bit (spmcrValue p na u) 8 = (bit p.cfgr 17 && na) := by
  simp [spmcrValue, bit_crMask_8, bit_bitIf]

theorem zeroSpmCounters_spmevcntr (hk : k < 64) : arrayGet (zeroSpmCounters m u).spmevcntr k 0 =
    if bit m k then 0 else arrayGet u.spmevcntr k 0 := arrayGet_ofFn _ k 0 hk

theorem bit_spmuImplMask (c : Config) (n : Nat) (hk : k < 64) :
    bit (c.spmuImplMask n) k = c.spmuCounterImplemented n k := by
  simp [Config.spmuImplMask, bit_maskOf, hk]

theorem writeSpmcr_spmcr : (writeSpmcr el m v p u).spmcr = mergeBits u.spmcr v (p.crMask el) := by
  unfold writeSpmcr
  split <;> rfl

theorem writeSpmcr_spmevcntr (hk : k < 64) : arrayGet (writeSpmcr el m v p u).spmevcntr k 0 =
    if bit v 1 = true ∧ bit m k = true then 0 else arrayGet u.spmevcntr k 0 := by
  by_cases h : bit v 1 = true
  · rw [writeSpmcr, if_pos h, zeroSpmCounters_spmevcntr hk]
    simp only [h, true_and]
  · rw [writeSpmcr, if_neg h, if_neg (h ·.1)]

/-- A write of SPMCR_EL0 reaches the control bits and the counters only. -/
theorem writeSpmcr_frame : writeSpmcr el m v p u =
    { u with spmcr := (writeSpmcr el m v p u).spmcr, spmevcntr := (writeSpmcr el m v p u).spmevcntr } := by
  unfold writeSpmcr
  split <;> rfl

end

/-- Settles O37: each listing decides for its register; P of SPMCR_EL0 zeroes the counters of the mask of the
implemented ones, and SPMZR_EL0 those of Xt under it. -/
theorem spmControlAccessesComplete : Obligations.SpmControlAccessesComplete := by
  rintro s t n p rfl hp
  refine ⟨fun hopen => ?mrsSpmcr, fun hopen => ?msrSpmcr, fun hspmu2 hfree => ?msrSpmzr⟩
  case mrsSpmcr =>
    refine ⟨spmcrValue p (s.inp.spmuNa.getLsbD s.selectedSpmu) (s.unit s.selectedSpmu), ?read,
      fun i _ hi => bit_spmcrValue_of_ne hi, bit_spmcrValue_8⟩
    rw [exec_mrsSpmcrEl0, spmuListing_of_spmuOpen (dir := .read) hopen]
    exact (finishRead_perform_known rfl).trans (by rw [State.regKnown, unitValue_of_some hp])
  case msrSpmcr =>
    refine ⟨writeSpmcr s.inp.el (s.cfg.spmuImplMask s.selectedSpmu) (s.readX t) p (s.unit s.selectedSpmu), ?write,
      writeSpmcr_spmcr, fun k hk => ?counters, writeSpmcr_frame⟩
    case write =>
      rw [exec_msrSpmcrEl0, spmuListing_of_spmuOpen (dir := .write) hopen, finishAccess_write_perform, writeReg,
      updateUnit_of_some hp]
    case counters => rw [writeSpmcr_spmevcntr hk, bit_spmuImplMask _ _ hk]
  case msrSpmzr =>
    refine ⟨zeroSpmCounters (s.readX t &&& s.cfg.spmuImplMask s.selectedSpmu) (s.unit s.selectedSpmu), ?zero,
      fun k hk => ?zeroed, rfl⟩
    case zero =>
      rw [exec_msrSpmzrEl0, spmuListing_of_writeFree hspmu2 hfree, finishAccess_write_perform, writeReg,
        updateUnit_of_some hp]
    case zeroed =>
      rw [zeroSpmCounters_spmevcntr hk, bit_and, bit_spmuImplMask _ _ hk]
      simp only [Bool.and_eq_true]

end Sys2Proof.Machine

/-! The event registers of a System PMU: the 128 instructions as four arrays in two directions. -/

namespace Sys2Proof.Machine

/-- The four registers of a System PMU event counter. -/
inductive SpmEventReg where
  | cntr | typer | filtr | filt2r

/-- The instructions of the array. -/
noncomputable def SpmEventReg.rows (r : SpmEventReg) (dir : Direction) : List (Nat → Instr) :=
  match r, dir with
  | .cntr, .read => mrsSpmevcntrRows
  | .cntr, .write => msrSpmevcntrRows
  | .typer, .read => mrsSpmevtyperRows
  | .typer, .write => msrSpmevtyperRows
  | .filtr, .read => mrsSpmevfiltrRows
  | .filtr, .write => msrSpmevfiltrRows
  | .filt2r, .read => mrsSpmevfilt2rRows
  | .filt2r, .write => msrSpmevfilt2rRows

/-- The register of counter `k` of System PMU `n`. -/
def SpmEventReg.reg (r : SpmEventReg) (n k : Nat) : Reg :=
  match r with
  | .cntr => .spmevcntr n k
  | .typer => .spmevtyper n k
  | .filtr => .spmevfiltr n k
  | .filt2r => .spmevfilt2r n k

/-- The bit of HDFGRTR2_EL2 and HDFGWTR2_EL2. -/
def SpmEventReg.fgt2Bit (r : SpmEventReg) : Fgt2Bit :=
  match r with
  | .cntr => .nSPMEVCNTRn_EL0
  | _ => .nSPMEVTYPERn_EL0

/-- What the access with index `m` is that no control takes away: to the register of counter BANK * 16 + `m` (R1000),
if that counter is implemented (R1202). -/
def SpmEventReg.access (r : SpmEventReg) (m : Nat) (s : State) : Access :=
  if !s.cfg.spmuCounterImplemented s.selectedSpmu (s.bankIndex m) then .razWi
  else .perform (r.reg s.selectedSpmu (s.bankIndex m))

section
variable {m n k t : Nat} {s : State} {p : SpmuConfig} {f : Nat → Instr}

theorem map_exec_spmEventRows (r : SpmEventReg) (dir : Direction) (t : Nat) (s : State) :
    (r.rows dir).map (fun f => exec (f t) s) = (List.range 16).map fun m =>
      finishAccess dir (spmuListing s (s.has .SPMU) dir r.fgt2Bit true (r.access m s)) t s := by
  cases r <;> cases dir <;> rfl

theorem exec_of_spmEventRows (r : SpmEventReg) (dir : Direction) (hf : (r.rows dir)[m]? = some f) :
    exec (f t) s = finishAccess dir (spmuListing s (s.has .SPMU) dir r.fgt2Bit true (r.access m s)) t s := by
  have hm := congrArg (·[m]?) (map_exec_spmEventRows r dir t s)
  simp only [List.getElem?_map, hf, Option.map_some] at hm
  obtain ⟨i, hi, hexec⟩ := Option.map_eq_some_iff.mp hm.symm
  obtain ⟨_, him⟩ := List.getElem?_eq_some_iff.mp hi
  rw [← hexec, ← him, List.getElem_range]

theorem exec_of_spmuOpen (r : SpmEventReg) (dir : Direction) (hf : (r.rows dir)[m]? = some f)
    (hk : s.cfg.spmuCounterImplemented s.selectedSpmu (s.bankIndex m) = true) (hopen : dir.spmuOpen s r.fgt2Bit) :
    exec (f t) s = finishAccess dir (.perform (r.reg s.selectedSpmu (s.bankIndex m))) t s := by
  have haccess : r.access m s = .perform (r.reg s.selectedSpmu (s.bankIndex m)) := by simp [SpmEventReg.access, hk]
  rw [exec_of_spmEventRows r dir hf, spmuListing_of_spmuOpen hopen, haccess]

end

/-- Settles O39: each row is the access with its index, whose listing decides for the register of the counter. -/
theorem spmEventReadsComplete : Obligations.SpmEventReadsComplete := by
  intro m s t f p n k hn hbank hk hp
  obtain rfl : n = s.selectedSpmu := hn
  obtain rfl : k = s.bankIndex m := hbank
  refine ⟨fun hf hopen => ?cntr, fun hf hopen => ?typer, fun hf hopen => ?filtr, fun hf hopen => ?filt2r⟩
  case cntr =>
    rw [exec_of_spmuOpen .cntr .read hf hk hopen, finishAccess, SpmEventReg.reg,
      finishRead_perform_known (r := .spmevcntr _ _) rfl, State.regKnown, counterValue_of_some hp hk]
  case typer =>
    rw [exec_of_spmuOpen .typer .read hf hk hopen, finishAccess, SpmEventReg.reg,
      finishRead_perform_known (r := .spmevtyper _ _) rfl, State.regKnown, counterValue_of_some hp hk]
  case filtr =>
    rw [exec_of_spmuOpen .filtr .read hf hk hopen, finishAccess, SpmEventReg.reg,
      finishRead_perform_known (r := .spmevfiltr _ _) rfl, State.regKnown, counterValue_of_some hp hk]
  case filt2r =>
    rw [exec_of_spmuOpen .filt2r .read hf hk hopen, finishAccess, SpmEventReg.reg,
      finishRead_perform_known (r := .spmevfilt2r _ _) rfl, State.regKnown, counterValue_of_some hp hk]

/-- Settles O40: each row is the access with its index, whose write replaces the register of the counter. -/
theorem spmEventWritesComplete : Obligations.SpmEventWritesComplete := by
  rintro m s t f p n k put hn hbank hk hp rfl
  obtain rfl : n = s.selectedSpmu := hn
  obtain rfl : k = s.bankIndex m := hbank
  refine ⟨fun hf hopen => ?cntr, fun hf hopen => ?typer, fun hf hopen => ?filtr, fun hf hopen => ?filt2r⟩
  case cntr =>
    rw [exec_of_spmuOpen .cntr .write hf hk hopen, finishAccess_write_perform, SpmEventReg.reg, writeReg,
      updateCounter_of_some hp hk]
  case typer =>
    rw [exec_of_spmuOpen .typer .write hf hk hopen, finishAccess_write_perform, SpmEventReg.reg, writeReg,
      updateCounter_of_some hp hk]
  case filtr =>
    rw [exec_of_spmuOpen .filtr .write hf hk hopen, finishAccess_write_perform, SpmEventReg.reg, writeReg,
      updateCounter_of_some hp hk]
  case filt2r =>
    rw [exec_of_spmuOpen .filt2r .write hf hk hopen, finishAccess_write_perform, SpmEventReg.reg, writeReg,
      updateCounter_of_some hp hk]

end Sys2Proof.Machine

/-! The accesses to the registers of a System PMU that EL2 takes from EL1, and EL1 or EL2 from EL0: MDSCR_EL1.EnSPM and
the access fields (R1001, R1002, R1542). -/

namespace Sys2Proof.Machine

/-! ## The listings at a control that takes the access -/

section
variable {s : State} {present user : Bool} {dir : Direction} {b : Fgt2Bit} {a : Access}

theorem spmDenies_read {r : Word} (h : s.spmAccess r = 0) : Direction.read.spmDenies s r = true := by
  simp [Direction.spmDenies, State.spmNoRead, h]

theorem spmDenies_write {r : Word} (h : s.spmAccess r ≠ 3) : Direction.write.spmDenies s r = true := by
  simpa [Direction.spmDenies, State.spmNoWrite] using h

/-- At EL1 under EL2 the field of SPMACCESSR_EL2 is the first control: none is in force that is tested before it. -/
def State.guestFieldFirst (s : State) : Prop :=
  s.inp.el = .el1 ∧ s.has .AA64 = true ∧ s.undefPriority = false ∧ s.el2Enabled = true ∧ s.mdcr2EnSPM = true ∧
    (∀ b, s.fgt2Read b = false) ∧ ∀ b, s.fgt2Write b = false

theorem fgt2_of_guestFieldFirst (h : s.guestFieldFirst) : dir.fgt2 s b = false := by
  obtain ⟨_, _, _, _, _, hread, hwrite⟩ := h
  cases dir with
  | read => exact hread b
  | write => exact hwrite b

theorem spmuListing_of_guestDenied (h : s.guestFieldFirst) (hpresent : present = true)
    (hdenied : dir.spmDenies s s.spm.spmaccessr2 = true) : spmuListing s present dir b user a = .trap .el2 := by
  have hfgt : dir.fgt2 s b = false := fgt2_of_guestFieldFirst h
  obtain ⟨hel, haa64, hundef, hel2, hen, _⟩ := h
  simp [spmuListing, hpresent, haa64, hel, hundef, hfgt, hel2, hen, hdenied]

variable (haa64 : s.has .AA64 = true) (hundef : s.undefPriority = false) (hel : s.inp.el = .el0)
include haa64 hundef hel

theorem spmuListing_of_userDenied (hpresent : present = true) (hdenied : s.spmuUserDenied (dir.spmDenies s) = true) :
    spmuListing s present dir b true a = s.trapUser := by
  obtain hen | hfield := Bool.or_eq_true_iff.mp hdenied
  · simp [spmuListing, spmuUserListing, hpresent, haa64, hel, hundef, hen]
  · simp [spmuListing, spmuUserListing, hpresent, haa64, hel, hundef, hfield]

theorem spmPeListing_of_userDisabled {acc : EL → Access} (hspmu : s.has .SPMU = true)
    (hen : s.inp.mdscrEnSPM = false) : spmPeListing s dir b true acc = s.trapUser := by
  simp [spmPeListing, hspmu, haa64, hel, hundef, hen]

end

/-! ## SPMSCR_EL1 -/

section
variable {s : State}

/-- The tests that the two listings of SPMSCR_EL1 make before the Exception level is examined (R1440, R1441). -/
theorem spmscr_tests_of_secureAccess (h : s.secureAccess = true) : s.cfg.haveSecureEL1 = true ∧
    (s.inp.ss == .nonSecure) = false ∧ (s.has .RME && s.inp.ss == .realm) = false := by
  simp only [State.secureAccess, Bool.and_eq_true, bne_iff_ne, Bool.not_eq_true'] at h
  obtain ⟨⟨hsecure, hss⟩, hrealm⟩ := h
  exact ⟨hsecure, beq_false_of_ne hss, hrealm⟩

/-- Where SPMSCR_EL1 is not UNDEFINED, its listings have the condition tree of the others. -/
theorem listingMrsSpmscrEl1_of_secureAccess (h : s.secureAccess = true) : listingMrsSpmscrEl1 s =
    spmuListing s (s.has .SPMU) .read .nSPMSCR_EL1 false (.perform (.spmscr s.selectedSpmu)) := by
  obtain ⟨hsecure, hss, hrealm⟩ := spmscr_tests_of_secureAccess h
  simp only [listingMrsSpmscrEl1, hsecure, hss, hrealm, Bool.true_and, Bool.or_self, Bool.false_eq_true, if_false]
  rfl

theorem listingMsrSpmscrEl1_of_secureAccess (h : s.secureAccess = true) : listingMsrSpmscrEl1 s =
    spmuListing s (s.has .SPMU) .write .nSPMSCR_EL1 false (.perform (.spmscr s.selectedSpmu)) := by
  obtain ⟨hsecure, hss, hrealm⟩ := spmscr_tests_of_secureAccess h
  simp only [listingMsrSpmscrEl1, hsecure, hss, hrealm, Bool.true_and, Bool.or_self, Bool.false_eq_true, if_false]
  rfl

theorem exec_mrsSpmscrEl1_of_secureAccess (t : Nat) (h : s.secureAccess = true) : exec (.mrsSpmscrEl1 t) s =
    finishAccess .read
      (spmuListing s (s.has .SPMU) .read .nSPMSCR_EL1 false (.perform (.spmscr s.selectedSpmu))) t s :=
  congrArg (finishRead · t s) (listingMrsSpmscrEl1_of_secureAccess h)

theorem exec_msrSpmscrEl1_of_secureAccess (t : Nat) (h : s.secureAccess = true) : exec (.msrSpmscrEl1 t) s =
    finishAccess .write
      (spmuListing s (s.has .SPMU) .write .nSPMSCR_EL1 false (.perform (.spmscr s.selectedSpmu))) t s :=
  congrArg (finishWrite · t s) (listingMsrSpmscrEl1_of_secureAccess h)

end

/-! ## The instructions, by their listing -/

/-- In state `s`, `i` is an access to a register of a System PMU: it ends as the shared condition tree decides, for some
fine-grained control and some access that no control takes away. -/
def IsSpmuAccess (i : Instr) (t : Nat) (s : State) (present : Bool) (dir : Direction) (user : Bool) : Prop :=
  ∃ b a, exec i s = finishAccess dir (spmuListing s present dir b user a) t s

section
variable {i : Instr} {t : Nat} {s : State} {present user : Bool} {dir : Direction}

theorem isSpmuAccess_of_mem_eventRows {f : Nat → Instr} (hf : f ∈ SpmEventReg.cntr.rows dir ++
    SpmEventReg.typer.rows dir ++ SpmEventReg.filtr.rows dir ++ SpmEventReg.filt2r.rows dir) :
    IsSpmuAccess (f t) t s (s.has .SPMU) dir true := by
  have hrow (r : SpmEventReg) (hr : f ∈ r.rows dir) : IsSpmuAccess (f t) t s (s.has .SPMU) dir true := by
    obtain ⟨m, hm⟩ := List.mem_iff_getElem?.mp hr
    exact ⟨_, _, exec_of_spmEventRows r dir hm⟩
  simp only [List.mem_append] at hf
  obtain ((hf | hf) | hf) | hf := hf
  · exact hrow .cntr hf
  · exact hrow .typer hf
  · exact hrow .filtr hf
  · exact hrow .filt2r hf

theorem isSpmuAccess_of_mem_spmuUserReads (h : i ∈ spmuUserReads t) : IsSpmuAccess i t s (s.has .SPMU) .read true := by
  obtain h | h := List.mem_append.mp h
  · simp only [List.mem_cons, List.not_mem_nil, or_false] at h
    obtain rfl | rfl | rfl | rfl | rfl := h
    · exact ⟨_, _, exec_mrsSpmcntenclrEl0 t s⟩
    · exact ⟨_, _, exec_mrsSpmcntensetEl0 t s⟩
    · exact ⟨_, _, exec_mrsSpmcrEl0 t s⟩
    · exact ⟨_, _, exec_mrsSpmovsclrEl0 t s⟩
    · exact ⟨_, _, exec_mrsSpmovssetEl0 t s⟩
  · obtain ⟨f, hf, rfl⟩ := List.mem_map.mp h
    exact isSpmuAccess_of_mem_eventRows (dir := .read) hf

theorem isSpmuAccess_of_mem_spmuUserWrites (h : i ∈ spmuUserWrites t) :
    IsSpmuAccess i t s (s.has .SPMU) .write true := by
  obtain h | h := List.mem_append.mp h
  · simp only [List.mem_cons, List.not_mem_nil, or_false] at h
    obtain rfl | rfl | rfl | rfl | rfl := h
    · exact ⟨_, _, exec_msrSpmcntenclrEl0 t s⟩
    · exact ⟨_, _, exec_msrSpmcntensetEl0 t s⟩
    · exact ⟨_, _, exec_msrSpmcrEl0 t s⟩
    · exact ⟨_, _, exec_msrSpmovsclrEl0 t s⟩
    · exact ⟨_, _, exec_msrSpmovssetEl0 t s⟩
  · obtain ⟨f, hf, rfl⟩ := List.mem_map.mp h
    exact isSpmuAccess_of_mem_eventRows (dir := .write) hf

theorem isSpmuAccess_msrSpmzrEl0 : IsSpmuAccess (.msrSpmzrEl0 t) t s (s.has .SPMU2) .write true :=
  ⟨_, _, exec_msrSpmzrEl0 t s⟩

/-- The reads that EL2 can take from EL1. -/
theorem isSpmuAccess_of_guestRead
    (h : i ∈ spmuUserReads t ∨ i ∈ [.mrsSpmcfgrEl1 t, .mrsSpmcgcr0El1 t, .mrsSpmcgcr1El1 t, .mrsSpmdevaffEl1 t,
      .mrsSpmdevarchEl1 t, .mrsSpmiidrEl1 t, .mrsSpmintenclrEl1 t, .mrsSpmintensetEl1 t] ∨
      (s.secureAccess = true ∧ i = .mrsSpmscrEl1 t)) :
    ∃ user, IsSpmuAccess i t s (s.has .SPMU) .read user := by
  obtain h | h | ⟨hsecure, rfl⟩ := h
  · exact ⟨_, isSpmuAccess_of_mem_spmuUserReads h⟩
  · simp only [List.mem_cons, List.not_mem_nil, or_false] at h
    obtain rfl | rfl | rfl | rfl | rfl | rfl | rfl | rfl := h
    · exact ⟨_, _, _, exec_mrsSpmcfgrEl1 t s⟩
    · exact ⟨_, _, _, exec_mrsSpmcgcr0El1 t s⟩
    · exact ⟨_, _, _, exec_mrsSpmcgcr1El1 t s⟩
    · exact ⟨_, _, _, exec_mrsSpmdevaffEl1 t s⟩
    · exact ⟨_, _, _, exec_mrsSpmdevarchEl1 t s⟩
    · exact ⟨_, _, _, exec_mrsSpmiidrEl1 t s⟩
    · exact ⟨_, _, _, exec_mrsSpmintenclrEl1 t s⟩
    · exact ⟨_, _, _, exec_mrsSpmintensetEl1 t s⟩
  · exact ⟨_, _, _, exec_mrsSpmscrEl1_of_secureAccess t hsecure⟩

/-- The writes of FEAT_SPMU that EL2 can take from EL1. -/
theorem isSpmuAccess_of_guestWrite
    (h : i ∈ spmuUserWrites t ∨ i ∈ [.msrSpmintenclrEl1 t, .msrSpmintensetEl1 t] ∨
      (s.secureAccess = true ∧ i = .msrSpmscrEl1 t)) :
    ∃ user, IsSpmuAccess i t s (s.has .SPMU) .write user := by
  obtain h | h | ⟨hsecure, rfl⟩ := h
  · exact ⟨_, isSpmuAccess_of_mem_spmuUserWrites h⟩
  · simp only [List.mem_cons, List.not_mem_nil, or_false] at h
    obtain rfl | rfl := h
    · exact ⟨_, _, _, exec_msrSpmintenclrEl1 t s⟩
    · exact ⟨_, _, _, exec_msrSpmintensetEl1 t s⟩
  · exact ⟨_, _, _, exec_msrSpmscrEl1_of_secureAccess t hsecure⟩

theorem IsSpmuAccess.exec_of_guestDenied (hi : IsSpmuAccess i t s present dir user) (h : s.guestFieldFirst)
    (hpresent : present = true) (hdenied : dir.spmDenies s s.spm.spmaccessr2 = true) :
    exec i s = .next (takeException (.systemAccessTrap .el2 0x18) s) := by
  obtain ⟨b, a, hexec⟩ := hi
  rw [hexec, spmuListing_of_guestDenied h hpresent hdenied, finishAccess_trap]

theorem IsSpmuAccess.exec_of_userDenied (hi : IsSpmuAccess i t s present dir true) (haa64 : s.has .AA64 = true)
    (hundef : s.undefPriority = false) (hel : s.inp.el = .el0) (hpresent : present = true)
    (hdenied : s.spmuUserDenied (dir.spmDenies s) = true) : exec i s = .next (takeException
      (.systemAccessTrap (if s.el2Enabled && s.inp.tge then .el2 else .el1) 0x18) s) := by
  obtain ⟨b, a, hexec⟩ := hi
  exact exec_of_trapUser dir hexec (spmuListing_of_userDenied haa64 hundef hel hpresent hdenied)

theorem spmuUserDenied_of_disabled (denies : Word → Bool) (hen : s.inp.mdscrEnSPM = false) :
    s.spmuUserDenied denies = true := by simp [State.spmuUserDenied, hen]

theorem spmuUserDenied_of_field {denies : Word → Bool} (hhost : s.inp.inHostEL0 = false)
    (hfield : denies s.spm.spmaccessr1 = true) : s.spmuUserDenied denies = true := by
  simp [State.spmuUserDenied, hhost, hfield]

end

/-- Settles O47: every instruction of the lists is an access by the shared condition tree, or one to SPMSELR_EL0, and
the control named is the first that the tree tests. -/
theorem spmAccessFieldGatesTheGuest : Obligations.SpmAccessFieldGatesTheGuest := by
  intro s t i haa64 hundef
  refine ⟨fun hel hel2 hen hread hwrite => ⟨fun hfield hspmu hi => ?guestRead, fun hfield hi => ?guestWrite⟩,
    fun hel h => ?user⟩
  case guestRead =>
    obtain ⟨user, hi⟩ := isSpmuAccess_of_guestRead hi
    exact hi.exec_of_guestDenied ⟨hel, haa64, hundef, hel2, hen, hread, hwrite⟩ hspmu (spmDenies_read hfield)
  case guestWrite =>
    have hfirst : s.guestFieldFirst := ⟨hel, haa64, hundef, hel2, hen, hread, hwrite⟩
    obtain ⟨hspmu2, rfl⟩ | ⟨hspmu, hi⟩ := hi
    · exact isSpmuAccess_msrSpmzrEl0.exec_of_guestDenied hfirst hspmu2 (spmDenies_write hfield)
    · obtain ⟨user, hi⟩ := isSpmuAccess_of_guestWrite hi
      exact hi.exec_of_guestDenied hfirst hspmu (spmDenies_write hfield)
  case user =>
    obtain ⟨hen, hspmu, hi⟩ | ⟨hen, hspmu2, rfl⟩ | ⟨hhost, hfield, hspmu, hi⟩ | ⟨hhost, hfield, hi⟩ := h
    · simp only [List.mem_append, List.mem_cons, List.not_mem_nil, or_false] at hi
      have hdenied (dir : Direction) := spmuUserDenied_of_disabled (dir.spmDenies s) hen
      obtain ((rfl | rfl) | hi) | hi := hi
      · exact exec_of_trapUser .read (exec_mrsSpmselrEl0 t s) (spmPeListing_of_userDisabled haa64 hundef hel hspmu hen)
      · exact exec_of_trapUser .write (exec_msrSpmselrEl0 t s) (spmPeListing_of_userDisabled haa64 hundef hel hspmu hen)
      · exact (isSpmuAccess_of_mem_spmuUserReads hi).exec_of_userDenied haa64 hundef hel hspmu (hdenied .read)
      · exact (isSpmuAccess_of_mem_spmuUserWrites hi).exec_of_userDenied haa64 hundef hel hspmu (hdenied .write)
    · exact isSpmuAccess_msrSpmzrEl0.exec_of_userDenied haa64 hundef hel hspmu2 (spmuUserDenied_of_disabled _ hen)
    · exact (isSpmuAccess_of_mem_spmuUserReads hi).exec_of_userDenied haa64 hundef hel hspmu
        (spmuUserDenied_of_field hhost (spmDenies_read hfield))
    · have hdenied := spmuUserDenied_of_field (denies := Direction.write.spmDenies s) hhost (spmDenies_write hfield)
      obtain ⟨hspmu, hi⟩ | ⟨hspmu2, rfl⟩ := hi
      · exact (isSpmuAccess_of_mem_spmuUserWrites hi).exec_of_userDenied haa64 hundef hel hspmu hdenied
      · exact isSpmuAccess_msrSpmzrEl0.exec_of_userDenied haa64 hundef hel hspmu2 hdenied

end Sys2Proof.Machine

/-! The identification registers of a System PMU: what their reads give, and that the parameters that they give hold to
the constraints of their rules (log 41). -/

namespace Sys2Proof.Machine

/-! ## SPMCFGR_EL1 (R1041, R1048, R1052, R1053) -/

/-- The fields of SPMCFGR_EL1 that are taken from the parameter as they are. -/
def spmcfgrMask : Word := fieldIf 28 4 true ||| fieldIf 20 5 true ||| fieldIf 16 2 true

/-- The value of SIZE. -/
def spmcfgrSize (v : Word) : Nat := if spmcfgrSizes.contains (fieldNat v 8 6) then fieldNat v 8 6 else 63

theorem spmcfgrSize_mem (v : Word) : spmcfgrSize v ∈ spmcfgrSizes := by
  unfold spmcfgrSize
  split
  case isTrue h => exact List.contains_iff_mem.mp h
  case isFalse => decide

theorem spmcfgrSize_lt (v : Word) : spmcfgrSize v < 2 ^ 6 := by
  have hall : ∀ n ∈ spmcfgrSizes, n < 2 ^ 6 := by decide
  exact hall _ (spmcfgrSize_mem v)

/-- SPMCFGR_EL1 put together from its fields. -/
theorem spmcfgrValue_eq (v : Word) : spmcfgrValue v = (v &&& spmcfgrMask) ||| bitIf 19 true |||
    placed (BitVec.ofNat 6 (spmcfgrSize v)) 8 ||| placed (BitVec.ofNat 8 (min (fieldNat v 0 8) 63)) 0 := by
  have hn : min (fieldNat v 0 8) 63 < 2 ^ 8 := by omega
  rw [← shiftLeft_eq_placed (spmcfgrSize_lt v) 8, ← shiftLeft_eq_placed hn 0, BitVec.shiftLeft_zero]
  rfl

section
variable (v : Word) {lo w : Nat}

/-- A field of the parameter that lies above SIZE and does not hold bit 19. -/
theorem field_spmcfgrValue (h : 14 ≤ lo ∧ lo + w ≤ 64 ∧ (19 < lo ∨ lo + w ≤ 19)) :
    field (spmcfgrValue v) lo w = field v lo w &&& field spmcfgrMask lo w := by
  obtain ⟨hsize, hw, h19⟩ := h
  have hn : 8 ≤ lo := by omega
  simp [spmcfgrValue_eq, field_or, field_and, h19, hsize, hw, hn]

theorem field_spmcfgrValue_res0 (h : 14 ≤ lo ∧ lo + w ≤ 64 ∧ (19 < lo ∨ lo + w ≤ 19))
    (hmask : field spmcfgrMask lo w = 0) : field (spmcfgrValue v) lo w = 0 := by
  rw [field_spmcfgrValue v h, hmask]
  exact BitVec.and_zero

theorem fieldNat_spmcfgrValue_ncg : fieldNat (spmcfgrValue v) 28 4 = fieldNat v 28 4 := by
  have hmask : field spmcfgrMask 28 4 = BitVec.allOnes 4 := by decide
  rw [fieldNat, field_spmcfgrValue v (by decide), hmask, BitVec.and_allOnes, fieldNat]

theorem bit_spmcfgrValue_19 : bit (spmcfgrValue v) 19 = true := by
  simp [spmcfgrValue_eq, bit_bitIf]

theorem bit_spmcfgrValue_18 : bit (spmcfgrValue v) 18 = false := by
  have hmask : bit spmcfgrMask 18 = false := by decide
  simp [spmcfgrValue_eq, bit_bitIf, hmask]

theorem fieldNat_spmcfgrValue_size : fieldNat (spmcfgrValue v) 8 6 = spmcfgrSize v := by
  have hmask : field spmcfgrMask 8 6 = 0 := by decide
  refine fieldNat_of_field_eq_ofNat (spmcfgrSize_lt v) ?_
  simp [spmcfgrValue_eq, field_or, field_and, hmask]

theorem fieldNat_spmcfgrValue_n : fieldNat (spmcfgrValue v) 0 8 = min (fieldNat v 0 8) 63 := by
  have hmask : field spmcfgrMask 0 8 = 0 := by decide
  refine fieldNat_of_field_eq_ofNat (by omega) ?_
  simp [spmcfgrValue_eq, field_or, field_and, hmask]

end

/-! ## SPMDEVAFF_EL1, SPMDEVARCH_EL1 and SPMIIDR_EL1 (R1162, R1166, R1181, R1183, R1281, R1285) -/

section
variable (v : Word)

theorem field_spmdevaffValue_res0 {lo w : Nat} (hmask : field (fieldIf 30 10 true ||| fieldIf 0 25 true) lo w = 0)
    (h23 : 23 < lo ∨ lo + w ≤ 23) : field (spmdevaffValue v) lo w = 0 := by
  unfold spmdevaffValue
  split
  · simp [field]
  · rw [field_or, field_and, hmask, field_bitIf_outside (by decide) _ h23]
    simp

/-- F0V is as supplied, unless the register reads as zero. -/
theorem bit_spmdevaffValue_31 : spmdevaffValue v = 0 ∨ bit (spmdevaffValue v) 31 = bit v 31 := by
  unfold spmdevaffValue
  split
  · exact .inl rfl
  · exact .inr (by simp [bit_fieldIf, bit_bitIf])

/-- Aff0, Aff1 and Aff2 in one field. -/
theorem field_affinity_eq_zero (h01 : field v 0 16 = 0) (h2 : field v 16 8 = 0) : field v 0 24 = 0 := by
  refine (field_eq_zero_iff _ _ _).mpr fun i hi => ?_
  by_cases h : i < 16
  · exact (field_eq_zero_iff v 0 16).mp h01 i h
  · have hbit := (field_eq_zero_iff v 16 8).mp h2 (i - 16) (by omega)
    rwa [show 16 + (i - 16) = 0 + i by omega] at hbit

theorem spmdevaffValue_eq_zero (hf0v : bit (spmdevaffValue v) 31 = false)
    (h01 : field (spmdevaffValue v) 0 16 = 0) (h2 : field (spmdevaffValue v) 16 8 = 0) : spmdevaffValue v = 0 := by
  obtain hzero | hbit := bit_spmdevaffValue_31 v
  · exact hzero
  · exact spmdevaffValue_level v (hbit ▸ hf0v) (field_affinity_eq_zero _ h01 h2)

theorem field_spmdevarchValue_res0 : field (spmdevarchValue v) 32 32 = 0 := by
  unfold spmdevarchValue
  split
  · simp [field_and]
  · simp [field]

theorem spmdevarchValue_eq_zero (hpresent : bit (spmdevarchValue v) 20 = false) : spmdevarchValue v = 0 := by
  unfold spmdevarchValue at hpresent ⊢
  split
  case isTrue h => simp [h, bit_onesWord] at hpresent
  case isFalse => rfl

theorem field_spmiidrValue_res0 : field (spmiidrValue v) 32 32 = 0 := by simp [spmiidrValue, field_and]

theorem bit_spmiidrValue_7 : bit (spmiidrValue v) 7 = false := by simp [spmiidrValue, bit_bitIf]

end

/-! ## SPMCGCR<k>_EL1 (R1042) -/

section
variable {ncg k m : Nat} {v : Word}

theorem spmcgcrCount_le_cap : spmcgcrCount ncg k m v ≤ spmcgcrCap ncg := by
  unfold spmcgcrCount
  split
  · exact Nat.min_le_right _ _
  · exact Nat.zero_le _

theorem spmcgcrCount_of_lt (h : ncg < 8 * k + m) : spmcgcrCount ncg k m v = 0 := if_neg (Nat.not_le.mpr h)

/-- The caps of R1042, by the number of groups; a group above NCG has no counter. -/
theorem spmcgcrCount_bounds : (ncg = 1 → spmcgcrCount ncg k m v ≤ 32) ∧
    (ncg = 2 ∨ ncg = 3 → spmcgcrCount ncg k m v ≤ 16) ∧ (4 ≤ ncg → ncg ≤ 7 → spmcgcrCount ncg k m v ≤ 8) ∧
    (8 ≤ ncg → spmcgcrCount ncg k m v ≤ 4) ∧ (ncg < 8 * k + m → spmcgcrCount ncg k m v = 0) := by
  have hcap : spmcgcrCount ncg k m v ≤ spmcgcrCap ncg := spmcgcrCount_le_cap
  refine ⟨fun h => ?one, fun h => ?upTo3, fun h _ => ?upTo7, fun h => ?more, spmcgcrCount_of_lt⟩ <;>
    unfold spmcgcrCap at hcap <;> split_ifs at hcap <;> omega

end

section
variable {s : State} {n : Nat} {p : SpmuConfig}

/-- The counters of group `8k + m` of an implemented System PMU. -/
theorem fieldNat_cgcr (hp : s.cfg.spmuConfig n = some p) {k m : Nat} (hk : k < 2) (hm : m < 8) :
    ∃ v, fieldNat (if k = 0 then p.cgcr0 else p.cgcr1) (8 * m) 8 = spmcgcrCount (fieldNat p.cfgr 28 4) k m v := by
  obtain ⟨_, q, _, rfl⟩ := spmuConfig_eq_some hp
  have hncg : fieldNat (q.normalised (s.cfg.has .RME)).cfgr 28 4 = fieldNat q.cfgr 28 4 := fieldNat_spmcfgrValue_ncg _
  rw [hncg]
  obtain rfl | rfl : k = 0 ∨ k = 1 := by omega
  · exact ⟨q.cgcr0, fieldNat_spmcgcrHeld _ 0 m hm _⟩
  · exact ⟨q.cgcr1, fieldNat_spmcgcrHeld _ 1 m hm _⟩

/-! ## The reads -/

variable {t : Nat}

theorem exec_mrsSpmcfgrEl1_of_open (h : s.spmuReadOpen .nSPMID) : exec (.mrsSpmcfgrEl1 t) s =
    .next (s.readDone t (s.unitValue s.selectedSpmu fun p _ => p.cfgr)) := by
  rw [exec_mrsSpmcfgrEl1, spmuListing_of_spmuPrivOpen (dir := .read) h]
  exact finishRead_perform_known rfl

theorem exec_mrsSpmcgcr0El1_of_open (h : s.spmuReadOpen .nSPMID) : exec (.mrsSpmcgcr0El1 t) s =
    .next (s.readDone t (s.unitValue s.selectedSpmu fun p _ => if fieldNat p.cfgr 28 4 = 0 then 0 else p.cgcr0)) := by
  rw [exec_mrsSpmcgcr0El1, spmuListing_of_spmuPrivOpen (dir := .read) h]
  exact finishRead_perform_known rfl

theorem exec_mrsSpmcgcr1El1_of_open (h : s.spmuReadOpen .nSPMID) : exec (.mrsSpmcgcr1El1 t) s =
    .next (s.readDone t (s.unitValue s.selectedSpmu fun p _ => if fieldNat p.cfgr 28 4 = 0 then 0 else p.cgcr1)) := by
  rw [exec_mrsSpmcgcr1El1, spmuListing_of_spmuPrivOpen (dir := .read) h]
  exact finishRead_perform_known rfl

theorem exec_mrsSpmdevarchEl1_of_open (h : s.spmuReadOpen .nSPMID) : exec (.mrsSpmdevarchEl1 t) s =
    .next (s.readDone t (s.unitValue s.selectedSpmu fun p _ => p.devarch)) := by
  rw [exec_mrsSpmdevarchEl1, spmuListing_of_spmuPrivOpen (dir := .read) h]
  exact finishRead_perform_known rfl

theorem exec_mrsSpmiidrEl1_of_open (h : s.spmuReadOpen .nSPMID) : exec (.mrsSpmiidrEl1 t) s =
    .next (s.readDone t (s.unitValue s.selectedSpmu fun p _ => p.iidr)) := by
  rw [exec_mrsSpmiidrEl1, spmuListing_of_spmuPrivOpen (dir := .read) h]
  exact finishRead_perform_known rfl

theorem exec_mrsSpmdevaffEl1_of_open (h : s.spmuReadOpen .nSPMDEVAFF_EL1) : exec (.mrsSpmdevaffEl1 t) s =
    .next (s.readDone t (s.unitValue s.selectedSpmu fun p _ => p.devaff)) := by
  rw [exec_mrsSpmdevaffEl1, spmuListing_of_spmuPrivOpen (dir := .read) h]
  exact finishRead_perform_known rfl

end

/-- Settles O34: each read gives the parameter of the selected System PMU, which `SpmuConfig.normalised` holds to the
constraints of its rule. -/
theorem spmIdentificationReadsComplete : Obligations.SpmIdentificationReadsComplete := by
  rintro s t n rfl
  refine ⟨fun hopen hnone => ?readZero, fun hopen hnone => ?readZeroAff, fun p hp => ⟨fun hopen => ?read,
    fun hopen => ?readAff, ?constants⟩⟩
  case readZero =>
    rw [exec_mrsSpmcfgrEl1_of_open hopen, exec_mrsSpmcgcr0El1_of_open hopen, exec_mrsSpmcgcr1El1_of_open hopen,
      exec_mrsSpmdevarchEl1_of_open hopen, exec_mrsSpmiidrEl1_of_open hopen]
    simp only [unitValue_of_none hnone, and_self]
  case readZeroAff => rw [exec_mrsSpmdevaffEl1_of_open hopen, unitValue_of_none hnone]
  case read =>
    rw [exec_mrsSpmcfgrEl1_of_open hopen, exec_mrsSpmcgcr0El1_of_open hopen, exec_mrsSpmcgcr1El1_of_open hopen,
      exec_mrsSpmdevarchEl1_of_open hopen, exec_mrsSpmiidrEl1_of_open hopen]
    simp only [unitValue_of_some hp, and_self]
  case readAff => rw [exec_mrsSpmdevaffEl1_of_open hopen, unitValue_of_some hp]
  case constants =>
    have hsize (k : Nat) : p.bits k ≤ fieldNat p.cfgr 8 6 + 1 := bits_le_size p k
    have hgroups {k m : Nat} (hk : k < 2) (hm : m < 8) := fieldNat_cgcr hp hk hm
    obtain ⟨_, q, _, rfl⟩ := spmuConfig_eq_some hp
    refine ⟨field_spmcfgrValue_res0 q.cfgr (by decide) (by decide),
      field_spmcfgrValue_res0 q.cfgr (by decide) (by decide),
      bit_spmcfgrValue_19 q.cfgr, bit_spmcfgrValue_18 q.cfgr,
      field_spmcfgrValue_res0 q.cfgr (by decide) (by decide),
      fieldNat_spmcfgrValue_size q.cfgr ▸ spmcfgrSize_mem q.cfgr,
      (fieldNat_spmcfgrValue_n q.cfgr).trans_le (Nat.min_le_right _ _), hsize,
      field_spmdevaffValue_res0 q.devaff (by decide) (by decide),
      field_spmdevaffValue_res0 q.devaff (by decide) (by decide), field_spmdevarchValue_res0 q.devarch,
      spmdevarchValue_eq_zero q.devarch, field_spmiidrValue_res0 q.iidr, bit_spmiidrValue_7 q.iidr,
      spmdevaffValue_eq_zero q.devaff, ?groups⟩
    rintro ncg k m count rfl hk hm rfl
    obtain ⟨v, hcount⟩ := hgroups hk hm
    rw [hcount]
    exact spmcgcrCount_bounds

end Sys2Proof.Machine

/-! How an instruction ends: it answers a next state in every case, an exception changes nothing else, and the names of
the higher Exception levels are UNDEFINED at EL0. -/

namespace Sys2Proof.Machine

/-! ## Every access ends in a next state (R1500 to R1502) -/

/-- Every instruction ends an access in one of the two directions. -/
theorem exec_eq_finishAccess (i : Instr) (s : State) :
    ∃ dir a s₁, (s₁ = s ∨ s₁ = s.drawn 1) ∧ exec i s = finishAccess dir a i.rt s₁ := by
  obtain ⟨a, s₁, hs₁, hread | hwrite⟩ := exec_shape i s
  · exact ⟨.read, a, s₁, hs₁, hread⟩
  · exact ⟨.write, a, s₁, hs₁, hwrite⟩

/-- The exceptions of a listing (R1501, R1502). -/
def Exception.IsListed (e : Exception) : Prop := e = .undefined ∨ ∃ el, e = .systemAccessTrap el 0x18

/-- The end of an access is a next state: nothing becomes outstanding in it, or an exception is taken. -/
theorem finishAccess_answers (dir : Direction) (a : Access) (t : Nat) (s : State) :
    ∃ s', finishAccess dir a t s = .next s' ∧
      (s'.pending = s.pending ∨ ∃ e : Exception, e.IsListed ∧ s' = takeException e s) := by
  cases a with
  | perform r => cases dir <;> exact ⟨_, rfl, .inl (by simp)⟩
  | razWi => cases dir <;> exact ⟨_, rfl, .inl rfl⟩
  | nop => cases dir <;> exact ⟨_, rfl, .inl rfl⟩
  | nvmem => cases dir <;> exact ⟨_, rfl, .inl rfl⟩
  | undefined => exact ⟨_, finishAccess_undefined, .inr ⟨.undefined, .inl rfl, rfl⟩⟩
  | trap el => exact ⟨_, finishAccess_trap el, .inr ⟨.systemAccessTrap el 0x18, .inr ⟨el, rfl⟩, rfl⟩⟩
  | constrained p => cases dir <;> exact ⟨_, rfl, .inr ⟨.undefined, .inl rfl, rfl⟩⟩

/-- Settles O11: every instruction ends an access, and every end of an access is a next state. -/
theorem everyInstructionAnswersANextState : Obligations.EveryInstructionAnswersANextState := by
  intro i s
  obtain ⟨dir, a, s₁, -, hexec⟩ := exec_eq_finishAccess i s
  obtain ⟨s', hnext, -⟩ := finishAccess_answers dir a i.rt s₁
  exact ⟨s', hexec.trans hnext⟩

/-- Settles O12: of the ends of an access only the exceptions make one outstanding, and they change nothing else; the
value drawn before is that of CU_OTHER_COUNTER (R1510). -/
theorem exceptionsChangeNoState : Obligations.ExceptionsChangeNoState := by
  intro i s s' hnone hnext hsome
  obtain ⟨dir, a, s₁, hs₁, hexec⟩ := exec_eq_finishAccess i s
  obtain ⟨s'', hend, hkind⟩ := finishAccess_answers dir a i.rt s₁
  obtain rfl : s' = s'' := Host.Outcome.next.inj (hnext.symm.trans (hexec.trans hend))
  have hpending : s₁.pending = none := by obtain rfl | rfl := hs₁ <;> exact hnone
  obtain hsame | ⟨e, he, rfl⟩ := hkind
  · exact absurd (hsame.trans hpending) hsome
  · refine ⟨e, he, ?_⟩
    obtain rfl | rfl := hs₁ <;> rfl

/-! ## Names that are UNDEFINED at EL0 (R1501) -/

section
variable {s : State} {t : Nat}

theorem exec_mrsSpmrootcrEl3 : exec (.mrsSpmrootcrEl3 t) s = finishAccess .read (listingMrsSpmrootcrEl3 s) t s := rfl

theorem exec_msrSpmrootcrEl3 : exec (.msrSpmrootcrEl3 t) s = finishAccess .write (listingMsrSpmrootcrEl3 s) t s := rfl

theorem exec_mrsSpmscrEl1 : exec (.mrsSpmscrEl1 t) s = finishAccess .read (listingMrsSpmscrEl1 s) t s := rfl

theorem exec_msrSpmscrEl1 : exec (.msrSpmscrEl1 t) s = finishAccess .write (listingMsrSpmscrEl1 s) t s := rfl

theorem exec_mrsMdcrEl2 : exec (.mrsMdcrEl2 t) s = finishAccess .read (listingMrsMdcrEl2 s) t s := rfl

theorem exec_msrMdcrEl2 : exec (.msrMdcrEl2 t) s = finishAccess .write (listingMsrMdcrEl2 s) t s := rfl

theorem exec_mrsMdcrEl3 : exec (.mrsMdcrEl3 t) s = finishAccess .read (listingMrsMdcrEl3 s) t s := rfl

theorem exec_msrMdcrEl3 : exec (.msrMdcrEl3 t) s = finishAccess .write (listingMsrMdcrEl3 s) t s := rfl

theorem listingMrsPmccntsvrEl1_eq_snapshotListing : listingMrsPmccntsvrEl1 s =
    snapshotListing s (s.has .PMUv3_SS) (s.fgt2Read .nPMSSDATA) (.perform .pmccntsvr) := rfl

/-- The two listings of MDCR_EL2 test no control that tells a read from a write. -/
theorem listingMsrMdcrEl2_eq : listingMsrMdcrEl2 s = listingMrsMdcrEl2 s := rfl

variable {present fgt : Bool} {priv : Access} {dir : Direction} {b : Fgt2Bit} {acc : EL → Access}
variable (hel : s.inp.el = .el0)
include hel

theorem privListing_of_el0 : privListing s present fgt priv = .undefined := by simp [privListing, hel]

theorem pm2Listing_of_el0 : pm2Listing s present fgt priv = .undefined := by simp [pm2Listing, hel]

theorem snapshotListing_of_el0 : snapshotListing s present fgt priv = .undefined := by simp [snapshotListing, hel]

theorem spmuListing_of_el0 : spmuListing s present dir b false priv = .undefined := by simp [spmuListing, hel]

theorem spmPeListing_of_el0 : spmPeListing s dir b false acc = .undefined := by simp [spmPeListing, hel]

theorem listingMrsPmevcntsvrEl1_of_el0 (m : Nat) : listingMrsPmevcntsvrEl1 m s = .undefined := by
  simp [listingMrsPmevcntsvrEl1, hel]

theorem listingMrsSpmaccessrEl12_of_el0 : listingMrsSpmaccessrEl12 s = .undefined := by
  simp [listingMrsSpmaccessrEl12, hel]

theorem listingMrsSpmaccessrEl2_of_el0 : listingMrsSpmaccessrEl2 s = .undefined := by
  simp [listingMrsSpmaccessrEl2, hel]

theorem listingMrsSpmaccessrEl3_of_el0 : listingMrsSpmaccessrEl3 s = .undefined := by
  simp [listingMrsSpmaccessrEl3, hel]

theorem listingMrsSpmrootcrEl3_of_el0 : listingMrsSpmrootcrEl3 s = .undefined := by
  simp [listingMrsSpmrootcrEl3, hel]

theorem listingMsrSpmrootcrEl3_of_el0 : listingMsrSpmrootcrEl3 s = .undefined := by
  simp [listingMsrSpmrootcrEl3, hel]

theorem listingMrsSpmscrEl1_of_el0 : listingMrsSpmscrEl1 s = .undefined := by simp [listingMrsSpmscrEl1, hel]

theorem listingMsrSpmscrEl1_of_el0 : listingMsrSpmscrEl1 s = .undefined := by simp [listingMsrSpmscrEl1, hel]

theorem listingMrsMdcrEl2_of_el0 : listingMrsMdcrEl2 s = .undefined := by simp [listingMrsMdcrEl2, hel]

theorem listingMrsMdcrEl3_of_el0 : listingMrsMdcrEl3 s = .undefined := by simp [listingMrsMdcrEl3, hel]

theorem listingMsrMdcrEl3_of_el0 : listingMsrMdcrEl3 s = .undefined := by simp [listingMsrMdcrEl3, hel]

end

theorem exec_of_undefined {i : Instr} {a : Access} {t : Nat} {s : State} (dir : Direction)
    (hexec : exec i s = finishAccess dir a t s) (ha : a = .undefined) :
    exec i s = .next (takeException .undefined s) := by
  rw [hexec, ha, finishAccess_undefined]

/-- Settles O45: the condition tree of each name is one of those that are UNDEFINED at EL0 without a test. -/
theorem privilegedNamesUndefinedAtEL0 : Obligations.PrivilegedNamesUndefinedAtEL0 := by
  intro s t i hel hi
  obtain hi | ⟨f, hf, rfl⟩ := hi
  · simp only [List.mem_cons, List.not_mem_nil, or_false] at hi
    obtain rfl | rfl | rfl | rfl | rfl | rfl | rfl | rfl | rfl | rfl | rfl | rfl | rfl | rfl | rfl | rfl | rfl | rfl |
      rfl | rfl | rfl | rfl | rfl | rfl | rfl | rfl | rfl | rfl | rfl | rfl | rfl | rfl | rfl | rfl | rfl | rfl | rfl |
      rfl | rfl | rfl | rfl | rfl := hi
    · exact exec_of_undefined .read (exec_mrsPmccntsvrEl1 t s)
        (listingMrsPmccntsvrEl1_eq_snapshotListing.trans (snapshotListing_of_el0 hel))
    · exact exec_of_undefined .read (exec_mrsPmecrEl1 t s) (pm2Listing_of_el0 hel)
    · exact exec_of_undefined .write (exec_msrPmecrEl1 t s) (pm2Listing_of_el0 hel)
    · exact exec_of_undefined .read (exec_mrsPmiarEl1 t s) (pm2Listing_of_el0 hel)
    · exact exec_of_undefined .write (exec_msrPmiarEl1 t s) (pm2Listing_of_el0 hel)
    · exact exec_of_undefined .read (exec_mrsPmicntsvrEl1 t s) (snapshotListing_of_el0 hel)
    · exact exec_of_undefined .read (exec_mrsPmintenclrEl1 t s) (privListing_of_el0 hel)
    · exact exec_of_undefined .write (exec_msrPmintenclrEl1 t s) (privListing_of_el0 hel)
    · exact exec_of_undefined .read (exec_mrsPmintensetEl1 t s) (privListing_of_el0 hel)
    · exact exec_of_undefined .write (exec_msrPmintensetEl1 t s) (privListing_of_el0 hel)
    · exact exec_of_undefined .read (exec_mrsPmmirEl1 t s) (privListing_of_el0 hel)
    · exact exec_of_undefined .read exec_mrsPmsscrEl1 (snapshotListing_of_el0 hel)
    · exact exec_of_undefined .write exec_msrPmsscrEl1 (snapshotListing_of_el0 hel)
    · exact exec_of_undefined .read (exec_mrsPmuacrEl1 t s) (pm2Listing_of_el0 hel)
    · exact exec_of_undefined .write (exec_msrPmuacrEl1 t s) (pm2Listing_of_el0 hel)
    · exact exec_of_undefined .write (exec_msrPmuserenrEl0 t s) (privListing_of_el0 hel)
    · exact exec_of_undefined .read exec_mrsSpmaccessrEl1_eq_spmPeListing (spmPeListing_of_el0 hel)
    · exact exec_of_undefined .write exec_msrSpmaccessrEl1_eq_spmPeListing (spmPeListing_of_el0 hel)
    · exact exec_of_undefined .read (exec_mrsSpmaccessrEl12 t s) (listingMrsSpmaccessrEl12_of_el0 hel)
    · exact exec_of_undefined .write (exec_msrSpmaccessrEl12 t s)
        (listingMsrSpmaccessrEl12_eq.trans (listingMrsSpmaccessrEl12_of_el0 hel))
    · exact exec_of_undefined .read exec_mrsSpmaccessrEl2 (listingMrsSpmaccessrEl2_of_el0 hel)
    · exact exec_of_undefined .write exec_msrSpmaccessrEl2
        (listingMsrSpmaccessrEl2_eq.trans (listingMrsSpmaccessrEl2_of_el0 hel))
    · exact exec_of_undefined .read exec_mrsSpmaccessrEl3 (listingMrsSpmaccessrEl3_of_el0 hel)
    · exact exec_of_undefined .write exec_msrSpmaccessrEl3
        (listingMsrSpmaccessrEl3_eq.trans (listingMrsSpmaccessrEl3_of_el0 hel))
    · exact exec_of_undefined .read (exec_mrsSpmcfgrEl1 t s) (spmuListing_of_el0 hel)
    · exact exec_of_undefined .read (exec_mrsSpmcgcr0El1 t s) (spmuListing_of_el0 hel)
    · exact exec_of_undefined .read (exec_mrsSpmcgcr1El1 t s) (spmuListing_of_el0 hel)
    · exact exec_of_undefined .read (exec_mrsSpmdevaffEl1 t s) (spmuListing_of_el0 hel)
    · exact exec_of_undefined .read (exec_mrsSpmdevarchEl1 t s) (spmuListing_of_el0 hel)
    · exact exec_of_undefined .read (exec_mrsSpmiidrEl1 t s) (spmuListing_of_el0 hel)
    · exact exec_of_undefined .read (exec_mrsSpmintenclrEl1 t s) (spmuListing_of_el0 hel)
    · exact exec_of_undefined .write (exec_msrSpmintenclrEl1 t s) (spmuListing_of_el0 hel)
    · exact exec_of_undefined .read (exec_mrsSpmintensetEl1 t s) (spmuListing_of_el0 hel)
    · exact exec_of_undefined .write (exec_msrSpmintensetEl1 t s) (spmuListing_of_el0 hel)
    · exact exec_of_undefined .read exec_mrsSpmrootcrEl3 (listingMrsSpmrootcrEl3_of_el0 hel)
    · exact exec_of_undefined .write exec_msrSpmrootcrEl3 (listingMsrSpmrootcrEl3_of_el0 hel)
    · exact exec_of_undefined .read exec_mrsSpmscrEl1 (listingMrsSpmscrEl1_of_el0 hel)
    · exact exec_of_undefined .write exec_msrSpmscrEl1 (listingMsrSpmscrEl1_of_el0 hel)
    · exact exec_of_undefined .read exec_mrsMdcrEl2 (listingMrsMdcrEl2_of_el0 hel)
    · exact exec_of_undefined .write exec_msrMdcrEl2 (listingMsrMdcrEl2_eq.trans (listingMrsMdcrEl2_of_el0 hel))
    · exact exec_of_undefined .read exec_mrsMdcrEl3 (listingMrsMdcrEl3_of_el0 hel)
    · exact exec_of_undefined .write exec_msrMdcrEl3 (listingMsrMdcrEl3_of_el0 hel)
  · obtain ⟨m, hm⟩ := List.mem_iff_getElem?.mp hf
    exact exec_of_undefined .read (exec_of_mrsPmevcntsvrRows hm) (listingMrsPmevcntsvrEl1_of_el0 hel m)

end Sys2Proof.Machine

/-! The traps of the PMU registers by the fields TPM: MDCR_EL3.TPM from EL2 and MDCR_EL2.TPM from EL1. -/

namespace Sys2Proof.Machine

/-! ## The listings under TPM (R1506, R1666, R1687) -/

/-- An access at EL2 that MDCR_EL3.TPM takes to EL3. Where EL3SDDUndefPriority() puts that control first, the access is
Undefined, and then EL3SDDUndef() holds as well (R144). -/
def State.monitorTpmTakes (s : State) : Prop :=
  s.inp.el = .el2 ∧ s.haveEL3 = true ∧ s.mdcr3TPM = true ∧ (s.inp.sddUndefPriority = true → s.inp.sddUndef = true)

/-- An access at EL1 that MDCR_EL2.TPM takes to EL2, with no control of EL3 before it. -/
def State.guestTpmTakes (s : State) : Prop :=
  s.inp.el = .el1 ∧ s.el2Enabled = true ∧ s.mdcr2TPM = true ∧ s.undefPriority = false

/-- The decision `a` of a listing that both fields TPM take. -/
def State.TakenByTpm (s : State) (a : Access) : Prop :=
  (s.monitorTpmTakes → a = s.trapMonitor) ∧ (s.guestTpmTakes → a = .trap .el2)

section
variable {s : State}

/-- The two tests of MDCR_EL3.TPM at EL2 have the same answer when the first can hold only where the second is
Undefined. -/
theorem undefPriority_ite_trapMonitor (h : s.monitorTpmTakes) :
    (if s.undefPriority then Access.undefined else s.trapMonitor) = s.trapMonitor := by
  obtain ⟨-, -, -, hsdd⟩ := h
  cases hprio : s.undefPriority with
  | false => rfl
  | true =>
    have hundef := hsdd (Bool.and_eq_true_iff.mp hprio).2
    simp [State.trapMonitor, hundef]

theorem guestTPM_of_guestTpmTakes (h : s.guestTpmTakes) : s.guestTPM = true := by
  obtain ⟨-, hel2, htpm, -⟩ := h
  simp [State.guestTPM, hel2, htpm]

variable {denied fgt present : Bool} {user priv : Access} (hpmu : s.has .PMUv3 = true) (haa64 : s.has .AA64 = true)
include hpmu haa64

theorem takenByTpm_pmuListing : s.TakenByTpm (pmuListing s denied fgt user priv) := by
  refine ⟨fun hmonitor => ?monitor, fun hguest => ?guest⟩
  case monitor =>
    have hboth := undefPriority_ite_trapMonitor hmonitor
    obtain ⟨hel, hel3, htpm, -⟩ := hmonitor
    simpa [pmuListing, hpmu, haa64, hel, hel3, htpm] using hboth
  case guest =>
    have htpm := guestTPM_of_guestTpmTakes hguest
    obtain ⟨hel, -, -, hundef⟩ := hguest
    simp [pmuListing, hpmu, haa64, hel, hundef, htpm]

theorem takenByTpm_privListing : s.TakenByTpm (privListing s (s.has .PMUv3) fgt priv) := by
  refine ⟨fun hmonitor => ?monitor, fun hguest => ?guest⟩
  case monitor =>
    have hboth := undefPriority_ite_trapMonitor hmonitor
    obtain ⟨hel, hel3, htpm, -⟩ := hmonitor
    simpa [privListing, hpmu, haa64, hel, hel3, htpm] using hboth
  case guest =>
    have htpm := guestTPM_of_guestTpmTakes hguest
    obtain ⟨hel, -, -, hundef⟩ := hguest
    simp [privListing, hpmu, haa64, hel, hundef, htpm]

theorem takenByTpm_listingMrsPmcrEl0 : s.TakenByTpm (listingMrsPmcrEl0 s) := by
  refine ⟨fun hmonitor => ?monitor, fun hguest => ?guest⟩
  case monitor =>
    have hboth := undefPriority_ite_trapMonitor hmonitor
    obtain ⟨hel, hel3, htpm, -⟩ := hmonitor
    simpa [listingMrsPmcrEl0, hpmu, haa64, hel, hel3, htpm] using hboth
  case guest =>
    obtain ⟨hel, hel2, htpm, hundef⟩ := hguest
    simp [listingMrsPmcrEl0, hpmu, haa64, hel, hundef, hel2, htpm]

theorem takenByTpm_listingMsrPmcrEl0 : s.TakenByTpm (listingMsrPmcrEl0 s) := by
  refine ⟨fun hmonitor => ?monitor, fun hguest => ?guest⟩
  case monitor =>
    have hboth := undefPriority_ite_trapMonitor hmonitor
    obtain ⟨hel, hel3, htpm, -⟩ := hmonitor
    simpa [listingMsrPmcrEl0, hpmu, haa64, hel, hel3, htpm] using hboth
  case guest =>
    obtain ⟨hel, hel2, htpm, hundef⟩ := hguest
    simp [listingMsrPmcrEl0, hpmu, haa64, hel, hundef, hel2, htpm]

end

/-! ## The accesses -/

section
variable {s : State} {i : Instr} {a : Access} {t : Nat}

theorem finishAccess_trapMonitor (dir : Direction) : finishAccess dir s.trapMonitor t s =
    .next (takeException (if s.inp.sddUndef then .undefined else .systemAccessTrap .el3 0x18) s) := by
  cases hsdd : s.inp.sddUndef with
  | false => simp only [State.trapMonitor, hsdd]; exact finishAccess_trap .el3
  | true => simp only [State.trapMonitor, hsdd]; exact finishAccess_undefined

/-- The instruction ends as a listing decides that both fields TPM take. -/
def IsTpmAccess (i : Instr) (s : State) : Prop :=
  ∃ dir a t, exec i s = finishAccess dir a t s ∧ s.TakenByTpm a

theorem IsTpmAccess.exec_of_monitor (hi : IsTpmAccess i s) (h : s.monitorTpmTakes) : exec i s =
    .next (takeException (if s.inp.sddUndef then .undefined else .systemAccessTrap .el3 0x18) s) := by
  obtain ⟨dir, a, t, hexec, hmonitor, -⟩ := hi
  rw [hexec, hmonitor h, finishAccess_trapMonitor]

theorem IsTpmAccess.exec_of_guest (hi : IsTpmAccess i s) (h : s.guestTpmTakes) :
    exec i s = .next (takeException (.systemAccessTrap .el2 0x18) s) := by
  obtain ⟨dir, a, t, hexec, -, hguest⟩ := hi
  rw [hexec, hguest h, finishAccess_trap]

variable (hpmu : s.has .PMUv3 = true) (haa64 : s.has .AA64 = true)
include hpmu haa64

theorem isTpmAccess_of_pmuListing {denied fgt : Bool} {user priv : Access} (dir : Direction)
    (hexec : exec i s = finishAccess dir (pmuListing s denied fgt user priv) t s) : IsTpmAccess i s :=
  ⟨dir, _, t, hexec, takenByTpm_pmuListing hpmu haa64⟩

theorem isTpmAccess_of_privListing {fgt : Bool} {priv : Access} (dir : Direction)
    (hexec : exec i s = finishAccess dir (privListing s (s.has .PMUv3) fgt priv) t s) : IsTpmAccess i s :=
  ⟨dir, _, t, hexec, takenByTpm_privListing hpmu haa64⟩

end

/-- Settles O46: the condition trees test MDCR_EL2.TPM right after the fine-grained control, which traps to EL2 too, and
MDCR_EL3.TPM at EL2 before anything else. -/
theorem tpmTrapsTakePmuAccesses : Obligations.TpmTrapsTakePmuAccesses := by
  intro s t i hpmu haa64 hi
  have haccess : IsTpmAccess i s := by
    simp only [List.mem_cons, List.not_mem_nil, or_false] at hi
    obtain rfl | rfl | rfl | rfl | rfl | rfl | rfl | rfl | rfl | rfl | rfl | rfl | rfl | rfl | rfl | rfl | rfl | rfl |
      rfl | rfl | rfl | rfl | rfl | rfl | rfl := hi
    · exact isTpmAccess_of_pmuListing hpmu haa64 .read (exec_mrsPmccfiltrEl0 t s)
    · exact isTpmAccess_of_pmuListing hpmu haa64 .write (exec_msrPmccfiltrEl0 t s)
    · exact isTpmAccess_of_pmuListing hpmu haa64 .read (exec_mrsPmccntrEl0 t s)
    · exact isTpmAccess_of_pmuListing hpmu haa64 .write (exec_msrPmccntrEl0 t s)
    · exact isTpmAccess_of_pmuListing hpmu haa64 .read (listingMrsPmceid0El0_eq s ▸ exec_mrsPmceid0El0 t s)
    · exact isTpmAccess_of_pmuListing hpmu haa64 .read (listingMrsPmceid1El0_eq s ▸ exec_mrsPmceid1El0 t s)
    · exact isTpmAccess_of_pmuListing hpmu haa64 .read (exec_mrsPmcntenclrEl0 t s)
    · exact isTpmAccess_of_pmuListing hpmu haa64 .write (exec_msrPmcntenclrEl0 t s)
    · exact isTpmAccess_of_pmuListing hpmu haa64 .read (exec_mrsPmcntensetEl0 t s)
    · exact isTpmAccess_of_pmuListing hpmu haa64 .write (exec_msrPmcntensetEl0 t s)
    · exact ⟨.read, _, t, exec_mrsPmcrEl0 t s, takenByTpm_listingMrsPmcrEl0 hpmu haa64⟩
    · exact ⟨.write, _, t, exec_msrPmcrEl0 t s, takenByTpm_listingMsrPmcrEl0 hpmu haa64⟩
    · exact isTpmAccess_of_privListing hpmu haa64 .read (exec_mrsPmintenclrEl1 t s)
    · exact isTpmAccess_of_privListing hpmu haa64 .write (exec_msrPmintenclrEl1 t s)
    · exact isTpmAccess_of_privListing hpmu haa64 .read (exec_mrsPmintensetEl1 t s)
    · exact isTpmAccess_of_privListing hpmu haa64 .write (exec_msrPmintensetEl1 t s)
    · exact isTpmAccess_of_pmuListing hpmu haa64 .read (exec_mrsPmovsclrEl0 t s)
    · exact isTpmAccess_of_pmuListing hpmu haa64 .write (exec_msrPmovsclrEl0 t s)
    · exact isTpmAccess_of_pmuListing hpmu haa64 .read (exec_mrsPmovssetEl0 t s)
    · exact isTpmAccess_of_pmuListing hpmu haa64 .write (exec_msrPmovssetEl0 t s)
    · exact isTpmAccess_of_pmuListing hpmu haa64 .read (exec_mrsPmselrEl0 t s)
    · exact isTpmAccess_of_pmuListing hpmu haa64 .write (exec_msrPmselrEl0 t s)
    · exact isTpmAccess_of_pmuListing hpmu haa64 .write (exec_msrPmswincEl0 t s)
    · exact isTpmAccess_of_pmuListing hpmu haa64 .read (exec_mrsPmuserenrEl0 t s)
    · exact isTpmAccess_of_privListing hpmu haa64 .write (exec_msrPmuserenrEl0 t s)
  exact ⟨fun hel hel3 htpm hsdd => haccess.exec_of_monitor ⟨hel, hel3, htpm, hsdd⟩,
    fun hel hel2 htpm hundef => haccess.exec_of_guest ⟨hel, hel2, htpm, hundef⟩⟩

end Sys2Proof.Machine

/-! MDCR_EL2 and MDCR_EL3: the accesses that complete, and what a reserved HPMN makes of a read of MDCR_EL2. -/

namespace Sys2Proof.Machine

/-! ## Words by their low field (R10) -/

theorem field_zero_eq_of_bit {v : Word} {w : Nat} {x : BitVec w} (h : ∀ i < w, bit v i = x.getLsbD i) :
    field v 0 w = x := by
  apply BitVec.eq_of_getLsbD_eq
  intro i hi
  rw [getLsbD_field, Nat.zero_add, h i hi, decide_eq_true hi, Bool.true_and]

/-! ## The value read from MDCR_EL2 (R1511, R1512, R1651, R1669) -/

section
variable {s : State}

theorem hpmnReadsOther_iff : s.hpmnReadsOther = true ↔ s.haveEL2 = true ∧ s.has .PMUv3 = true ∧
    s.cfg.numCounters ≠ 0 ∧ s.hpmnReserved = true := by
  simp [State.hpmnReadsOther, and_assoc]

/-- Above HPMN a read takes the stored fields. -/
theorem bit_mdcrEl2Value_of_le {i : Nat} (hi : 5 ≤ i) :
    bit s.mdcrEl2Value i = bit (s.mdcrEl2 &&& s.cfg.mdcrEl2Mask) i := by
  unfold State.mdcrEl2Value
  split
  · rw [bit_mergeBits, bit_onesWord 5 (by decide), if_neg (by simpa using hi)]
  · rfl

theorem mdcrEl2Value_of_not_other (h : ¬s.hpmnReadsOther = true) :
    s.mdcrEl2Value = s.mdcrEl2 &&& s.cfg.mdcrEl2Mask := by simp [State.mdcrEl2Value, h]

/-- With FEAT_PMUv3_EXTPMN a reserved HPMN reads as the Effective value of PMCCR.EPMN. -/
theorem bit_mdcrEl2Value_of_extpmn (hother : s.hpmnReadsOther = true) (hext : s.has .PMUv3_EXTPMN = true) {i : Nat}
    (hi : i < 5) : bit s.mdcrEl2Value i = (BitVec.ofNat 5 s.numSelfHosted).getLsbD i := by
  have hi64 : i < 64 := by omega
  have hones : bit (onesWord 5) i = true := by rw [bit_onesWord 5 (by decide), decide_eq_true hi]
  rw [State.mdcrEl2Value, if_pos (by rw [hother, hext]; rfl), bit_mergeBits, if_pos hones, bit, BitVec.getLsbD_ofNat,
    BitVec.getLsbD_ofNat, decide_eq_true hi64, decide_eq_true hi]

/-- Of HPMN a read takes an UNKNOWN value only if it is reserved and FEAT_PMUv3_EXTPMN is not there. -/
theorem bit_mdcrEl2Unknown_of_lt {i : Nat} (hi : i < 5) :
    bit s.mdcrEl2Unknown i = (s.hpmnReadsOther && !s.has .PMUv3_EXTPMN) := by
  have hlow : i < 8 ∧ ¬ 12 ≤ i ∧ ¬ 24 ≤ i ∧ ¬ 40 ≤ i := by omega
  obtain ⟨h8, h12, h24, h40⟩ := hlow
  have hmask : s.hpmnReadsOther = true → bit s.cfg.mdcrEl2Mask i = true := by
    intro hother
    obtain ⟨hel2, hpmu, -⟩ := hpmnReadsOther_iff.mp hother
    rw [State.haveEL2] at hel2
    rw [State.has] at hpmu
    simp [Config.mdcrEl2Mask, hel2, hpmu, bit_fieldIf, h8]
  cases hother : s.hpmnReadsOther with
  | false => simp [State.mdcrEl2Unknown, hother, bit_fieldIf, h12, h24, h40]
  | true => simp [State.mdcrEl2Unknown, hother, hmask, bit_fieldIf, hi, h12, h24, h40]

theorem bit_regValue_mdcrEl2 (i : Nat) : bit (s.regValue .mdcrEl2) i =
    if bit s.mdcrEl2Unknown i then bit (s.unknown 0) i else bit s.mdcrEl2Value i := bit_mergeBits _ _ _ i

theorem fieldNat_regValue_mdcrEl2 (hother : s.hpmnReadsOther = true) (hext : s.has .PMUv3_EXTPMN = true) :
    fieldNat (s.regValue .mdcrEl2) 0 5 = s.numSelfHosted := by
  have hlt : s.numSelfHosted < 2 ^ 5 := Nat.lt_succ_of_le (numSelfHosted_le_31 s)
  refine fieldNat_of_field_eq_ofNat hlt (field_zero_eq_of_bit fun i hi => ?_)
  rw [bit_regValue_mdcrEl2, bit_mdcrEl2Unknown_of_lt hi, hother, hext]
  exact bit_mdcrEl2Value_of_extpmn hother hext hi

theorem field_regValue_mdcrEl2 (hother : s.hpmnReadsOther = true) (hext : ¬s.has .PMUv3_EXTPMN = true) :
    field (s.regValue .mdcrEl2) 0 5 = field (s.unknown 0) 0 5 := by
  refine field_zero_eq_of_bit fun i hi => ?_
  have hunknown : bit s.mdcrEl2Unknown i = true := by simp [bit_mdcrEl2Unknown_of_lt hi, hother, hext]
  rw [bit_regValue_mdcrEl2, if_pos hunknown, getLsbD_field, Nat.zero_add, decide_eq_true hi, Bool.true_and]

end

/-! ## The accesses (R1670, R1671, R1696, R1697) -/

section
variable {s : State} {t : Nat}

theorem listingMrsMdcrEl2_of_open (haa64 : s.has .AA64 = true)
    (h : s.inp.el = .el3 ∨ (s.inp.el = .el2 ∧ (s.haveEL3 && s.mdcr3TDA) = false)) :
    listingMrsMdcrEl2 s = .perform .mdcrEl2 := by
  obtain hel | ⟨hel, hmonitor⟩ := h
  · simp [listingMrsMdcrEl2, haa64, hel]
  · simp [listingMrsMdcrEl2, haa64, hel, hmonitor, undefPriority_and_eq_false hmonitor]

theorem listingMrsMdcrEl3_of_el3 (haa64 : s.has .AA64 = true) (hel : s.inp.el = .el3) (hel3 : s.haveEL3 = true) :
    listingMrsMdcrEl3 s = .perform .mdcrEl3 := by simp [listingMrsMdcrEl3, haa64, hel, hel3]

theorem listingMsrMdcrEl3_of_el3 (haa64 : s.has .AA64 = true) (hel : s.inp.el = .el3) (hel3 : s.haveEL3 = true)
    (hfgwte : (s.has .FGWTE3 && s.inp.fgwte3Mdcr) = false) : listingMsrMdcrEl3 s = .perform .mdcrEl3 := by
  simp [listingMsrMdcrEl3, haa64, hel, hel3, hfgwte]

theorem finishAccess_read_perform (r : Reg) :
    finishAccess .read (.perform r) t s = .next (s.readDone t (s.regValue r)) := rfl

end

/-- Settles O42: the listings decide for the registers; HPMN is the only field of MDCR_EL2 that does not read as stored
or UNKNOWN. -/
theorem mdcrAccessesComplete : Obligations.MdcrAccessesComplete := by
  intro s t haa64
  refine ⟨fun hopen => ⟨?msrEl2, s.regValue .mdcrEl2, _, ?mrsEl2, rfl, fun i hi => ?above,
    fun hreserved => ?reserved, fun hstored => ?stored⟩, fun hel hel3 => ⟨?mrsEl3, fun hfgwte => ?msrEl3⟩⟩
  case msrEl2 =>
    rw [exec_msrMdcrEl2, listingMsrMdcrEl2_eq, listingMrsMdcrEl2_of_open haa64 hopen, finishAccess_write_perform,
      writeReg]
  case mrsEl2 => rw [exec_mrsMdcrEl2, listingMrsMdcrEl2_of_open haa64 hopen, finishAccess_read_perform]
  case above => rw [bit_regValue_mdcrEl2, bit_mergeBits, bit_mdcrEl2Value_of_le hi]
  case reserved =>
    have hother := hpmnReadsOther_iff.mpr hreserved
    split
    case isTrue hext => exact fieldNat_regValue_mdcrEl2 hother hext
    case isFalse hext => exact field_regValue_mdcrEl2 hother hext
  case stored =>
    rw [State.regValue, State.regKnown, State.regUnknown, mdcrEl2Value_of_not_other (mt hpmnReadsOther_iff.mp hstored)]
  case mrsEl3 =>
    rw [exec_mrsMdcrEl3, listingMrsMdcrEl3_of_el3 haa64 hel hel3, finishAccess_read_perform]
    rfl
  case msrEl3 =>
    rw [exec_msrMdcrEl3, listingMsrMdcrEl3_of_el3 haa64 hel hel3 hfgwte, finishAccess_write_perform, writeReg]

end Sys2Proof.Machine

/-! SPMROOTCR_EL3 and SPMSCR_EL1 at EL3, and the event registers of a counter that a System PMU does not have. -/

namespace Sys2Proof.Machine

/-! ## SPMROOTCR_EL3 and SPMSCR_EL1 (R1417, R1418, R1436, R1438) -/

section
variable {s : State} {n t : Nat} {p : SpmuConfig}

theorem spmrootcrValue_eq (p : SpmuConfig) (u : SpmUnit) :
    spmrootcrValue p u = if p.hasRootcr then (u.spmrootcr &&& p.rootcrMask) ||| 0x80000000 else 0 := rfl

theorem spmscrValue_eq (p : SpmuConfig) (u : SpmUnit) :
    spmscrValue p u = if p.hasScr then (u.spmscr &&& p.scrMask) ||| 0x80000000 else 0 := rfl

theorem finishAccess_read_spmrootcr (hp : s.cfg.spmuConfig n = some p) :
    finishAccess .read (.perform (.spmrootcr n)) t s = .next (s.readDone t (spmrootcrValue p (s.unit n))) := by
  rw [finishAccess, finishRead_perform_known (r := .spmrootcr n) rfl, State.regKnown, unitValue_of_some hp]

theorem finishAccess_read_spmscr (hp : s.cfg.spmuConfig n = some p) :
    finishAccess .read (.perform (.spmscr n)) t s = .next (s.readDone t (spmscrValue p (s.unit n))) := by
  rw [finishAccess, finishRead_perform_known (r := .spmscr n) rfl, State.regKnown, unitValue_of_some hp]

theorem finishAccess_write_spmrootcr (hp : s.cfg.spmuConfig n = some p) :
    finishAccess .write (.perform (.spmrootcr n)) t s = .next
      (s.spmDone { s.spm with units := arraySet s.spm.units n (writeSpmrootcr (s.readX t) p (s.unit n)) }) := by
  rw [finishAccess_write_perform, writeReg, updateUnit_of_some hp]

theorem finishAccess_write_spmscr (hp : s.cfg.spmuConfig n = some p) :
    finishAccess .write (.perform (.spmscr n)) t s = .next
      (s.spmDone { s.spm with units := arraySet s.spm.units n (writeSpmscr (s.readX t) p (s.unit n)) }) := by
  rw [finishAccess_write_perform, writeReg, updateUnit_of_some hp]

variable (hel : s.inp.el = .el3) (hspmu : s.has .SPMU = true) (haa64 : s.has .AA64 = true)
include hel hspmu haa64

theorem listingMrsSpmrootcrEl3_of_el3 (hrme : s.has .RME = true) :
    listingMrsSpmrootcrEl3 s = .perform (.spmrootcr s.selectedSpmu) := by
  simp [listingMrsSpmrootcrEl3, hel, hspmu, haa64, hrme]

theorem listingMsrSpmrootcrEl3_of_el3 (hrme : s.has .RME = true)
    (hfgwte : (s.has .FGWTE3 && s.inp.fgwte3Spmrootcr) = false) :
    listingMsrSpmrootcrEl3 s = .perform (.spmrootcr s.selectedSpmu) := by
  simp [listingMsrSpmrootcrEl3, hel, hspmu, haa64, hrme, hfgwte]

theorem spmuListing_of_el3 {dir : Direction} {b : Fgt2Bit} {user : Bool} {a : Access} :
    spmuListing s (s.has .SPMU) dir b user a = a := spmuListing_of_privOpen hspmu haa64 (.inl hel)

end

theorem secureAccess_of_ne {s : State} (hsecure : s.cfg.haveSecureEL1 = true) (hns : s.inp.ss ≠ .nonSecure)
    (hrealm : s.inp.ss ≠ .realm) : s.secureAccess = true := by simp [State.secureAccess, hsecure, hns, hrealm]

/-- Settles O38: at EL3 each listing decides for the register of the selected System PMU. -/
theorem spmRootAndSecureAccessesComplete : Obligations.SpmRootAndSecureAccessesComplete := by
  rintro s t n p hel rfl hp hspmu haa64
  refine ⟨fun hrme => ⟨?mrsRoot, fun hfgwte => ?msrRoot⟩, fun hsecure hns hrealm => ?secure⟩
  case mrsRoot =>
    rw [exec_mrsSpmrootcrEl3, listingMrsSpmrootcrEl3_of_el3 hel hspmu haa64 hrme, finishAccess_read_spmrootcr hp,
      spmrootcrValue_eq]
  case msrRoot =>
    rw [exec_msrSpmrootcrEl3, listingMsrSpmrootcrEl3_of_el3 hel hspmu haa64 hrme hfgwte,
      finishAccess_write_spmrootcr hp, writeSpmrootcr]
  case secure =>
    have hopen := secureAccess_of_ne hsecure hns hrealm
    constructor
    · rw [exec_mrsSpmscrEl1_of_secureAccess t hopen, spmuListing_of_el3 hel hspmu haa64, finishAccess_read_spmscr hp,
        spmscrValue_eq]
    · rw [exec_msrSpmscrEl1_of_secureAccess t hopen, spmuListing_of_el3 hel hspmu haa64,
        finishAccess_write_spmscr hp, writeSpmscr]

/-! ## Counters that do not exist (R1202, R1222, R1242, R1262) -/

/-- A System PMU that does not exist has no counter. -/
theorem spmuCounterImplemented_eq_false {c : Config} {n k : Nat}
    (h : c.spmuImplemented n = false ∨ c.spmuCounterImplemented n k = false) :
    c.spmuCounterImplemented n k = false := by
  obtain himpl | hk := h
  · have hnone : c.spmuConfig n = none := by simpa [Config.spmuImplemented] using himpl
    simp [Config.spmuCounterImplemented, hnone]
  · exact hk

theorem exec_of_spmuOpen_of_unimplemented {m t : Nat} {s : State} {f : Nat → Instr} (r : SpmEventReg) (dir : Direction)
    (hf : (r.rows dir)[m]? = some f) (hk : s.cfg.spmuCounterImplemented s.selectedSpmu (s.bankIndex m) = false)
    (hopen : dir.spmuOpen s r.fgt2Bit) : exec (f t) s = finishAccess dir .razWi t s := by
  have haccess : r.access m s = .razWi := by simp [SpmEventReg.access, hk]
  rw [exec_of_spmEventRows r dir hf, spmuListing_of_spmuOpen hopen, haccess]

/-- Settles O41: each row is the access with its index, which is RAZ/WI for a counter that does not exist. -/
theorem unimplementedSpmCounterReadsZero : Obligations.UnimplementedSpmCounterReadsZero := by
  intro m s t f n k hn hbank hmissing
  obtain rfl : n = s.selectedSpmu := hn
  obtain rfl : k = s.bankIndex m := hbank
  have hk := spmuCounterImplemented_eq_false hmissing
  refine ⟨fun hf hopen => ?readCounter, fun hf hopen => ?read, fun hf hopen => ?writeCounter,
    fun hf hopen => ?write⟩
  case readCounter => exact exec_of_spmuOpen_of_unimplemented .cntr .read hf hk hopen
  case writeCounter => exact exec_of_spmuOpen_of_unimplemented .cntr .write hf hk hopen
  case read =>
    simp only [List.mem_cons, List.not_mem_nil, or_false] at hf
    obtain hf | hf | hf := hf
    · exact exec_of_spmuOpen_of_unimplemented .typer .read hf.symm hk hopen
    · exact exec_of_spmuOpen_of_unimplemented .filtr .read hf.symm hk hopen
    · exact exec_of_spmuOpen_of_unimplemented .filt2r .read hf.symm hk hopen
  case write =>
    simp only [List.mem_cons, List.not_mem_nil, or_false] at hf
    obtain hf | hf | hf := hf
    · exact exec_of_spmuOpen_of_unimplemented .typer .write hf.symm hk hopen
    · exact exec_of_spmuOpen_of_unimplemented .filtr .write hf.symm hk hopen
    · exact exec_of_spmuOpen_of_unimplemented .filt2r .write hf.symm hk hopen

end Sys2Proof.Machine

/-! The PMU overflow interrupt request and the chain of the PMEE controls. -/

namespace Sys2Proof.Machine

/-! ## The overflow interrupt request (R1530, R1531) -/

theorem pmeeField_of_ne_one {v : BitVec 2} (h : v ≠ 1) (delegates : Bool) :
    pmeeField v delegates = if v = 3 then 3 else 0 := by
  have hone : (v == 1) = false := beq_false_of_ne h
  simp only [pmeeField, hone, Bool.false_and, beq_iff_eq, Bool.false_eq_true, if_false]

theorem pmeeField_last (v : BitVec 2) : pmeeField v false = if v = 3 then 3 else 0 := by simp [pmeeField]

/-- A control of the chain that is not delegating acts as 0b11 or 0b00. -/
theorem pmeeField_ne_one {v : BitVec 2} (h : v ≠ 1) : pmeeField v true ≠ 1 := by
  rw [pmeeField_of_ne_one h]
  split <;> decide

/-- The first control of the chain that is not delegated by 0b01 decides. -/
theorem pmeeEff_eq {s : State} {m3 m2 chosen : BitVec 2} (h3 : m3 = if s.haveEL3 then field s.mdcrEl3 40 2 else 1)
    (h2 : m2 = if s.haveEL2 && s.el2Enabled then field s.mdcrEl2 40 2 else 1)
    (hchosen : chosen = if m3 ≠ 1 then m3 else if m2 ≠ 1 then m2 else field s.pmu.pmecr 0 2) :
    s.pmeeEff = if chosen = 3 then 3 else 0 := by
  have hm3 : (if s.haveEL3 then pmeeField (field s.mdcrEl3 40 2) true else 1) = pmeeField m3 true := by
    rw [h3]; split <;> rfl
  have hm2 : (if s.haveEL2 && s.el2Enabled then pmeeField (field s.mdcrEl2 40 2) true else 1) = pmeeField m2 true := by
    rw [h2]; split <;> rfl
  simp only [State.pmeeEff, hm3, hm2, bne_iff_ne]
  by_cases hmonitor : m3 ≠ 1
  case pos => rw [if_pos (pmeeField_ne_one hmonitor), hchosen, if_pos hmonitor, pmeeField_of_ne_one hmonitor]
  obtain rfl : m3 = 1 := not_not.mp hmonitor
  rw [if_neg (show ¬ pmeeField 1 true ≠ 1 by decide)]
  by_cases hguest : m2 ≠ 1
  case pos =>
    rw [if_pos (pmeeField_ne_one hguest), hchosen, if_neg hmonitor, if_pos hguest, pmeeField_of_ne_one hguest]
  obtain rfl : m2 = 1 := not_not.mp hguest
  rw [if_neg (show ¬ pmeeField 1 true ≠ 1 by decide), hchosen, if_neg hmonitor, if_neg hguest, pmeeField_last]

theorem word_ne_zero_iff {v : Word} : v ≠ 0 ↔ ∃ i < 64, bit v i = true := by
  constructor
  · intro hne
    by_contra hnone
    refine hne (word_eq_of_bit fun i hi => ?_)
    rw [bit_zero, Bool.eq_false_iff]
    exact fun hbit => hnone ⟨i, hi, hbit⟩
  · rintro ⟨i, -, hbit⟩ rfl
    exact Bool.false_ne_true ((bit_zero i).symm.trans hbit)

/-- Settles O57: the request is the enabled flags and not the Profiling exception, which the chain enables. -/
theorem overflowInterruptRequest : Obligations.OverflowInterruptRequest := by
  rintro s m3 m2 m1 chosen h3 h2 rfl hchosen
  refine ⟨pmeeEff_eq h3 h2 hchosen, ?_⟩
  have henabled : s.profilingEnabled = true ↔ s.has .EBEP = true ∧ s.pmeeEff = 3 := by
    simp [State.profilingEnabled]
  rw [State.pmuIrq, Bool.and_eq_true, bne_iff_ne, word_ne_zero_iff, Bool.not_eq_true', ← henabled,
    Bool.not_eq_true]
  simp only [bit_and, Bool.and_eq_true]

end Sys2Proof.Machine

/-! The resets: the values that a Cold, a Warm or a System PMU reset states, and what it keeps. -/

namespace Sys2Proof.Machine

/-! ## The PMU registers after a Cold or Warm reset (R1601 to R1605) -/

section
variable {s : State} {cold : Bool} {n k i : Nat}

/-- A Warm reset with FEAT_PMUv3_EXTPMN keeps the "common" fields (R1602). -/
theorem redraw_common_warm (hext : s.has .PMUv3_EXTPMN = true) (k : Nat) (m old : Word) :
    s.redraw k (commonReset s.cfg false m) old = old := by
  have hmask : commonReset s.cfg false m = 0 := by rw [State.has] at hext; simp [commonReset, hext]
  rw [hmask]
  exact mergeBits_zero_mask old _

/-- The same for those of an event counter, which may not be implemented. -/
theorem redraw_implemented_warm (hext : s.has .PMUv3_EXTPMN = true) (k n : Nat) (m old : Word) :
    s.redraw k (implMask s.cfg n (commonReset s.cfg false m)) old = old := by
  unfold implMask
  split
  · exact redraw_common_warm hext k m old
  · exact mergeBits_zero_mask old _

theorem bit_resetPmcr_zeroed (h : i = 0 ∨ i = 32 ∧ s.has .AA32 = true) : bit (resetPmcr s) i = false := by
  obtain rfl | ⟨rfl, haa32⟩ := h
  · simp [resetPmcr, bit_bitIf]
  · simp [resetPmcr, bit_bitIf, haa32]

theorem bit_resetBitmap_F0 (k : Nat) (old : Word) : bit (resetBitmap cold s k old) 32 = false := by
  simp [resetBitmap, bit_bitIf]

theorem bit_resetBitmap_warm (hext : s.has .PMUv3_EXTPMN = true) (k : Nat) (old : Word) (hi : i < 32) :
    bit (resetBitmap false s k old) i = bit old i := by
  have hi64 : i < 64 := by omega
  have hne : i ≠ 32 := hi.ne
  rw [resetBitmap, redraw_common_warm hext]
  simp [bit_bitIf, hi64, hne]

theorem bit_thresholdMask (hi : i < 64) : bit thresholdMask i = decide (32 ≤ i ∧ i < 44 ∨ 60 ≤ i) := by
  revert i; decide

theorem evtyper_resetPE (hn : n < 31) : (resetPE cold s).evtyper n = resetEvtyper cold s n := arrayGet_ofFn _ n 0 hn

theorem evcntr_resetPE (hn : n < 31) : (resetPE cold s).evcntr n = resetEvcntr cold s n := arrayGet_ofFn _ n 0 hn

/-- TC, TE and TH are zero with FEAT_AA32EL1 (R1603). -/
theorem bit_resetEvtyper_threshold (haa32 : s.has .AA32EL1 = true) (hi : i < 64) (h : bit thresholdMask i = true) :
    bit (resetEvtyper cold s n) i = false := by
  simp [resetEvtyper, bit_evtyperStored, haa32, hi, h]

theorem field_resetEvtyper_threshold (haa32 : s.has .AA32EL1 = true) {lo w : Nat} (hw : lo + w ≤ 64)
    (h : ∀ j < w, bit thresholdMask (lo + j) = true) : field (resetEvtyper cold s n) lo w = 0 :=
  (field_eq_zero_iff _ lo w).mpr fun j hj => bit_resetEvtyper_threshold haa32 (by omega) (h j hj)

/-- Outside TC, TE and TH a Warm reset with FEAT_PMUv3_EXTPMN keeps the implemented bits. -/
theorem bit_resetEvtyper_warm (hext : s.has .PMUv3_EXTPMN = true) (hi : i < 60)
    (h : bit thresholdMask i = false) :
    bit (resetEvtyper false s n) i = bit (s.evtyper n &&& s.cfg.evtyperMask n) i := by
  have hi64 : i < 64 := by omega
  have hlow : ¬ 61 ≤ i := by omega
  have hkept : bit (if s.has .AA32EL1 then thresholdMask else 0) i = false := by
    split
    · exact h
    · exact bit_zero i
  rw [resetEvtyper, redraw_implemented_warm hext, bit_evtyperStored, bit_and, bit_not _ _ hi64, hkept]
  simp [hlow]

theorem resetEvcntr_warm (hext : s.has .PMUv3_EXTPMN = true) (hp5 : s.has .PMUv3p5 = true) :
    resetEvcntr false s n = s.evcntr n := by
  rw [resetEvcntr, hp5]
  exact redraw_implemented_warm hext _ n _ _

theorem pmevcntsvr_resetPE_warm (hext : s.has .PMUv3_EXTPMN = true) (hn : n < 31) :
    arrayGet (resetPE false s).pmu.pmevcntsvr n 0 = arrayGet s.pmu.pmevcntsvr n 0 :=
  (arrayGet_ofFn _ n 0 hn).trans (redraw_implemented_warm hext _ n _ _)

/-- A field of PMECR_EL1 that R1605 sets to 0 when the highest Exception level is EL1. -/
theorem bit_resetPmecr_highestEL1 (hel3 : s.haveEL3 = false) (hel2 : s.haveEL2 = false)
    (h : i < 2 ∨ cold = true ∧ (i = 3 ∨ i = 4)) : bit (resetPmecr cold s) i = false := by
  have htop : highestEL1 s.cfg = true := by
    rw [State.haveEL3] at hel3
    rw [State.haveEL2] at hel2
    simp [highestEL1, hel3, hel2]
  have hne : i ≠ 2 := by omega
  obtain hi | ⟨rfl, -⟩ := h
  · have hlow : ¬ 3 ≤ i := by omega
    simp [resetPmecr, htop, bit_bitIf, bit_fieldIf, hne, hlow]
  · simp [resetPmecr, htop, bit_bitIf, bit_fieldIf, hne]

end

/-! ## MDCR_EL2 and MDCR_EL3 after a Cold or Warm reset (R1607) -/

section
variable {s : State} {cold : Bool} {i : Nat}

/-- The fields of MDCR_EL2 that a reset does not make UNKNOWN. -/
def mdcrEl2Fixed (cold : Bool) (c : Config) : Word :=
  fieldIf 0 5 true ||| bitIf 23 true ||| bitIf 17 true ||| fieldIf 40 2 (highestEL2 c) ||| bitIf 43 (highestEL2 c) |||
    bitIf 28 true ||| fieldIf 30 2 (highestEL2 c || !cold)

/-- The fields of MDCR_EL2 that a reset keeps. -/
def mdcrEl2Kept (cold : Bool) : Word := bitIf 28 (!cold) ||| fieldIf 30 2 (!cold)

theorem bit_mdcrEl2Kept (cold : Bool) (i : Nat) :
    bit (mdcrEl2Kept cold) i = (!cold && (decide (i = 28) || decide (30 ≤ i ∧ i < 32))) := by
  simp [mdcrEl2Kept, bit_bitIf, bit_fieldIf, Bool.and_or_distrib_left]

theorem resetMdcrEl2_eq (cold : Bool) (s : State) : resetMdcrEl2 cold s =
    ((s.unknown 21 &&& ~~~mdcrEl2Fixed cold s.cfg) ||| BitVec.ofNat 64 s.cfg.numCounters ||| bitIf 28 cold |||
      (s.mdcrEl2 &&& mdcrEl2Kept cold)) &&& s.cfg.mdcrEl2Mask := rfl

theorem bit_numCounters (c : Config) (hi : 5 ≤ i) : bit (BitVec.ofNat 64 c.numCounters) i = false := by
  have hlt : c.numCounters < 2 ^ i :=
    (Nat.lt_succ_of_le (numCounters_le c)).trans_le (Nat.pow_le_pow_right Nat.zero_lt_two hi)
  rw [bit, BitVec.getLsbD_ofNat, Nat.testBit_lt_two_pow hlt, Bool.and_false]

/-- A field of MDCR_EL2 that a reset neither keeps nor makes UNKNOWN is 0, but for HPMN and MTPME. -/
theorem bit_resetMdcrEl2_zeroed (hi : 5 ≤ i) (hi64 : i < 64) (hmtpme : i ≠ 28)
    (hfixed : bit (mdcrEl2Fixed cold s.cfg) i = true) (hkept : bit (mdcrEl2Kept cold) i = false) :
    bit (resetMdcrEl2 cold s) i = false := by
  rw [resetMdcrEl2_eq]
  simp [hi64, hfixed, hkept, bit_numCounters s.cfg hi, bit_bitIf, hmtpme]

theorem bit_mdcrEl2Fixed_of_highestEL2 {c : Config} (htop : highestEL2 c = true) (cold : Bool)
    (hi : i ∈ [30, 31, 40, 41, 43]) : bit (mdcrEl2Fixed cold c) i = true := by
  rw [mdcrEl2Fixed, htop, Bool.true_or]
  revert i
  decide

/-- HPMD and HCCD are 0 after either reset. -/
theorem bit_resetMdcrEl2_hpmd_hccd (hi : i = 17 ∨ i = 23) : bit (resetMdcrEl2 cold s) i = false := by
  have hfixed : bit (mdcrEl2Fixed cold s.cfg) i = true := by
    obtain rfl | rfl := hi <;> simp [mdcrEl2Fixed, bit_bitIf]
  have hkept : bit (mdcrEl2Kept cold) i = false := by
    rw [bit_mdcrEl2Kept]
    obtain rfl | rfl := hi <;> simp
  exact bit_resetMdcrEl2_zeroed (by omega) (by omega) (by omega) hfixed hkept

/-- PMEE and EBWE are 0 after either reset, and PMSSE after a Cold one, when the highest Exception level is EL2. -/
theorem bit_resetMdcrEl2_highestEL2 (hel3 : s.haveEL3 = false) (hel2 : s.haveEL2 = true)
    (h : i ∈ [40, 41, 43] ∨ cold = true ∧ i ∈ [30, 31]) : bit (resetMdcrEl2 cold s) i = false := by
  have htop : highestEL2 s.cfg = true := by
    rw [State.haveEL3] at hel3
    rw [State.haveEL2] at hel2
    simp [highestEL2, hel3, hel2]
  simp only [List.mem_cons, List.not_mem_nil, or_false] at h
  have hi : i ∈ [30, 31, 40, 41, 43] := by
    simp only [List.mem_cons, List.not_mem_nil, or_false]
    omega
  have hkept : bit (mdcrEl2Kept cold) i = false := by
    rw [bit_mdcrEl2Kept]
    obtain hi | ⟨rfl, -⟩ := h
    · have hne : i ≠ 28 ∧ ¬ i < 32 := by omega
      simp [hne]
    · rfl
  exact bit_resetMdcrEl2_zeroed (by omega) (by omega) (by omega) (bit_mdcrEl2Fixed_of_highestEL2 htop cold hi) hkept

theorem fieldNat_resetMdcrEl2_hpmn (hel2 : s.cfg.haveEL2 = true) (hpmu : s.has .PMUv3 = true) :
    fieldNat (resetMdcrEl2 cold s) 0 5 = s.cfg.numCounters := by
  have hlt : s.cfg.numCounters < 2 ^ 5 := Nat.lt_succ_of_le (numCounters_le s.cfg)
  refine fieldNat_of_field_eq_ofNat hlt (field_zero_eq_of_bit fun i hi => ?_)
  have hpos : i < 64 ∧ i < 8 ∧ i ≠ 28 ∧ ¬ 30 ≤ i := by omega
  obtain ⟨hi64, hi8, hmtpme, hpmsse⟩ := hpos
  have hfixed : bit (mdcrEl2Fixed cold s.cfg) i = true := by simp [mdcrEl2Fixed, bit_fieldIf, hi]
  have hkept : bit (mdcrEl2Kept cold) i = false := by simp [bit_mdcrEl2Kept, hmtpme, hpmsse]
  have hmask : bit s.cfg.mdcrEl2Mask i = true := by
    rw [State.has] at hpmu
    simp [Config.mdcrEl2Mask, hel2, hpmu, bit_fieldIf, hi8]
  have hcount : bit (BitVec.ofNat 64 s.cfg.numCounters) i = (BitVec.ofNat 5 s.cfg.numCounters).getLsbD i := by
    rw [bit, BitVec.getLsbD_ofNat, BitVec.getLsbD_ofNat, decide_eq_true hi64, decide_eq_true hi]
  rw [resetMdcrEl2_eq]
  simp only [bit_and, bit_or, bit_not _ _ hi64, hfixed, hkept, hmask, hcount, bit_bitIf 28 (by decide),
    decide_eq_false hmtpme, Bool.not_true, Bool.and_false, Bool.false_or, Bool.or_false, Bool.and_true]

/-- MTPME is 1 after a Cold reset and kept by a Warm one. -/
theorem bit_resetMdcrEl2_mtpme (hel2 : s.haveEL2 = true) (hel3 : s.haveEL3 = false) (hmtpmu : s.has .MTPMU = true) :
    bit (resetMdcrEl2 cold s) 28 = (cold || bit s.mdcrEl2 28) := by
  have hfixed : bit (mdcrEl2Fixed cold s.cfg) 28 = true := by simp [mdcrEl2Fixed, bit_bitIf]
  have hkept : bit (mdcrEl2Kept cold) 28 = !cold := by simp [bit_mdcrEl2Kept]
  have hmask : bit s.cfg.mdcrEl2Mask 28 = true := by
    rw [State.haveEL2] at hel2
    rw [State.haveEL3] at hel3
    rw [State.has] at hmtpmu
    simp [Config.mdcrEl2Mask, hel2, hel3, hmtpmu, bit_bitIf]
  rw [resetMdcrEl2_eq]
  cases cold <;> simp [hfixed, hkept, hmask, bit_numCounters s.cfg, bit_bitIf]

theorem resetMdcrEl3_eq (cold : Bool) (s : State) : resetMdcrEl3 cold s =
    ((s.unknown 22 &&& ~~~(mdcrEl3Zeroed s.cfg ||| mdcrEl3Cold)) |||
      (if cold then bitIf 28 true else s.mdcrEl3 &&& mdcrEl3Cold)) &&& s.cfg.mdcrEl3Mask := rfl

/-- A field that either reset sets to 0. -/
theorem bit_resetMdcrEl3_zeroed (hi : i < 64) (hzero : bit (mdcrEl3Zeroed s.cfg) i = true)
    (hcold : bit mdcrEl3Cold i = false) : bit (resetMdcrEl3 cold s) i = false := by
  have hmtpme : i ≠ 28 := by rintro rfl; exact absurd hcold (by decide)
  rw [resetMdcrEl3_eq]
  cases cold <;> simp [hi, hzero, hcold, bit_bitIf, hmtpme]

/-- A field that a Cold reset alone sets to 0. -/
theorem bit_resetMdcrEl3_cold (hi : i < 64) (hmtpme : i ≠ 28) (hcold : bit mdcrEl3Cold i = true) :
    bit (resetMdcrEl3 true s) i = false := by
  rw [resetMdcrEl3_eq]
  simp [hi, hcold, bit_bitIf, hmtpme]

theorem bit_resetMdcrEl3_mtpme (hmtpmu : s.has .MTPMU = true) :
    bit (resetMdcrEl3 cold s) 28 = (cold || bit s.mdcrEl3 28) := by
  have hcold : bit mdcrEl3Cold 28 = true := by decide
  have hmask : bit s.cfg.mdcrEl3Mask 28 = true := by
    rw [State.has] at hmtpmu
    simp [Config.mdcrEl3Mask, hmtpmu, bit_bitIf]
  rw [resetMdcrEl3_eq]
  cases cold <;> simp [hcold, hmask, bit_bitIf]

/-- The fields that either reset sets to 0 in every implementation. -/
theorem bit_mdcrEl3Zeroed (c : Config)
    (hi : i ∈ [0, 2, 3, 4, 17, 18, 20, 21, 22, 23, 34, 35, 37, 43, 45, 46, 48, 49]) :
    bit (mdcrEl3Zeroed c) i = true := by
  rw [mdcrEl3Zeroed]
  revert i
  cases c.haveEL3 <;> decide

/-- PMEE, PMSEE and TRBEE, the fields of R1605. -/
theorem bit_mdcrEl3Zeroed_of_haveEL3 {c : Config} (hel3 : c.haveEL3 = true) (hi : i ∈ [40, 41, 51, 52, 53, 54]) :
    bit (mdcrEl3Zeroed c) i = true := by
  rw [mdcrEl3Zeroed, hel3]
  revert i
  decide

theorem field_resetMdcrEl3_highestEL3 (hel3 : s.haveEL3 = true) {lo : Nat} (hlo : lo = 40 ∨ lo = 51 ∨ lo = 53) :
    field (resetMdcrEl3 cold s) lo 2 = 0 := by
  refine (field_eq_zero_iff _ lo 2).mpr fun j hj => ?_
  have hi : lo + j ∈ [40, 41, 51, 52, 53, 54] := by
    simp only [List.mem_cons, List.not_mem_nil, or_false]
    omega
  have hcold : ∀ i ∈ [40, 41, 51, 52, 53, 54], i < 64 ∧ bit mdcrEl3Cold i = false := by decide
  obtain ⟨hi64, hcold⟩ := hcold _ hi
  exact bit_resetMdcrEl3_zeroed hi64 (bit_mdcrEl3Zeroed_of_haveEL3 hel3 hi) hcold

end

/-! ## What a Cold or Warm reset keeps (log 32) -/

@[simp] theorem resetPE_inp (cold : Bool) (s : State) : (resetPE cold s).inp = s.inp := by unfold resetPE; rfl
@[simp] theorem resetPE_mem (cold : Bool) (s : State) : (resetPE cold s).mem = s.mem := by unfold resetPE; rfl
@[simp] theorem resetPE_units (cold : Bool) (s : State) : (resetPE cold s).spm.units = s.spm.units := by
  unfold resetPE; rfl

/-- Settles O59: field by field, from what each register is made of after a reset. -/
theorem resetStatedValues : Obligations.ResetStatedValues := by
  rintro s u w cold rfl rfl
  refine ⟨bit_resetPmcr_zeroed (.inl rfl), fun haa32 => bit_resetPmcr_zeroed (.inr ⟨rfl, haa32⟩),
    bit_resetBitmap_F0 3 _, bit_resetBitmap_F0 10 _, bit_resetBitmap_F0 11 _, rfl, fun haa32 n hn => ?thresholds,
    fieldNat_resetMdcrEl2_hpmn, bit_resetMdcrEl2_hpmd_hccd (.inl rfl), bit_resetMdcrEl2_hpmd_hccd (.inr rfl),
    fun i hi => ?zeroed, fun hel3 hel2 => ?highestEL1, fun hel3 hel2 => ?highestEL2, fun hel3 => ?highestEL3,
    fun hcold => ?cold,
    fun hmtpmu => ⟨bit_resetMdcrEl3_mtpme hmtpmu, fun hel3 hel2 => bit_resetMdcrEl2_mtpme hel2 hel3 hmtpmu⟩,
    fun hext => ?warm, resetPE_inp cold s, resetPE_mem cold s, resetPE_units cold s⟩
  case thresholds =>
    rw [evtyper_resetPE hn]
    exact ⟨field_resetEvtyper_threshold haa32 (by decide) (by decide),
      bit_resetEvtyper_threshold haa32 (by decide) (by decide),
      field_resetEvtyper_threshold haa32 (by decide) (by decide)⟩
  case zeroed =>
    have hlist : i < 64 ∧ bit mdcrEl3Cold i = false := by revert i; decide
    obtain ⟨hi64, hcold⟩ := hlist
    exact bit_resetMdcrEl3_zeroed hi64 (bit_mdcrEl3Zeroed s.cfg hi) hcold
  case highestEL1 =>
    refine ⟨(field_eq_zero_iff _ 0 2).mpr fun j hj => ?pmee,
      fun hcold => (field_eq_zero_iff _ 3 2).mpr fun j hj => ?sse⟩
    case pmee => exact bit_resetPmecr_highestEL1 hel3 hel2 (.inl (by omega))
    case sse => exact bit_resetPmecr_highestEL1 hel3 hel2 (.inr ⟨hcold, by omega⟩)
  case highestEL2 =>
    refine ⟨(field_eq_zero_iff _ 40 2).mpr fun j hj => ?pmee,
      bit_resetMdcrEl2_highestEL2 hel3 hel2 (.inl (by decide)),
      fun hcold => (field_eq_zero_iff _ 30 2).mpr fun j hj => ?pmsse⟩
    case pmee => exact bit_resetMdcrEl2_highestEL2 hel3 hel2 (.inl (by revert j; decide))
    case pmsse => exact bit_resetMdcrEl2_highestEL2 hel3 hel2 (.inr ⟨hcold, by revert j; decide⟩)
  case highestEL3 =>
    exact ⟨field_resetMdcrEl3_highestEL3 hel3 (.inl rfl), field_resetMdcrEl3_highestEL3 hel3 (.inr (.inl rfl)),
      field_resetMdcrEl3_highestEL3 hel3 (.inr (.inr rfl))⟩
  case cold =>
    subst hcold
    refine ⟨(field_eq_zero_iff _ 30 2).mpr fun j hj => bit_resetMdcrEl3_cold (by omega) (by omega) ?_,
      bit_resetMdcrEl3_cold (by decide) (by decide) (by decide)⟩
    revert j; decide
  case warm =>
    refine ⟨redraw_common_warm hext _ _ _, redraw_common_warm hext _ _ _, redraw_common_warm hext _ _ _,
      redraw_common_warm hext _ _ _, redraw_common_warm hext _ _ _, redraw_common_warm hext _ _ _,
      fun n hn => ⟨pmevcntsvr_resetPE_warm hext hn, fun hp5 => ?evcntr, fun i hi hkept => ?evtyper⟩,
      fun i hi => ⟨bit_resetBitmap_warm hext 3 _ hi, bit_resetBitmap_warm hext 10 _ hi,
        bit_resetBitmap_warm hext 11 _ hi⟩⟩
    case evcntr => rw [evcntr_resetPE hn, resetEvcntr_warm hext hp5]
    case evtyper =>
      have hother : bit thresholdMask i = false := by
        rw [bit_thresholdMask hi]
        exact decide_eq_false (by omega)
      rw [evtyper_resetPE hn, bit_resetEvtyper_warm hext (by omega) hother]

/-! ## System PMU resets (R1604, R1611) -/

section
variable {s : State} {n : Nat} {p : SpmuConfig}

/-- A System PMU reset sets the registers of that System PMU, and counts the values drawn. -/
theorem resetSystemPMU_of_some (hp : s.cfg.spmuConfig n = some p) : resetSystemPMU n s =
    (s.withSpm { s.spm with units := arraySet s.spm.units n (resetUnit s n p) }).drawn 72 := by
  rw [resetSystemPMU, updateUnit_of_some hp]

theorem unit_resetSystemPMU_self (hn : n < 32) (hp : s.cfg.spmuConfig n = some p) :
    (resetSystemPMU n s).unit n = resetUnit s n p := by
  rw [resetSystemPMU_of_some hp]
  exact arrayGet_arraySet_self _ n _ _ hn

theorem unit_resetSystemPMU_ne (hp : s.cfg.spmuConfig n = some p) {m : Nat} (hm : m ≠ n) :
    (resetSystemPMU n s).unit m = s.unit m := by
  rw [resetSystemPMU_of_some hp]
  exact arrayGet_arraySet_ne _ n m _ _ hm.symm

theorem bit_resetUnit_spmcr_E : bit (resetUnit s n p).spmcr 0 = false := by simp [resetUnit, bit_bitIf]

/-- Below the IMPLEMENTATION DEFINED half SPMROOTCR_EL3 has NAO only. -/
theorem bit_resetUnit_spmrootcr {i : Nat} (hi : i < 32) :
    bit (resetUnit s n p).spmrootcr i = (p.hasRootcr && p.hasNao && decide (i = 3)) := by
  have hi64 : i < 64 := by omega
  have himpdef := bit_placed_outside (lo := 32) (p.rootcrImpdefReset &&& p.rootcrImpdefMask) hi64 (.inl hi)
  rw [placed] at himpdef
  cases hroot : p.hasRootcr with
  | false => simp only [resetUnit, hroot, Bool.false_eq_true, if_false, bit_zero, Bool.false_and]
  | true =>
    simp only [resetUnit, hroot, if_true, bit_or, himpdef, bit_bitIf 3 (by decide), Bool.false_or, Bool.true_and]

theorem bit_resetUnit_spmscr {i : Nat} (hi : i < 32) : bit (resetUnit s n p).spmscr i = false := by
  have hi64 : i < 64 := by omega
  have himpdef := bit_placed_outside (lo := 32) (p.scrImpdefReset &&& p.scrImpdefMask) hi64 (.inl hi)
  rw [placed] at himpdef
  cases hscr : p.hasScr with
  | false => simp only [resetUnit, hscr, Bool.false_eq_true, if_false, bit_zero]
  | true => simp only [resetUnit, hscr, if_true, himpdef]

theorem spmuIrq_of_disabled (h : bit (s.unit n).spmcr 0 = false) : s.spmuIrq n = false := by
  simp [State.spmuIrq, h]

end

/-- Settles O60: the reset replaces one entry of the System PMUs, whose register fields have the stated values. -/
theorem systemPmuResetStatedValues : Obligations.SystemPmuResetStatedValues := by
  intro s n p hn hp
  have hunit := unit_resetSystemPMU_self hn hp
  have hdisabled : bit ((resetSystemPMU n s).unit n).spmcr 0 = false := by rw [hunit, bit_resetUnit_spmcr_E]
  refine ⟨hdisabled, spmuIrq_of_disabled hdisabled, ?realmAndRoot, ?nao, ?so, ?scrNao,
    fun m hm => unit_resetSystemPMU_ne hp hm, ?frame⟩
  case realmAndRoot =>
    refine (field_eq_zero_iff _ 0 2).mpr fun j hj => ?_
    have hlow : 0 + j < 32 ∧ 0 + j ≠ 3 := by omega
    obtain ⟨h32, hne⟩ := hlow
    rw [hunit, bit_resetUnit_spmrootcr h32, decide_eq_false hne, Bool.and_false]
  case nao => rw [hunit, bit_resetUnit_spmrootcr (by decide), decide_eq_true rfl, Bool.and_true]
  case so => rw [hunit, bit_resetUnit_spmscr (by decide)]
  case scrNao => rw [hunit, bit_resetUnit_spmscr (by decide)]
  case frame =>
    rw [resetSystemPMU_of_some hp]
    rfl

end Sys2Proof.Machine

/-! The numbers of event counters, and which bits of the shared bitmaps an access reaches: at EL2 and EL3 those of the
counters that exist, at any Exception level no others. -/

namespace Sys2Proof.Machine

/-! ## The ranges of event counters (R110, R111) -/

section
variable {s : State}

theorem firstRange_iff {n : Nat} : s.firstRange n = true ↔ n < s.hpmnEff := by simp [State.firstRange]

theorem secondRange_iff {n : Nat} : s.secondRange n = true ↔ s.hpmnEff ≤ n ∧ n < s.numSelfHosted := by
  simp [State.secondRange]

theorem atEL0or1_eq_false (h : s.inp.el = .el2 ∨ s.inp.el = .el3) : s.atEL0or1 = false := by
  obtain hel | hel := h <;> simp [State.atEL0or1, hel]

theorem numAccessible_of_atEL0or1 (hel : s.atEL0or1 = true) (h2 : s.el2Enabled = true) :
    s.numAccessible = s.hpmnEff := by
  rw [State.el2Enabled] at h2
  simp [State.numAccessible, hel, h2]

theorem numAccessible_of_not_guest (h : s.atEL0or1 = false ∨ s.el2Enabled = false) :
    s.numAccessible = s.numSelfHosted := by
  simp only [State.el2Enabled] at h
  obtain h | h := h <;> simp [State.numAccessible, h]

theorem numAccessible_le_numCounters (s : State) : s.numAccessible ≤ s.cfg.numCounters :=
  (numAccessible_le s).trans (numSelfHosted_le s)

end

/-- Settles O56: the ranges are cut at hpmn_eff(), which is one of the numbers of counters. -/
theorem counterRangesPartition : Obligations.CounterRangesPartition := by
  intro s
  refine ⟨hpmnEff_le s, numSelfHosted_le s, numCounters_le s.cfg, fun n => ⟨firstRange_iff, secondRange_iff⟩,
    fun h => numAccessible_of_not_guest ?_, fun h => numAccessible_of_atEL0or1 ?_⟩
  · obtain hel | hel | h2 := h
    · exact .inl (atEL0or1_eq_false (.inl hel))
    · exact .inl (atEL0or1_eq_false (.inr hel))
    · exact .inr h2
  · obtain hel | hel := h <;> simp [State.atEL0or1, hel]

/-! ## The access types of the bits (R423, R426, R713, R716) -/

section
variable {s : State} {m : Nat}

theorem countAccess_32 (s : State) : s.countAccess 32 = s.f0Access := rfl
theorem countAccess_31 (s : State) : s.countAccess 31 = s.cAccess := rfl
theorem intAccess_32 (s : State) : s.intAccess 32 = s.f0IntAccess := rfl
theorem intAccess_31 (s : State) : s.intAccess 31 = .w := rfl
theorem uacrAccess_32 (s : State) : s.uacrAccess 32 = if s.has .PMUv3_ICNTR then .w else .razWi := rfl

theorem countAccess_of_lt (s : State) (hm : m < 31) : s.countAccess m = s.pAccess m := by
  have hne : m ≠ 31 ∧ m ≠ 32 := by omega
  simp [State.countAccess, hne]

theorem intAccess_of_lt (s : State) (hm : m < 31) : s.intAccess m = s.pIntAccess m := by
  have hne : m ≠ 31 ∧ m ≠ 32 := by omega
  simp [State.intAccess, hne]

theorem uacrAccess_of_lt (s : State) (hm : m < 31) : s.uacrAccess m = s.pIntAccess m := by
  have hne : m ≠ 31 ∧ m ≠ 32 := by omega
  simp [State.uacrAccess, hne]

theorem f0Access_of_not_icntr (h : s.has .PMUv3_ICNTR = false) : s.f0Access = .razWi := by simp [State.f0Access, h]

theorem f0IntAccess_of_not_icntr (h : s.has .PMUv3_ICNTR = false) : s.f0IntAccess = .razWi := by
  simp [State.f0IntAccess, h]

theorem pAccess_of_le (h : s.numAccessible ≤ m) : s.pAccess m = .razWi := if_pos h

theorem pIntAccess_of_le (h : s.numAccessible ≤ m) : s.pIntAccess m = .razWi := if_pos h

/-- Above EL0 only the number of accessible counters restricts P<m>. -/
theorem pAccess_of_ne_el0 (hel : s.inp.el ≠ .el0) (m : Nat) : s.pAccess m = s.pIntAccess m := by
  simp [State.pAccess, State.pIntAccess, hel]

theorem cAccess_of_ne_el0 (hel : s.inp.el ≠ .el0) : s.cAccess = .w := by simp [State.cAccess, hel]

end

/-! ## The bitmaps at EL2 and EL3 -/

/-- The PE is at EL3, or at EL2 with the counters of FEAT_PMUv3_ICNTR enabled by MDCR_EL3.EnPM2. -/
def State.MonitorOrHost (s : State) : Prop :=
  s.inp.el = .el3 ∨ s.inp.el = .el2 ∧ (s.haveEL3 = false ∨ s.mdcr3EnPM2 = true)

section
variable {s : State} {i : Nat}

theorem State.MonitorOrHost.el (h : s.MonitorOrHost) : s.inp.el = .el2 ∨ s.inp.el = .el3 :=
  h.elim .inr fun h2 => .inl h2.1

theorem State.MonitorOrHost.ne_el0 (h : s.MonitorOrHost) : s.inp.el ≠ .el0 := by
  obtain hel | hel := h.el <;> simp [hel]

theorem State.MonitorOrHost.ne_el1 (h : s.MonitorOrHost) : s.inp.el ≠ .el1 := by
  obtain hel | hel := h.el <;> simp [hel]

theorem State.MonitorOrHost.f0Disabled (h : s.MonitorOrHost) : s.f0Disabled = false := by
  obtain hel | ⟨-, hno3 | hen⟩ := h
  · simp [State.f0Disabled, hel]
  · simp [State.f0Disabled, hno3]
  · simp [State.f0Disabled, hen]

theorem State.MonitorOrHost.f0Access (h : s.MonitorOrHost) :
    s.f0Access = if s.has .PMUv3_ICNTR then .w else .razWi := by
  cases hicntr : s.has .PMUv3_ICNTR with
  | false => exact f0Access_of_not_icntr hicntr
  | true => simp [State.f0Access, State.f0Guest, hicntr, h.f0Disabled, h.ne_el0, atEL0or1_eq_false h.el]

theorem State.MonitorOrHost.f0IntAccess (h : s.MonitorOrHost) :
    s.f0IntAccess = if s.has .PMUv3_ICNTR then .w else .razWi := by
  cases hicntr : s.has .PMUv3_ICNTR with
  | false => exact f0IntAccess_of_not_icntr hicntr
  | true => simp [State.f0IntAccess, hicntr, h.f0Disabled, h.ne_el1]

theorem State.MonitorOrHost.pIntAccess (h : s.MonitorOrHost) (m : Nat) :
    s.pIntAccess m = if m < s.numSelfHosted then .w else .razWi := by
  simp only [State.pIntAccess, numAccessible_of_not_guest (.inl (atEL0or1_eq_false h.el)), ← Nat.not_le, ite_not]

/-- Every bit of the four masks is readable and writable or neither, by whether its counter exists. -/
theorem State.MonitorOrHost.access (h : s.MonitorOrHost) (hi : i < 33) :
    s.countAccess i = (if i < s.numSelfHosted ∨ i = 31 ∨ i = 32 ∧ s.has .PMUv3_ICNTR = true then .w else .razWi) ∧
      s.intAccess i = s.countAccess i := by
  have hmax := numSelfHosted_le_31 s
  rcases (by omega : i = 32 ∨ i = 31 ∨ i < 31) with rfl | rfl | hlt
  · have hout : ¬ 32 < s.numSelfHosted := by omega
    rw [countAccess_32, intAccess_32, h.f0Access, h.f0IntAccess]
    simp [hout]
  · rw [countAccess_31, intAccess_31, cAccess_of_ne_el0 h.ne_el0]
    simp
  · have hne : i ≠ 31 ∧ i ≠ 32 := by omega
    rw [countAccess_of_lt s hlt, intAccess_of_lt s hlt, pAccess_of_ne_el0 h.ne_el0, h.pIntAccess]
    simp [hne]

theorem bit_readMask (acc : Nat → FieldAccess) (i : Nat) :
    bit (readMask acc) i = (decide (i < 33) && (acc i).readable) := bit_maskOf 33 (by decide) _ i

theorem bit_writeMask (acc : Nat → FieldAccess) (i : Nat) :
    bit (writeMask acc) i = (decide (i < 33) && (acc i).writable) := bit_maskOf 33 (by decide) _ i

end

/-- Settles O20: bit by bit, from the access types. -/
theorem bitmapMasksAtEL3AndEL2 : Obligations.BitmapMasksAtEL3AndEL2 := by
  intro s i h _
  have hmax := numSelfHosted_le_31 s
  simp only [bit_readMask, bit_writeMask]
  by_cases hi : i < 33
  · obtain ⟨hcount, hint⟩ := State.MonitorOrHost.access h hi
    rw [hint, hcount, decide_eq_true hi]
    split <;> rename_i hexists <;> simp [hexists, FieldAccess.readable, FieldAccess.writable]
  · have hnone : ¬ (i < s.numSelfHosted ∨ i = 31 ∨ i = 32 ∧ s.has .PMUv3_ICNTR = true) := by omega
    simp [hi, hnone]

end Sys2Proof.Machine

/-! The tick: when each counter counts, what it adds, and what the tick leaves alone. -/

namespace Sys2Proof.Machine

/-! ## The conditions of counting (R120 to R124) -/

section
variable {s : State} {c : Context} {n : Nat}

theorem profilingEnabled_iff : s.profilingEnabled = true ↔ s.has .EBEP = true ∧ s.pmeeEff = 3 := by
  simp [State.profilingEnabled]

theorem lcEff_iff : s.lcEff = true ↔
    s.has .AA32 = false ∨ (s.has .EBEP = true ∧ s.pmeeEff = 3) ∨ bit s.pmu.pmcr 6 = true := by
  simp [State.lcEff, profilingEnabled_iff, or_assoc]

/-- An Effective LC of 0 needs FEAT_AA32, so D is implemented wherever it acts (R472). -/
theorem divEff_iff : s.divEff = true ↔ bit s.pmu.pmcr 3 = true ∧ s.lcEff = false := by
  have haa32 : s.lcEff = false → s.has .AA32 = true := fun h => by
    by_contra hno
    rw [lcEff_iff.mpr (.inl (by simpa using hno))] at h
    cases h
  simp only [State.divEff, Bool.and_eq_true, Bool.not_eq_true']
  tauto

theorem secureOrEL3_iff : c.secureOrEL3 = true ↔ c.ss = .secure ∨ c.el = .el3 := by simp [Context.secureOrEL3]

theorem frozenForCC_iff : s.frozenForCC = true ↔
    s.frozenByFzoFirst = true ∨ s.has .SPE_DPFZS = true ∧ s.frozenByFzsFirst = true := by
  simp [State.frozenForCC]

theorem ccCounts_iff : s.ccCounts c = true ↔ bit s.pmu.pmcr 0 = true ∧ bit s.pmu.pmcnten 31 = true ∧
    filtered s.cfg s.cfg.reserved.vsCycle s.pmu.pmccfiltr c = false ∧
    ¬(s.cfg.hasDP = true ∧ bit s.pmu.pmcr 5 = true ∧ (s.prohibitedFirst c = true ∨ s.frozenForCC = true)) ∧
    ¬(s.has .PMUv3p5 = true ∧ s.haveEL2 = true ∧ bit s.mdcrEl2 23 = true ∧ c.el = .el2) ∧
    ¬(s.has .PMUv3p5 = true ∧ s.haveEL3 = true ∧ bit s.mdcrEl3 23 = true ∧ c.secureOrEL3 = true) ∧
    ¬(s.has .PMUv3p7 = true ∧ s.haveEL3 = true ∧ bit s.mdcrEl3 34 = true ∧ c.el = .el3) := by
  simp only [State.ccCounts, ← Bool.not_eq_true, Bool.and_eq_true, Bool.not_eq_true', Bool.or_eq_true, beq_iff_eq,
    and_assoc]

theorem evEnabled_iff : s.evEnabled n = true ↔ n < s.numSelfHosted ∧ bit s.pmu.pmcnten n = true ∧
    (if n < s.hpmnEff then bit s.pmu.pmcr 0 else bit s.mdcrEl2 7) = true := by
  simp only [State.evEnabled, Bool.and_eq_true, decide_eq_true_eq, firstRange_iff, and_assoc]

theorem evCounts_iff : s.evCounts n c = true ↔ n < s.numSelfHosted ∧ bit s.pmu.pmcnten n = true ∧
    (if n < s.hpmnEff then bit s.pmu.pmcr 0 else bit s.mdcrEl2 7) = true ∧
    filtered s.cfg s.cfg.reserved.vsEvent (s.evtyper n) c = false ∧
    (if n < s.hpmnEff then s.prohibitedFirst c = false ∧ s.frozenByFzoFirst = false ∧ s.frozenByFzsFirst = false
      else s.prohibitedSecond c = false ∧ s.frozenByFzoSecond = false ∧ s.frozenByFzsSecond = false) := by
  simp only [State.evCounts, Bool.and_eq_true, evEnabled_iff, firstRange_iff, Bool.not_eq_true', and_assoc]
  split <;> simp

theorem icCounts_iff : s.icCounts c = true ↔ s.has .PMUv3_ICNTR = true ∧ bit s.pmu.pmcr 0 = true ∧
    bit s.pmu.pmcnten 32 = true ∧ s.prohibitedFirst c = false ∧ s.frozenByFzoFirst = false ∧
    s.frozenByFzsFirst = false ∧ filtered s.cfg s.cfg.reserved.vsInstr s.pmu.pmicfiltr c = false := by
  simp only [State.icCounts, Bool.and_eq_true, Bool.not_eq_true', Bool.or_eq_false_iff, and_assoc]

end

/-! ## Overflow (R808) -/

/-- One more overflows exactly where all bits of the width are 1. -/
theorem overflows_one_iff {w : Nat} {old : Word} : overflows w old 1 = true ↔ old.toNat % 2 ^ w = 2 ^ w - 1 := by
  have hpos := Nat.two_pow_pos w
  have hlt := Nat.mod_lt old.toNat hpos
  simp only [overflows, Bool.and_eq_true, decide_eq_true_eq, le_refl, true_and]
  omega

theorem overflows_one_64 (old : Word) : overflows 64 old 1 = (old == BitVec.allOnes 64) := by
  rw [Bool.eq_iff_iff, overflows_one_iff, beq_iff_eq, Nat.mod_eq_of_lt old.isLt, ← BitVec.toNat_inj,
    BitVec.toNat_allOnes]

theorem overflows_one_32 (old : Word) : overflows 32 old 1 = (field old 0 32 == BitVec.allOnes 32) := by
  rw [Bool.eq_iff_iff, overflows_one_iff, beq_iff_eq, ← BitVec.toNat_inj, BitVec.toNat_allOnes, field,
    BitVec.extractLsb'_toNat, Nat.shiftRight_zero]

theorem overflows_zero (w : Nat) (old : Word) : overflows w old 0 = false := rfl

/-! ## The cycle counter (R120, R324) -/

section
variable {s : State} (counts : Bool)

/-- The cycle counter advances: a counted cycle, with the divide-by-64 one whose phase wraps. -/
def State.cycleAdvances (s : State) (counts : Bool) : Bool := counts && (!s.divEff || s.pmu.divPhase == 63)

theorem stepCycle_pmccntr : (stepCycle counts s).pmu.pmccntr =
    if s.cycleAdvances counts then s.pmu.pmccntr + 1 else s.pmu.pmccntr := rfl

theorem stepCycle_divPhase : (stepCycle counts s).pmu.divPhase =
    if s.phaseAdvances counts then s.pmu.divPhase + 1 else s.pmu.divPhase := rfl

@[simp] theorem stepCycle_divEff : (stepCycle counts s).divEff = s.divEff := rfl

end

/-! ## The event counters (R121, R125) -/

section
variable {s : State} {c : Context} {o : Occurrences} {n : Nat}

/-- What `V[n-1]` is for counter `n`. -/
def State.vBefore (s : State) (c : Context) (o : Occurrences) (n : Nat) : Nat := if n = 0 then 0 else s.v c o (n - 1)

theorem v_eq (s : State) (c : Context) (o : Occurrences) (n : Nat) : s.v c o n =
    if s.evCounts n c then thresholdV s.cfg n (s.evtyper n) (s.vb o n) (s.vBefore c o n)
      (arrayGet s.pmu.edgePrev n false) else 0 := by
  cases n <;> rfl

theorem v_of_not_evCounts (h : s.evCounts n c = false) : s.v c o n = 0 := by simp [v_eq, h]

theorem lt_numSelfHosted_of_v_ne_zero (h : s.v c o n ≠ 0) : n < s.numSelfHosted := by
  by_contra hn
  refine h (v_of_not_evCounts ?_)
  rw [← Bool.not_eq_true, evCounts_iff]
  exact fun hcounts => hn hcounts.1

end

/-! ## The parts of a tick one after another (R125) -/

section
variable {s s' : State} (hcfg : s'.cfg = s.cfg) (hinp : s'.inp = s.inp) (hmdcr2 : s'.mdcrEl2 = s.mdcrEl2)
  (hmdcr3 : s'.mdcrEl3 = s.mdcrEl3)
include hcfg hinp hmdcr2 hmdcr3

theorem profilingEnabled_congr (hpmecr : s'.pmu.pmecr = s.pmu.pmecr) : s'.profilingEnabled = s.profilingEnabled := by
  simp only [State.profilingEnabled, State.pmeeEff, State.has, State.haveEL2, State.haveEL3, State.el2Enabled, hcfg, hinp,
    hmdcr2, hmdcr3, hpmecr]
  rfl

theorem lcEff_congr (hpmecr : s'.pmu.pmecr = s.pmu.pmecr) (hpmcr : s'.pmu.pmcr = s.pmu.pmcr) : s'.lcEff = s.lcEff := by
  simp only [State.lcEff, State.has, profilingEnabled_congr hcfg hinp hmdcr2 hmdcr3 hpmecr, hcfg, hpmcr]

omit hinp in
/-- The event counts are those of the event types (R121). -/
theorem recordEdges_congr (o : Occurrences) (htyper : s'.pmu.pmevtyper = s.pmu.pmevtyper) :
    (recordEdges o s').pmu.edgePrev = (recordEdges o s).pmu.edgePrev := by
  simp only [recordEdges, State.vb, State.mtEff, State.mtpmeEff, State.evtyper, State.has, State.haveEL3, hcfg, hmdcr2,
    hmdcr3, htyper]
  rfl

end

section
variable (d : Nat → Nat) (counts : Bool) (o : Occurrences) (k : Nat) (s : State)

/-- The cycle counter's part of a tick. -/
theorem stepCycle_pmu : (stepCycle counts s).pmu = { s.pmu with
    pmccntr := if s.cycleAdvances counts then s.pmu.pmccntr + 1 else s.pmu.pmccntr
    divPhase := if s.phaseAdvances counts then s.pmu.divPhase + 1 else s.pmu.divPhase
    pmovs := s.pmu.pmovs ||| bitIf 31 (s.cycleAdvances counts && overflows s.cycleOvfWidth s.pmu.pmccntr 1) } := rfl

/-- The instruction counter's part of a tick. -/
theorem addInstructions_pmu : (addInstructions k s).pmu = { s.pmu with
    pmicntr := s.pmu.pmicntr + BitVec.ofNat 64 k
    pmovs := s.pmu.pmovs ||| bitIf 32 (overflows 64 s.pmu.pmicntr k) } := rfl

/-- The edge history's part of a tick. -/
theorem recordEdges_pmu : (recordEdges o s).pmu = { s.pmu with edgePrev := (recordEdges o s).pmu.edgePrev } := rfl

theorem cycleAdvances_addToCounters : (addToCounters d s).cycleAdvances counts = s.cycleAdvances counts := by
  have hlc : (addToCounters d s).lcEff = s.lcEff := lcEff_congr (by simp) (by simp) (by simp) (by simp) (by rw [addToCounters_pmu]) (by rw [addToCounters_pmu])
  rw [State.cycleAdvances, State.cycleAdvances, State.divEff, State.divEff, hlc, State.has, State.has, addToCounters_cfg,
    addToCounters_pmu]

theorem cycleOvfWidth_addToCounters : (addToCounters d s).cycleOvfWidth = s.cycleOvfWidth := by
  have hlc : (addToCounters d s).lcEff = s.lcEff := lcEff_congr (by simp) (by simp) (by simp) (by simp) (by rw [addToCounters_pmu]) (by rw [addToCounters_pmu])
  rw [State.cycleOvfWidth, hlc, State.cycleOvfWidth]

end

section
variable (s : State) (c : Context) (o : Occurrences) (k : Nat)

/-- The PMU registers after a tick, each from the state at its start (R125). -/
theorem tick_pmu : (tick c o k s).pmu = { s.pmu with
    pmccntr := if s.cycleAdvances (s.ccCounts c) then s.pmu.pmccntr + 1 else s.pmu.pmccntr
    divPhase := if s.phaseAdvances (s.ccCounts c) then s.pmu.divPhase + 1 else s.pmu.divPhase
    pmevcntr := (addToCounters (s.v c o) s).pmu.pmevcntr
    pmicntr := if s.icCounts c then s.pmu.pmicntr + BitVec.ofNat 64 k else s.pmu.pmicntr
    pmovs := (addToCounters (s.v c o) s).pmu.pmovs |||
      bitIf 31 (s.cycleAdvances (s.ccCounts c) && overflows s.cycleOvfWidth s.pmu.pmccntr 1) |||
      bitIf 32 (s.icCounts c && overflows 64 s.pmu.pmicntr k)
    edgePrev := (recordEdges o s).pmu.edgePrev } := by
  have hphase : (addToCounters (s.v c o) s).phaseAdvances (s.ccCounts c) = s.phaseAdvances (s.ccCounts c) := by
    rw [State.phaseAdvances, addToCounters_cfg, State.phaseAdvances]
  have hedges : (recordEdges o (stepCycle (s.ccCounts c) (addToCounters (s.v c o) s))).pmu.edgePrev =
      (recordEdges o s).pmu.edgePrev :=
    recordEdges_congr (by simp) (by simp) (by simp) o (by rw [stepCycle_pmu, addToCounters_pmu])
  have hrec := recordEdges_pmu o (stepCycle (s.ccCounts c) (addToCounters (s.v c o) s))
  rw [hedges, stepCycle_pmu, cycleAdvances_addToCounters, cycleOvfWidth_addToCounters, hphase,
    addToCounters_pmu] at hrec
  simp only [tick]
  cases hic : s.icCounts c with
  | false => 
    rw [if_neg Bool.false_ne_true, if_neg Bool.false_ne_true, hrec]
    simp [bitIf]
  | true =>
    rw [if_pos rfl, if_pos rfl, addInstructions_pmu, hrec]
    simp

theorem tick_pmccntr : (tick c o k s).pmu.pmccntr =
    if s.cycleAdvances (s.ccCounts c) then s.pmu.pmccntr + 1 else s.pmu.pmccntr := by rw [tick_pmu]

theorem tick_divPhase : (tick c o k s).pmu.divPhase =
    if s.phaseAdvances (s.ccCounts c) then s.pmu.divPhase + 1 else s.pmu.divPhase := by rw [tick_pmu]

theorem tick_pmicntr : (tick c o k s).pmu.pmicntr =
    if s.icCounts c then s.pmu.pmicntr + BitVec.ofNat 64 k else s.pmu.pmicntr := by rw [tick_pmu]

theorem tick_evcntr (n : Nat) : (tick c o k s).evcntr n = (addToCounters (s.v c o) s).evcntr n := by
  rw [State.evcntr, tick_pmu, State.evcntr]

theorem tick_edgePrev {n : Nat} (hn : n < 31) : arrayGet (tick c o k s).pmu.edgePrev n false =
    thresholdCmp (thresholdTC s.cfg n (s.evtyper n)) (thresholdTH s.cfg (s.evtyper n)) (s.vb o n) := by
  rw [tick_pmu]
  exact arrayGet_ofFn _ n false hn

theorem bit_tick_pmovs_31 : bit (tick c o k s).pmu.pmovs 31 = (bit s.pmu.pmovs 31 ||
    (s.cycleAdvances (s.ccCounts c) && overflows s.cycleOvfWidth s.pmu.pmccntr 1)) := by
  rw [tick_pmu]
  simp only [bit_or, bit_pmovs_addToCounters, bit_bitIf 31 (show 31 < 64 by decide), bit_bitIf 32 (show 32 < 64 by decide)]
  simp

variable {s c o k} {n : Nat}

theorem tick_evcntr_of_not_evCounts (hn : n < 31) (h : s.evCounts n c = false) :
    (tick c o k s).evcntr n = s.evcntr n := by
  rw [tick_evcntr, evcntr_addToCounters _ _ hn, if_pos (v_of_not_evCounts h)]

theorem tick_pmicntr_of_not_icCounts (h : s.icCounts c = false) : (tick c o k s).pmu.pmicntr = s.pmu.pmicntr := by
  simp [tick_pmicntr, h]

theorem cycleAdvances_of_not_counts (h : s.ccCounts c = false) : s.cycleAdvances (s.ccCounts c) = false := by
  simp [State.cycleAdvances, h]

theorem tick_pmccntr_of_not_ccCounts (h : s.ccCounts c = false) : (tick c o k s).pmu.pmccntr = s.pmu.pmccntr := by
  simp [tick_pmccntr, cycleAdvances_of_not_counts h]

end

end Sys2Proof.Machine

namespace Sys2Proof.Machine

/-! ## The cycle counter over one tick and over many (R54, R120, R324, R472) -/

section
variable {s : State} {c : Context}

theorem phaseAdvances_iff {counts : Bool} :
    s.phaseAdvances counts = true ↔ counts = true ∨ s.cfg.dividerReading = .everyTick := by
  simp [State.phaseAdvances]

theorem cycleAdvances_of_not_divEff (h : s.divEff = false) (counts : Bool) : s.cycleAdvances counts = counts := by
  simp [State.cycleAdvances, h]

theorem cycleAdvances_of_divEff (h : s.divEff = true) (counts : Bool) :
    s.cycleAdvances counts = (counts && s.pmu.divPhase == 63) := by
  simp [State.cycleAdvances, h]

theorem overflows_cycleOvfWidth (old : Word) : overflows s.cycleOvfWidth old 1 =
    if s.lcEff then old == BitVec.allOnes 64 else field old 0 32 == BitVec.allOnes 32 := by
  unfold State.cycleOvfWidth
  split
  · exact overflows_one_64 old
  · exact overflows_one_32 old

end

/-- Settles O50: the counter advances by one or not at all, and sets its flag only where it advances. -/
theorem tickCountsTheCycle : Obligations.TickCountsTheCycle := by
  intro s c o k
  refine ⟨?counts, lcEff_iff, divEff_iff, fun hcc => ⟨tick_pmccntr_of_not_ccCounts hcc, ?still⟩, ?phase,
    fun hcc hdiv => ?undivided, fun hcc hdiv => ?divided, fun hcc hdiv hphase => ?noWrap, fun hcc hadv => ?flag⟩
  case counts => rw [ccCounts_iff, frozenForCC_iff, secureOrEL3_iff]
  case still => rw [bit_tick_pmovs_31, cycleAdvances_of_not_counts hcc, Bool.false_and, Bool.or_false]
  case phase => simp only [tick_divPhase, phaseAdvances_iff]
  case undivided => rw [tick_pmccntr, cycleAdvances_of_not_divEff hdiv, if_pos hcc]
  case divided =>
    rw [tick_pmccntr, cycleAdvances_of_divEff hdiv, hcc, Bool.true_and]
    simp only [beq_iff_eq]
  case noWrap =>
    rw [bit_tick_pmovs_31, cycleAdvances_of_divEff hdiv, beq_false_of_ne hphase, Bool.and_false, Bool.false_and,
      Bool.or_false]
  case flag =>
    have hinc : s.cycleAdvances (s.ccCounts c) = true := by
      obtain hdiv | hphase := hadv <;> simp [State.cycleAdvances, *]
    rw [bit_tick_pmovs_31, hinc, Bool.true_and, overflows_cycleOvfWidth]

/-- The state after a sequence of ticks of the cycle counter, each of which counts it or not. -/
def stepCycles (s : State) (l : List Bool) : State := l.foldl (fun u counts => stepCycle counts u) s

section
variable {s : State}

theorem stepCycles_cons (counts : Bool) (l : List Bool) :
    stepCycles s (counts :: l) = stepCycles (stepCycle counts s) l := rfl

theorem stepCycles_divPhase (l : List Bool) : (stepCycles s l).pmu.divPhase = s.pmu.divPhase +
    BitVec.ofNat 6 (if s.cfg.dividerReading = .everyTick then l.length else l.count true) := by
  induction l generalizing s with
  | nil => simp [stepCycles]
  | cons counts l ih =>
    rw [stepCycles_cons, ih, stepCycle_divPhase, stepCycle_cfg]
    by_cases hread : s.cfg.dividerReading = .everyTick
    · rw [if_pos (phaseAdvances_iff.mpr (.inr hread)), if_pos hread, if_pos hread, List.length_cons, BitVec.add_assoc,
        Nat.add_comm, BitVec.ofNat_add]
      rfl
    · cases counts with
      | false => simp [State.phaseAdvances, hread]
      | true =>
        rw [if_pos (phaseAdvances_iff.mpr (.inl rfl)), if_neg hread, if_neg hread, List.count_cons_self,
          BitVec.add_assoc, Nat.add_comm, BitVec.ofNat_add]
        rfl

/-- Without the divide-by-64 the counter counts the counted cycles. -/
theorem stepCycles_pmccntr_undivided (hdiv : s.divEff = false) (l : List Bool) :
    (stepCycles s l).pmu.pmccntr = s.pmu.pmccntr + BitVec.ofNat 64 (l.count true) := by
  induction l generalizing s with
  | nil => simp [stepCycles]
  | cons counts l ih =>
    rw [stepCycles_cons, ih (stepCycle_divEff counts ▸ hdiv), stepCycle_pmccntr, cycleAdvances_of_not_divEff hdiv]
    cases counts with
    | false => simp
    | true =>
      rw [if_pos rfl, List.count_cons_self, BitVec.add_assoc, Nat.add_comm, BitVec.ofNat_add]
      rfl

/-- With it, counted cycles in a row advance the counter once for each time that the phase reaches 64. -/
theorem stepCycles_pmccntr_divided (hdiv : s.divEff = true) (n : Nat) :
    (stepCycles s (List.replicate n true)).pmu.pmccntr =
      s.pmu.pmccntr + BitVec.ofNat 64 ((s.pmu.divPhase.toNat + n) / 64) := by
  induction n generalizing s with
  | zero =>
    rw [Nat.add_zero, Nat.div_eq_of_lt s.pmu.divPhase.isLt]
    exact (BitVec.add_zero _).symm
  | succ n ih =>
    have hphase : (stepCycle true s).pmu.divPhase = s.pmu.divPhase + 1 := rfl
    have hlt : s.pmu.divPhase.toNat < 64 := s.pmu.divPhase.isLt
    rw [List.replicate_succ, stepCycles_cons, ih (stepCycle_divEff true ▸ hdiv), hphase, stepCycle_pmccntr,
      cycleAdvances_of_divEff hdiv, Bool.true_and]
    by_cases hwrap : s.pmu.divPhase = 63
    · have hn : (63 + (n + 1)) / 64 = 1 + n / 64 := by omega
      rw [hwrap, if_pos (by decide), BitVec.add_assoc]
      change s.pmu.pmccntr + (1 + BitVec.ofNat 64 ((0 + n) / 64)) = _ + BitVec.ofNat 64 ((63 + (n + 1)) / 64)
      rw [hn, BitVec.ofNat_add, Nat.zero_add]
      rfl
    · have hne : s.pmu.divPhase.toNat ≠ 63 := fun h => hwrap (BitVec.eq_of_toNat_eq h)
      have hnext : (s.pmu.divPhase + 1).toNat = s.pmu.divPhase.toNat + 1 := by
        rw [BitVec.toNat_add]
        exact Nat.mod_eq_of_lt (show s.pmu.divPhase.toNat + 1 < 2 ^ 6 by omega)
      rw [beq_false_of_ne hwrap, if_neg Bool.false_ne_true, hnext, Nat.add_right_comm, Nat.add_assoc]

end

/-- Settles O51: by induction over the ticks; 64 counted cycles bring the phase to 64 once from anywhere below. -/
theorem dividedCyclesCountOnceInSixtyFour : Obligations.DividedCyclesCountOnceInSixtyFour := by
  rintro s t l rfl
  refine ⟨stepCycles_divPhase l, fun hdiv => stepCycles_pmccntr_undivided hdiv l, ?_⟩
  rintro hdiv rfl
  constructor
  · refine (stepCycles_divPhase _).trans ?_
    simp
  · have honce : (s.pmu.divPhase.toNat + 64) / 64 = 1 := by
      have := s.pmu.divPhase.isLt
      omega
    refine (stepCycles_pmccntr_divided hdiv 64).trans ?_
    rw [honce]
    rfl

/-! ## Hardware additions (R112, R468, R552, R808) -/

section
variable {s : State} {n : Nat}

/-- A sum modulo the width of an event counter. -/
theorem evcntr_addToCounters_eq (d : Nat → Nat) (s : State) (hn : n < 31) : (addToCounters d s).evcntr n =
    if d n = 0 then s.evcntr n else
      BitVec.ofNat 64 (((s.evcntr n).toNat + d n) % 2 ^ (if s.has .PMUv3p5 then 64 else 32)) := by
  rw [evcntr_addToCounters d s hn, counterMask_eq, add_and_onesWord (counterBits_le s)]

theorem eventOvfWidth_of_profiling (h5 : s.has .PMUv3p5 = true) (h : s.profilingEnabled = true) :
    s.eventOvfWidth n = 64 := by
  simp [State.eventOvfWidth, h5, h, State.lpEff, State.hlpEff]

theorem eventOvfWidth_of_not_profiling (h5 : s.has .PMUv3p5 = true) (h : s.profilingEnabled = false) :
    s.eventOvfWidth n = if n < s.hpmnEff ∧ bit s.pmu.pmcr 7 = false then 32
      else if s.hpmnEff ≤ n ∧ n < s.numSelfHosted ∧ bit s.mdcrEl2 26 = false then 32 else 64 := by
  simp [State.eventOvfWidth, h5, h, State.lpEff, State.hlpEff, firstRange_iff, secondRange_iff, and_assoc]

/-- The width at which each event counter overflows (R808). -/
theorem eventOvfWidth_eq (s : State) (n : Nat) : s.eventOvfWidth n =
    if s.has .PMUv3p5 = false then 32 else if s.has .EBEP = true ∧ s.pmeeEff = 3 then 64
      else if n < s.hpmnEff ∧ bit s.pmu.pmcr 7 = false then 32
      else if s.hpmnEff ≤ n ∧ n < s.numSelfHosted ∧ bit s.mdcrEl2 26 = false then 32 else 64 := by
  cases h5 : s.has .PMUv3p5 with
  | false => simp [State.eventOvfWidth, h5]
  | true =>
    simp only [← profilingEnabled_iff, Bool.true_eq_false, if_false]
    cases h : s.profilingEnabled with
    | true => exact eventOvfWidth_of_profiling h5 h
    | false => exact eventOvfWidth_of_not_profiling h5 h

end

/-- Settles O52: the event counters and their flags are all that the addition reaches. -/
theorem hardwareAdditionSetsOverflowFlag : Obligations.HardwareAdditionSetsOverflowFlag := by
  intro s d n hn
  refine ⟨evcntr_addToCounters_eq d s hn, ?flag, eventOvfWidth_eq s n, ?cycleFlag, ?instrFlag, rfl⟩
  case flag => rw [bit_pmovs_addToCounters, decide_eq_true hn, Bool.true_and, overflows]
  case cycleFlag => simp [bit_pmovs_addToCounters]
  case instrFlag => simp [bit_pmovs_addToCounters]

/-! ## The instruction counter (R122, R692) -/

section
variable (s : State) (k : Nat)

/-- The carry out of adding `k + 1` is that of adding `k` or that of adding 1 to the sum. -/
theorem overflows_64_succ (x : Word) : overflows 64 x (k + 1) =
    (overflows 64 x k || overflows 64 (x + BitVec.ofNat 64 k) 1) := by
  have hx := x.isLt
  have hsum : (x + BitVec.ofNat 64 k).toNat = (x.toNat + k) % 2 ^ 64 := by simp [BitVec.toNat_add]
  rw [Bool.eq_iff_iff, Bool.or_eq_true, overflows_one_iff, hsum]
  simp only [overflows, Bool.and_eq_true, decide_eq_true_eq, Nat.mod_eq_of_lt hx, Nat.mod_mod]
  omega

theorem addInstructions_zero : addInstructions 0 s = s := by
  simp [addInstructions, overflows, bitIf]

theorem bitIf_or (i : Nat) (a b : Bool) : bitIf i (a || b) = bitIf i a ||| bitIf i b := by
  cases a <;> cases b <;> simp [bitIf]

theorem addInstructions_succ : addInstructions (k + 1) s = addInstructions 1 (addInstructions k s) := by
  simp only [addInstructions]
  rw [overflows_64_succ, bitIf_or, BitVec.ofNat_add, ← BitVec.add_assoc, ← BitVec.or_assoc]

theorem addInstructions_eq_iterate : addInstructions k s = (addInstructions 1)^[k] s := by
  induction k with
  | zero => exact addInstructions_zero s
  | succ k ih => rw [addInstructions_succ, ih, Function.iterate_succ_apply']

end

/-- Settles O55: by induction over the instructions. -/
theorem instructionCounterCountsOneByOne : Obligations.InstructionCounterCountsOneByOne := by
  refine ⟨addInstructions_eq_iterate, fun s => ⟨rfl, ?flag⟩, fun s c o k => ⟨icCounts_iff,
    tick_pmicntr_of_not_icCounts, fun hic => ?counted⟩⟩
  case flag =>
    rw [addInstructions_pmu, bit_or, bit_bitIf 32 (by decide), overflows_one_64, decide_eq_true rfl, Bool.and_true]
  case counted => rw [tick_pmicntr, if_pos hic]

end Sys2Proof.Machine

namespace Sys2Proof.Machine

/-! ## What an event counter adds (R121, R584, R585, R604, R606) -/

section
variable {s : State} {o : Occurrences} {n : Nat} {f : Word} {c : Config}

theorem evtCount_eq (c : Config) (f : Word) : c.evtCount f = fieldNat f 0 (if c.has .PMUv3p1 then 16 else 10) := by
  unfold Config.evtCount
  split <;> rfl

theorem protectedEvent_iff {e : Nat} : c.protectedEvent e = true ↔
    e < 0x40 ∨ c.has .PMUv3p1 = true ∧ 0x4000 ≤ e ∧ e < 0x4040 := by
  simp [Config.protectedEvent, and_assoc]

/-- `VB[n]` by whether the PE counts the event, counts none, or counts the implementation's event in its place. -/
theorem vb_eq {e : Nat} {occ : Nat → Nat} (he : e = s.cfg.evtCount (s.evtyper n))
    (hocc : occ = fun e => occurrences o.own e + (if s.mtEff (s.evtyper n) then occurrences o.others e else 0)) :
    s.vb o n = if s.cfg.supported e then occ e
      else if s.cfg.has .PMUv3p8 = true ∨ s.cfg.protectedEvent e = true then 0
      else match unsupportedCounted s.cfg.unsupportedEvents e with | some e' => occ e' | none => 0 := by
  have hvb : s.vb o n = (match s.cfg.countedEvent e with | none => 0 | some e => occ e) := by rw [he, hocc]; rfl
  rw [hvb, Config.countedEvent]
  by_cases hsup : s.cfg.supported e = true
  · rw [if_pos hsup, if_pos hsup]
  · rw [if_neg hsup, if_neg hsup]
    simp only [Bool.or_eq_true]
    by_cases hno : s.cfg.has .PMUv3p8 = true ∨ s.cfg.protectedEvent e = true
    · rw [if_pos hno, if_pos hno]
    · rw [if_neg hno, if_neg hno]
      cases unsupportedCounted s.cfg.unsupportedEvents e <;> rfl

/-- The comparison that TC[2:1] selects. -/
theorem thresholdCmp_eq (tc : BitVec 3) (th v : Nat) : thresholdCmp tc th v =
    if tc.toNat / 2 = 0 then decide (v ≠ th) else if tc.toNat / 2 = 1 then decide (v = th)
    else if tc.toNat / 2 = 2 then decide (th ≤ v) else decide (v < th) := by
  unfold thresholdCmp
  split <;> simp_all

theorem tlcEff_of_allocated {tlc : BitVec 2} (htlc : tlc = if c.hasTLC n then field f 54 2 else 0) (hne : tlc ≠ 3) :
    c.tlcEff n f = tlc := by
  cases hlink : c.hasTLC n with
  | false => simp [Config.tlcEff, hlink, htlc]
  | true =>
    rw [hlink, if_pos rfl] at htlc
    subst htlc
    simp only [Config.tlcEff, hlink, Bool.not_true, Bool.false_eq_true, if_false, beq_false_of_ne hne]

/-- A TC field of which no form holds is one of the link form with TLC = 0b11. -/
theorem tcRes0_of_allocated {tlc : BitVec 2} (htlc : tlc = if c.hasTLC n then field f 54 2 else 0) (hne : tlc ≠ 3) :
    c.tcRes0 n f = false := by
  cases hlink : c.hasTLC n with
  | false => simp [Config.tcRes0, hlink]
  | true =>
    rw [hlink, if_pos rfl] at htlc
    subst htlc
    rw [Config.tcRes0, beq_false_of_ne hne, Bool.and_false]

/-- The even values are the allocated ones of the link form (R584). -/
theorem tcLinkEff_of_even (h : bit f 61 = false) : c.tcLinkEff f = field f 61 3 := by
  have hodd : ∀ v : BitVec 3, v.getLsbD 0 = true → field f 61 3 ≠ v := by
    rintro v hv rfl
    rw [getLsbD_field, Nat.add_zero, h, Bool.and_false] at hv
    cases hv
  simp only [Config.tcLinkEff, beq_false_of_ne (hodd 1 rfl), beq_false_of_ne (hodd 3 rfl), beq_false_of_ne (hodd 5 rfl),
    beq_false_of_ne (hodd 7 rfl), Bool.false_eq_true, if_false]

/-- Where neither TC nor TLC holds a reserved value, TC acts as it is stored. -/
theorem thresholdTC_of_allocated {tlc : BitVec 2} (htlc : tlc = if c.hasTLC n then field f 54 2 else 0) (hne : tlc ≠ 3)
    (h : tcReserved c n f = false) : thresholdTC c n f = field f 61 3 := by
  rw [thresholdTC, tlcEff_of_allocated htlc hne, tcRes0_of_allocated htlc hne]
  unfold tcReserved at h
  split at h <;> rename_i hedge
  · obtain ⟨h0, h4⟩ := Bool.or_eq_false_iff.mp h
    simp only [hedge, if_true, Config.tcEdgeEff, h0, h4, Bool.false_eq_true, if_false]
  · rw [if_neg hedge, if_neg Bool.false_ne_true]
    split <;> rename_i hlink
    · refine tcLinkEff_of_even ?_
      rw [beq_iff_eq] at hlink
      cases htc : c.hasTLC n with
      | false => rw [htlc, htc] at hlink; cases hlink
      | true =>
        rw [htc, if_pos rfl, hlink] at htlc
        simpa [htc, ← htlc] using h
    · rfl

/-- The change of the comparison that the edge form counts: to true, or in either direction (R585). -/
theorem thresholdEdge_eq (tc : BitVec 3) (prev now : Bool) :
    thresholdEdge tc prev now = if tc.getLsbD 0 then now && !prev else now != prev := rfl

/-- `V[n]` with FEAT_PMUv3_TH, by its three forms (R606). -/
theorem thresholdV_eq {vb vPrev : Nat} {prev edge cmp : Bool} {tlc : BitVec 2} {tc : BitVec 3}
    (hth : c.has .PMUv3_TH = true) (hedge : edge = (c.has .PMUv3_EDGE && bit f 60)) (htlc : c.tlcEff n f = tlc)
    (htc : thresholdTC c n f = tc) (hcmp : thresholdCmp tc (thresholdTH c f) vb = cmp) :
    thresholdV c n f vb vPrev prev =
      if edge then
        if (if tc.getLsbD 0 then cmp && !prev else cmp != prev) then (if tlc = 2 then vPrev else 1) else 0
      else if tlc = 2 then (if cmp then vPrev else 0)
      else if cmp then (if tc.getLsbD 0 then 1 else vb)
      else if tlc = 1 then vPrev else 0 := by
  subst hcmp htc htlc hedge
  simp only [thresholdV, hth, thresholdEdge_eq, beq_iff_eq]
  cases c.has .PMUv3_EDGE && bit f 60 <;> rfl

theorem thresholdV_of_not_has_th {vb vPrev : Nat} {prev : Bool} (h : c.has .PMUv3_TH = false) :
    thresholdV c n f vb vPrev prev = vb := by
  simp [thresholdV, h]

end

/-- Settles O53: what a counter adds is the output of the threshold function of its own comparison and of `V[n-1]`. -/
theorem eventCountersCountTheirEvent : Obligations.EventCountersCountTheirEvent := by
  intro s c o k n hn
  refine ⟨?sum, evCounts_iff, ?base, v_of_not_evCounts, fun hcounts hth => ?plain, fun hth htc => ?threshold⟩
  case sum => rw [tick_evcntr, evcntr_addToCounters_eq _ _ hn]
  case base =>
    rintro e mtpme mt occ rfl rfl rfl rfl
    rw [vb_eq (evtCount_eq s.cfg (s.evtyper n)).symm rfl]
    simp only [protectedEvent_iff]
    rfl
  case plain => rw [v_eq, if_pos hcounts, thresholdV_of_not_has_th hth]
  case threshold =>
    rintro link tlc tc edge cmp prev th vPrev rfl htlc hne rfl hedge rfl hcmp rfl rfl
    have hTC := thresholdTC_of_allocated htlc hne htc
    have hnow : thresholdCmp (field (s.evtyper n) 61 3) (thresholdTH s.cfg (s.evtyper n)) (s.vb o n) = cmp :=
      (thresholdCmp_eq _ _ _).trans hcmp.symm
    refine ⟨fun hcounts => ?_, by rw [tick_edgePrev s c o k hn, hTC, hnow]⟩
    rw [v_eq, if_pos hcounts]
    exact thresholdV_eq hth hedge (tlcEff_of_allocated htlc hne) hTC hnow

end Sys2Proof.Machine

namespace Sys2Proof.Machine

/-! ## Prohibited and frozen counting (R123, R124) -/

section
variable {s : State} {c : Context} {n : Nat}

theorem prohibitedFirst_iff : s.prohibitedFirst c = true ↔ s.inp.halted = true ∨
    (s.hpmdActive = true ∧ c.el = .el2) ∨ (s.mpmx = true ∧ c.el = .el3) ∨
    (s.mpmx = false ∧ s.spmeActive = true ∧ c.secureOrEL3 = true) := by
  simp [State.prohibitedFirst, or_assoc, and_assoc]

theorem prohibitedSecond_iff : s.prohibitedSecond c = true ↔ s.inp.halted = true ∨
    (s.mpmx = true ∧ c.el = .el3 ∧ (s.haveEL2 = false ∨ bit s.mdcrEl3 17 = false)) ∨
    (s.mpmx = false ∧ s.spmeActive = true ∧ c.secureOrEL3 = true) := by
  simp [State.prohibitedSecond, or_assoc, and_assoc]

/-- A flag freezes unless its counter, of filter register `f`, is in synchronous mode. -/
def State.asynchronous (s : State) (f : Word) : Prop := s.has .SEBEP = false ∨ bit f 58 = false

theorem ovfFreezes_iff {m : Nat} : s.ovfFreezes m = true ↔ bit s.pmu.pmovs m = true ∧ s.asynchronous (s.evtyper m) := by
  simp [State.ovfFreezes, State.asynchronous]

theorem frozenByFzoFirst_iff : s.frozenByFzoFirst = true ↔ s.has .PMUv3p7 = true ∧ bit s.pmu.pmcr 9 = true ∧
    ((∃ m < s.hpmnEff, bit s.pmu.pmovs m = true ∧ s.asynchronous (s.evtyper m)) ∨
      (s.has .PMUv3_ICNTR = true ∧ bit s.pmu.pmovs 32 = true ∧ s.asynchronous s.pmu.pmicfiltr)) := by
  have hany : (List.range 31).any (fun m => s.firstRange m && s.ovfFreezes m) = true ↔
      ∃ m < s.hpmnEff, bit s.pmu.pmovs m = true ∧ s.asynchronous (s.evtyper m) := by
    simp only [List.any_eq_true, List.mem_range, Bool.and_eq_true, firstRange_iff, ovfFreezes_iff]
    have hmax := (hpmnEff_le s).trans (numSelfHosted_le_31 s)
    exact ⟨fun ⟨m, _, h⟩ => ⟨m, h⟩, fun ⟨m, hm, h⟩ => ⟨m, by omega, hm, h⟩⟩
  simp only [State.frozenByFzoFirst, Bool.and_eq_true, Bool.or_eq_true, Bool.not_eq_true', hany, State.asynchronous,
    and_assoc]

theorem frozenByFzoSecond_iff : s.frozenByFzoSecond = true ↔ s.has .PMUv3p7 = true ∧ bit s.mdcrEl2 29 = true ∧
    ∃ m < s.numSelfHosted, s.hpmnEff ≤ m ∧ bit s.pmu.pmovs m = true ∧ s.asynchronous (s.evtyper m) := by
  have hany : (List.range 31).any (fun m => s.secondRange m && s.ovfFreezes m) = true ↔
      ∃ m < s.numSelfHosted, s.hpmnEff ≤ m ∧ bit s.pmu.pmovs m = true ∧ s.asynchronous (s.evtyper m) := by
    simp only [List.any_eq_true, List.mem_range, Bool.and_eq_true, secondRange_iff, ovfFreezes_iff]
    have hmax := numSelfHosted_le_31 s
    exact ⟨fun ⟨m, _, ⟨hlo, hhi⟩, h⟩ => ⟨m, hhi, hlo, h⟩, fun ⟨m, hhi, hlo, h⟩ => ⟨m, by omega, ⟨hlo, hhi⟩, h⟩⟩
  simp only [State.frozenByFzoSecond, Bool.and_eq_true, hany, and_assoc]

theorem frozenByFzsFirst_iff : s.frozenByFzsFirst = true ↔
    s.has .SPEv1p2 = true ∧ bit s.pmu.pmcr 32 = true ∧ s.inp.speFreeze = true := by
  simp [State.frozenByFzsFirst, and_assoc]

theorem frozenByFzsSecond_iff : s.frozenByFzsSecond = true ↔
    s.has .SPEv1p2 = true ∧ bit s.mdcrEl2 36 = true ∧ s.inp.speFreeze = true := by
  simp [State.frozenByFzsSecond, and_assoc]

/-! ## Counters that do not count (R120 to R122, R475, R1548) -/

theorem not_ccCounts_of_disabled (h : bit s.pmu.pmcr 0 = false) : s.ccCounts c = false := by
  rw [← Bool.not_eq_true, ccCounts_iff, h]
  exact fun hcounts => Bool.false_ne_true hcounts.1

theorem not_icCounts_of_disabled (h : bit s.pmu.pmcr 0 = false) : s.icCounts c = false := by
  rw [← Bool.not_eq_true, icCounts_iff, h]
  exact fun ⟨_, hen, _⟩ => Bool.false_ne_true hen

theorem not_evCounts_of_disabled (h : (if n < s.hpmnEff then bit s.pmu.pmcr 0 else bit s.mdcrEl2 7) = false) :
    s.evCounts n c = false := by
  rw [← Bool.not_eq_true, evCounts_iff, h]
  exact fun ⟨_, _, hen, _⟩ => Bool.false_ne_true hen

theorem not_icCounts_of_halted (h : s.inp.halted = true) : s.icCounts c = false := by
  rw [← Bool.not_eq_true, icCounts_iff, prohibitedFirst_iff.mpr (.inl h)]
  exact fun ⟨_, _, _, hprohibited, _⟩ => Bool.false_ne_true hprohibited.symm

theorem not_evCounts_of_halted (h : s.inp.halted = true) : s.evCounts n c = false := by
  rw [← Bool.not_eq_true, evCounts_iff, prohibitedFirst_iff.mpr (.inl h), prohibitedSecond_iff.mpr (.inl h)]
  rintro ⟨-, -, -, -, hprohibited⟩
  simp at hprohibited

end

/-! ## The filters (R314, R605, R675) -/

section
variable (c : Config) (f : Word) (ctx : Context)

/-- The Security states that have lines of their own in the filter. -/
def Context.nonSecureLine (ctx : Context) (c : Config) : Bool := ctx.ss == .nonSecure && c.haveEL3
def Context.realmLine (ctx : Context) (c : Config) : Bool := ctx.ss == .realm && c.has .RME
def Context.secureLine (ctx : Context) (c : Config) : Bool :=
  ctx.ss == .secure && c.haveEL3 && c.haveEL2 && c.haveSecureEL1 && c.has .SEL2

/-- The line of the Exception level. -/
def generalLine : Bool :=
  match ctx.el with
  | .el0 => bit f 30 | .el1 => bit f 31 | .el2 => c.haveEL2 && !bit f 27
  | .el3 => c.haveEL3 && bit f 26 != bit f 31

/-- The Exception level has a line for the Security state. -/
def hasSpecificLine : Bool :=
  match ctx.el with
  | .el0 | .el1 => ctx.nonSecureLine c || ctx.realmLine c
  | .el2 => c.haveEL2 && (ctx.secureLine c || ctx.realmLine c) | .el3 => false

/-- The line of the Security state. -/
def specificLine : Bool :=
  match ctx.el with
  | .el0 => bit f (if ctx.nonSecureLine c then 28 else 21) != bit f 30
  | .el1 => bit f (if ctx.nonSecureLine c then 29 else 22) != bit f 31
  | .el2 => bit f (if ctx.secureLine c then 24 else 20) == bit f 27 | .el3 => false

theorem secureLine_eq : ctx.secureLine c = (ctx.ss == .secure && c.hasSH) := by
  simp [Context.secureLine, Config.hasSH, Config.secureEL2, Bool.and_assoc]

theorem nonSecureLine_and_realmLine : (ctx.nonSecureLine c && ctx.realmLine c) = false := by
  cases hss : ctx.ss <;> simp [Context.nonSecureLine, Context.realmLine, hss]

theorem secureLine_and_realmLine : (ctx.secureLine c && ctx.realmLine c) = false := by
  cases hss : ctx.ss <;> simp [Context.secureLine, Context.realmLine, hss]

/-- Two lines of which one at most applies are one line. -/
theorem or_lines {a b : Bool} (h : (a && b) = false) (x p q : Bool) :
    (x || (a && p) || (b && q)) = (x || (a || b) && if a then p else q) := by
  revert a b x p q; decide

theorem ite_lines (a b x p q : Bool) :
    (if a then p else if b then q else x) = if (a || b) = true then (if a then p else q) else x := by
  revert a b x p q; decide

/-- Reading A: the line of the Security state is one more. -/
theorem filteredA_eq : filteredA c f ctx = (generalLine c f ctx || (hasSpecificLine c ctx && specificLine c f ctx)) := by
  unfold filteredA generalLine hasSpecificLine specificLine
  cases ctx.el with
  | el0 =>
    refine (or_lines (nonSecureLine_and_realmLine c ctx) _ _ _).trans ?_
    cases ctx.nonSecureLine c <;> rfl
  | el1 =>
    refine (or_lines (nonSecureLine_and_realmLine c ctx) _ _ _).trans ?_
    cases ctx.nonSecureLine c <;> rfl
  | el2 =>
    dsimp only
    rw [← secureLine_eq]
    cases c.haveEL2 with
    | false => rfl
    | true =>
      refine (or_lines (secureLine_and_realmLine c ctx) _ _ _).trans ?_
      cases ctx.secureLine c <;> rfl
  | el3 => simp

/-- Reading B: the line of the Security state replaces that of the Exception level. -/
theorem filteredB_eq : filteredB c f ctx =
    if hasSpecificLine c ctx = true then specificLine c f ctx else generalLine c f ctx := by
  unfold filteredB generalLine hasSpecificLine specificLine
  cases ctx.el with
  | el0 =>
    refine (ite_lines (ctx.nonSecureLine c) (ctx.realmLine c) _ _ _).trans ?_
    cases ctx.nonSecureLine c <;> rfl
  | el1 =>
    refine (ite_lines (ctx.nonSecureLine c) (ctx.realmLine c) _ _ _).trans ?_
    cases ctx.nonSecureLine c <;> rfl
  | el2 =>
    dsimp only
    rw [← secureLine_eq]
    cases c.haveEL2 with
    | false => rfl
    | true =>
      refine (ite_lines (ctx.secureLine c) (ctx.realmLine c) _ _ _).trans ?_
      cases ctx.secureLine c <;> rfl
  | el3 => rfl

theorem filteredVS_eq (chosen : BitVec 2) : filteredVS c chosen f ctx = (c.has .PMUv3_SME &&
    (if ctx.streaming then vsEff chosen f == 1 else vsEff chosen f == 2)) := by
  unfold filteredVS
  cases ctx.streaming <;> simp

/-- The filter by its lines, under either reading. -/
theorem filtered_eq (chosen : BitVec 2) : filtered c chosen f ctx = (filteredVS c chosen f ctx ||
    (match c.filterReading with
      | .disjunction => generalLine c f ctx || (hasSpecificLine c ctx && specificLine c f ctx)
      | .replacement => if hasSpecificLine c ctx then specificLine c f ctx else generalLine c f ctx)) := by
  rw [filtered, filteredA_eq, filteredB_eq]
  exact Bool.or_comm _ _

end

/-- Settles O54: a disabled or prohibited counter does not count, and the lines of R123, R124 and R314 are those of the
predicates. -/
theorem disabledCountersDoNotCount : Obligations.DisabledCountersDoNotCount := by
  intro s c o k
  refine ⟨fun hE => ⟨tick_pmccntr_of_not_ccCounts (not_ccCounts_of_disabled hE),
      tick_pmicntr_of_not_icCounts (not_icCounts_of_disabled hE), fun n hn => ?first⟩, fun hHPME n hn hlo => ?second,
    fun hhalted => ⟨tick_pmicntr_of_not_icCounts (not_icCounts_of_halted hhalted),
      fun n hn => tick_evcntr_of_not_evCounts hn (not_evCounts_of_halted hhalted)⟩, ?prohibited, ?frozen, ?filter⟩
  case first =>
    have hmax := (hpmnEff_le s).trans (numSelfHosted_le_31 s)
    exact tick_evcntr_of_not_evCounts (hn.trans_le hmax) (not_evCounts_of_disabled (by rw [if_pos hn, hE]))
  case second =>
    exact tick_evcntr_of_not_evCounts hn (not_evCounts_of_disabled (by rw [if_neg (Nat.not_lt.mpr hlo), hHPME]))
  case prohibited =>
    rintro hpmd spme mpmx secureOrEL3 rfl rfl rfl rfl
    exact ⟨prohibitedFirst_iff, prohibitedSecond_iff⟩
  case frozen =>
    intro asynchronous hasync
    obtain rfl : asynchronous = s.asynchronous := funext fun f => propext (hasync f)
    exact ⟨frozenByFzoFirst_iff, frozenByFzoSecond_iff, frozenByFzsFirst_iff, frozenByFzsSecond_iff⟩
  case filter =>
    rintro f v vs vsLine general specific line ns realm secure hvs rfl rfl rfl rfl rfl rfl rfl
    have hvsEff : vsEff v f = vs := by rw [hvs, vsEff]; simp only [beq_iff_eq]
    rw [filtered_eq, filteredVS_eq, hvsEff]
    rfl

end Sys2Proof.Machine

/-! The environment's step of a System PMU: when it is possible, what it changes, and the interrupt output. -/

namespace Sys2Proof.Machine

section
variable {s : State} {n k d : Nat} {p : SpmuConfig}

theorem bits_le (p : SpmuConfig) (k : Nat) : p.bits k ≤ 64 := (bits_le_size p k).trans (size_le p)

theorem lt_64_of_spmuCounterImplemented {c : Config} (h : c.spmuCounterImplemented n k = true) : k < 64 := by
  unfold Config.spmuCounterImplemented at h
  split at h
  · cases h
  · exact of_decide_eq_true (Bool.and_eq_true_iff.mp h).2

/-! ## When it is possible (R135, R1437) -/

/-- The observation controls, by the source of the event. -/
theorem spmuObservable_iff (hp : s.cfg.spmuConfig n = some p) (source : Option SecState) :
    s.spmuObservable n source = true ↔
      (source = some .secure → p.hasScr = true → bit (s.unit n).spmscr 0 = true) ∧
      (source = some .realm → p.hasRootcr = true → bit (s.unit n).spmrootcr 1 = true) ∧
      (source = some .root → p.hasRootcr = true → bit (s.unit n).spmrootcr 0 = true) ∧
      (source = none → p.hasNao = true ∧ (p.hasRootcr = true → bit (s.unit n).spmrootcr 3 = true) ∧
        (p.hasScr = true → bit (s.unit n).spmscr 0 = true ∨
          (p.scrHasNao = true ∧ bit (s.unit n).spmscr 4 = true))) := by
  rw [State.spmuObservable, hp]
  match source with
  | some .nonSecure => simp
  | some .secure => simp [imp_iff_not_or]
  | some .realm => simp [imp_iff_not_or]
  | some .root => simp [imp_iff_not_or]
  | none => simp [imp_iff_not_or, and_assoc]

theorem spmuStepAllowed_iff {source : Option SecState} : s.spmuStepAllowed n k d source = true ↔
    s.cfg.spmuCounterImplemented n k = true ∧ 1 ≤ d ∧ bit (s.unit n).spmcr 0 = true ∧
      bit (s.unit n).spmcnten k = true ∧ s.spmuObservable n source = true := by
  simp only [State.spmuStepAllowed, Bool.and_eq_true, decide_eq_true_eq, and_assoc]

/-! ## What it changes (R135, R1201, R1203) -/

/-- System PMU `n` after `d` events on counter `k`. -/
def steppedUnit (s : State) (n k d : Nat) (p : SpmuConfig) : SpmUnit :=
  { s.unit n with
    spmevcntr := arraySet (s.unit n).spmevcntr k
      ((arrayGet (s.unit n).spmevcntr k 0 + BitVec.ofNat 64 d) &&& onesWord (p.bits k))
    spmovs := (s.unit n).spmovs ||| bitIf k (decide (2 ^ p.bits k ≤ (arrayGet (s.unit n).spmevcntr k 0).toNat + d) &&
      bit (s.cfg.spmuOvfMask n) k) }

theorem spmuStep_of_some (hp : s.cfg.spmuConfig n = some p) (k d : Nat) :
    spmuStep n k d s = s.withSpm { s.spm with units := arraySet s.spm.units n (steppedUnit s n k d p) } :=
  updateUnit_of_some hp _

theorem steppedUnit_spmevcntr_self (hk : k < 64) : arrayGet (steppedUnit s n k d p).spmevcntr k 0 =
    BitVec.ofNat 64 (((arrayGet (s.unit n).spmevcntr k 0).toNat + d) % 2 ^ p.bits k) :=
  (arrayGet_arraySet_self _ k _ 0 hk).trans (add_and_onesWord (bits_le p k) _ d)

theorem steppedUnit_spmevcntr_ne {j : Nat} (hj : j ≠ k) :
    arrayGet (steppedUnit s n k d p).spmevcntr j 0 = arrayGet (s.unit n).spmevcntr j 0 :=
  arrayGet_arraySet_ne _ k j _ 0 hj.symm

theorem bit_steppedUnit_spmovs (hk : k < 64) (j : Nat) : bit (steppedUnit s n k d p).spmovs j =
    (bit (s.unit n).spmovs j || (decide (2 ^ p.bits k ≤ (arrayGet (s.unit n).spmevcntr k 0).toNat + d) &&
      bit (s.cfg.spmuOvfMask n) k && decide (j = k))) := by
  rw [steppedUnit, bit_or, bit_bitIf k hk]

/-! ## The interrupt output (R1532) -/

theorem spmuIrq_iff (hp : s.cfg.spmuConfig n = some p) : s.spmuIrq n = true ↔ bit (s.unit n).spmcr 0 = true ∧
    ((s.unit n).spmovs &&& (s.unit n).spminten &&& s.cfg.spmuIntMask n) ≠ 0 := by
  simp only [State.spmuIrq, Config.spmuImplemented, hp, Option.isSome_some, Bool.true_and, Bool.and_eq_true, bne_iff_ne]

end

/-- Settles O58: the step replaces one counter and its flag in one entry of the System PMUs. -/
theorem systemPmuStepAndRequest : Obligations.SystemPmuStepAndRequest := by
  intro s n k d source p _ hp
  refine ⟨?possible, fun hallowed => ?changes, spmuIrq_iff hp⟩
  case possible => rw [spmuStepAllowed_iff, spmuObservable_iff hp]
  case changes =>
    have hk := lt_64_of_spmuCounterImplemented (spmuStepAllowed_iff.mp hallowed).1
    refine ⟨steppedUnit s n k d p, spmuStep_of_some hp k d, steppedUnit_spmevcntr_self hk,
      fun j hj => ⟨steppedUnit_spmevcntr_ne hj, ?_⟩, ?_, rfl⟩
    · rw [bit_steppedUnit_spmovs hk, decide_eq_false hj, Bool.and_false, Bool.or_false]
    · rw [bit_steppedUnit_spmovs hk, decide_eq_true rfl, Bool.and_true, Bool.and_comm]

end Sys2Proof.Machine

/-! The invariant: every register that it names holds 0 in the bits that the implementation does not have, and the memory
is canonical. It is kept part by part, the memory, the PMU registers, the System PMUs and MDCR_EL2 and MDCR_EL3, by each
shared operation, and so by every transition. -/

namespace Sys2Proof.Machine

/-! ## Words within a mask (R56, R58) -/

section
variable {v w m m' : Word}

theorem within_iff : within v m ↔ ∀ i < 64, bit v i = true → bit m i = true := by
  constructor
  · intro h i hi hv
    have hbit : bit (v &&& ~~~m) i = false := by rw [h, bit_zero]
    simpa [hi, hv] using hbit
  · intro h
    refine word_eq_of_bit fun i hi => ?_
    rw [bit_and, bit_not _ _ hi, bit_zero]
    cases hv : bit v i with
    | false => rfl
    | true => rw [h i hi hv]; rfl

theorem within_zero (m : Word) : within 0 m :=
  within_iff.mpr fun i _ hb => absurd ((bit_zero i).symm.trans hb) Bool.false_ne_true

theorem within_self (m : Word) : within m m := within_iff.mpr fun _ _ hb => hb

theorem within_trans (h : within v m') (h' : within m' m) : within v m :=
  within_iff.mpr fun i hi hb => within_iff.mp h' i hi (within_iff.mp h i hi hb)

theorem within_and_mask (v m : Word) : within (v &&& m) m :=
  within_iff.mpr fun i _ hb => (Bool.and_eq_true_iff.mp ((bit_and v m i).symm.trans hb)).2

theorem within_and_left (h : within v m) (w : Word) : within (v &&& w) m :=
  within_iff.mpr fun i hi hb => within_iff.mp h i hi (Bool.and_eq_true_iff.mp ((bit_and v w i).symm.trans hb)).1

theorem within_or (hv : within v m) (hw : within w m) : within (v ||| w) m :=
  within_iff.mpr fun i hi hb =>
    (Bool.or_eq_true_iff.mp ((bit_or v w i).symm.trans hb)).elim (within_iff.mp hv i hi) (within_iff.mp hw i hi)

theorem within_or_mask_left (h : within v m) (m' : Word) : within v (m ||| m') :=
  within_trans h (within_iff.mpr fun i _ hb => by rw [bit_or, hb, Bool.true_or])

theorem within_or_mask_right (h : within v m') (m : Word) : within v (m ||| m') :=
  within_trans h (within_iff.mpr fun i _ hb => by rw [bit_or, hb, Bool.or_true])

theorem within_ite {c : Prop} [Decidable c] (hv : within v m) (hw : within w m) : within (if c then v else w) m := by
  split
  · exact hv
  · exact hw

theorem within_mergeBits {old : Word} (hold : within old m) (hm : within m' m) (v : Word) :
    within (mergeBits old v m') m :=
  within_or (within_and_left hold _) (within_trans (within_and_mask v m') hm)

/-- Bits within the mask set, or within it cleared, stay within the mask. -/
theorem within_set (hv : within v m) (hm : within m' m) (w : Word) : within (v ||| (w &&& m')) m :=
  within_or hv (within_trans (within_and_mask w m') hm)

theorem within_bitIf {k : Nat} {c : Bool} (h : c = true → bit m k = true) : within (bitIf k c) m := by
  refine within_iff.mpr fun i hi hb => ?_
  cases c with
  | false => exact absurd ((bit_zero i).symm.trans hb) Bool.false_ne_true
  | true =>
    have hk : k < 64 ∧ k = i := by simpa [bitIf, bit, BitVec.getLsbD_twoPow] using hb
    obtain ⟨-, rfl⟩ := hk
    exact h rfl

theorem within_maskOf {n : Nat} (hn : n ≤ 64) {p : Nat → Bool} (h : ∀ i < n, p i = true → bit m i = true) :
    within (maskOf n p) m := by
  refine within_iff.mpr fun i _ hb => ?_
  rw [bit_maskOf n hn, Bool.and_eq_true, decide_eq_true_eq] at hb
  exact h i hb.1 hb.2

/-- The bits of a value that a mask of its width keeps, both at the same place of a word. -/
theorem within_placed_and {b : Nat} (x y : BitVec b) (lo : Nat) : within (placed (x &&& y) lo) (placed y lo) := by
  refine within_iff.mpr fun i hi hb => ?_
  rw [bit_placed _ hi, BitVec.getLsbD_and, Bool.and_eq_true, Bool.and_eq_true] at hb
  rw [bit_placed _ hi, hb.1, hb.2.2, Bool.and_true]

end

/-! ## The bits of the shared bitmaps (R70 to R72, R427, R717, R875) -/

theorem bit_bitmapMask (c : Config) (i : Nat) : bit c.bitmapMask i =
    (c.has .PMUv3_ICNTR && decide (i = 32) || decide (i = 31) || decide (i < 31 ∧ i < c.numCounters)) := by
  simp [Config.bitmapMask, bit_bitIf, bit_maskOf]

theorem bit_bitmapMask_31 (c : Config) : bit c.bitmapMask 31 = true := by simp [bit_bitmapMask]

theorem bit_bitmapMask_32 (c : Config) : bit c.bitmapMask 32 = c.has .PMUv3_ICNTR := by simp [bit_bitmapMask]

theorem bit_bitmapMask_of_lt {c : Config} {n : Nat} (h : n < c.numCounters) : bit c.bitmapMask n = true := by
  have hn : n < 31 := h.trans_le (numCounters_le c)
  simp [bit_bitmapMask, h, hn]

/-- A write reaches only counters that exist, if the access types of F0 and of each P<m> ask for their counters. -/
theorem within_writeMask {c : Config} {acc : Nat → FieldAccess} (hF0 : c.has .PMUv3_ICNTR = false → acc 32 = .razWi)
    (hP : ∀ m < 31, c.numCounters ≤ m → acc m = .razWi) : within (writeMask acc) c.bitmapMask := by
  refine within_maskOf (by decide) fun i hi hw => ?_
  rcases (by omega : i = 32 ∨ i = 31 ∨ i < 31) with rfl | rfl | hlt
  · rw [bit_bitmapMask_32]
    by_contra hno
    rw [hF0 (by simpa using hno)] at hw
    cases hw
  · exact bit_bitmapMask_31 c
  · refine bit_bitmapMask_of_lt (Nat.lt_of_not_le fun hle => ?_)
    rw [hP i hlt hle] at hw
    cases hw

section
variable (s : State)

theorem within_writeMask_countAccess : within (writeMask s.countAccess) s.cfg.bitmapMask :=
  within_writeMask f0Access_of_not_icntr fun m hm hle => by
    rw [countAccess_of_lt s hm, pAccess_of_le ((numAccessible_le_numCounters s).trans hle)]

theorem within_writeMask_intAccess : within (writeMask s.intAccess) s.cfg.bitmapMask :=
  within_writeMask f0IntAccess_of_not_icntr fun m hm hle => by
    rw [intAccess_of_lt s hm, pIntAccess_of_le ((numAccessible_le_numCounters s).trans hle)]

theorem within_writeMask_uacrAccess : within (writeMask s.uacrAccess) s.cfg.bitmapMask :=
  within_writeMask (fun h => by rw [uacrAccess_32, State.has, h]; rfl) fun m hm hle => by
    rw [uacrAccess_of_lt s hm, pIntAccess_of_le ((numAccessible_le_numCounters s).trans hle)]

end

/-! ## The PMU registers (R53) -/

/-- The clauses of the invariant for the PMU registers, each under the name of its register. -/
structure PmuWf (c : Config) (p : Pmu) : Prop where
  pmccfiltr : within p.pmccfiltr c.filterMask
  pmcnten : within p.pmcnten c.bitmapMask
  pminten : within p.pminten c.bitmapMask
  pmovs : within p.pmovs c.bitmapMask
  pmcr : within p.pmcr c.pmcrMask
  pmecr : within p.pmecr c.pmecrMask
  pmselr : within p.pmselr (onesWord 5)
  pmsscr : within p.pmsscr (bitIf 32 true ||| bitIf 0 true)
  pmuacr : within p.pmuacr c.pmuacrMask
  pmuserenr : within p.pmuserenr c.pmuserenrMask
  pmicfiltr : within p.pmicfiltr (c.icfiltrMask ||| 8)
  pmevcntr : ∀ n < 31, within (arrayGet p.pmevcntr n 0) c.counterMask
  pmevtyper : ∀ n < 31, c.evtyperStored n (arrayGet p.pmevtyper n 0) = arrayGet p.pmevtyper n 0

theorem pmuInv_iff {s : State} : s.PmuInv ↔ PmuWf s.cfg s.pmu := by
  constructor
  · rintro ⟨hccfiltr, hcnten, hinten, hovs, hcr, hecr, hselr, hsscr, huacr, huserenr, hicfiltr, harrays⟩
    exact ⟨hccfiltr, hcnten, hinten, hovs, hcr, hecr, hselr, hsscr, huacr, huserenr, hicfiltr,
      fun n hn => (harrays ⟨n, hn⟩).1, fun n hn => (harrays ⟨n, hn⟩).2⟩
  · intro h
    exact ⟨h.pmccfiltr, h.pmcnten, h.pminten, h.pmovs, h.pmcr, h.pmecr, h.pmselr, h.pmsscr, h.pmuacr, h.pmuserenr,
      h.pmicfiltr, fun n => ⟨h.pmevcntr n n.isLt, h.pmevtyper n n.isLt⟩⟩

section
variable {c : Config} {p : Pmu}

/-- Counting and the writes that clear counters reach PMCR_EL0, the event counters, the overflow flags, and state that
no clause names. -/
theorem PmuWf.withCounting (h : PmuWf c p) {pmcr pmccntr pmicntr pmovs : Word} {divPhase : BitVec 6}
    {edgePrev : Vector Bool 31} {pmevcntr : Vector Word 31} (hpmcr : within pmcr c.pmcrMask)
    (hpmovs : within pmovs c.bitmapMask) (hpmevcntr : ∀ n < 31, within (arrayGet pmevcntr n 0) c.counterMask) :
    PmuWf c { p with pmcr, pmccntr, pmicntr, pmovs, divPhase, edgePrev, pmevcntr } :=
  { h with pmcr := hpmcr, pmovs := hpmovs, pmevcntr := hpmevcntr }

end

section
variable {s : State}

theorem redrawEdges_pmu (old s : State) :
    (redrawEdges old s).pmu = { s.pmu with edgePrev := (redrawEdges old s).pmu.edgePrev } := rfl

/-- The edge history is no register. -/
theorem PmuWf.redrawEdges {c : Config} (h : PmuWf c s.pmu) (old : State) : PmuWf c (redrawEdges old s).pmu := by
  rw [redrawEdges_pmu]
  exact h.withCounting h.pmcr h.pmovs h.pmevcntr

theorem PmuWf.zeroedCounters (h : PmuWf s.cfg s.pmu) (p : Nat → Bool) (n : Nat) (hn : n < 31) :
    within (arrayGet (s.zeroedCounters p) n 0) s.cfg.counterMask := by
  rw [State.zeroedCounters, arrayGet_ofFn _ n 0 hn]
  exact within_ite (within_zero _) (h.pmevcntr n hn)

/-- An addition sets flags of counters that exist, if it reaches no others. -/
theorem PmuWf.addToCounters {d : Nat → Nat} (h : PmuWf s.cfg s.pmu) (hd : ∀ n, d n ≠ 0 → n < s.cfg.numCounters) :
    PmuWf s.cfg (addToCounters d s).pmu := by
  rw [addToCounters_pmu]
  refine h.withCounting h.pmcr (within_iff.mpr fun i hi hb => ?flags) fun n hn => ?counters
  case flags =>
    rw [bit_pmovs_addToCounters, Bool.or_eq_true, Bool.and_eq_true] at hb
    obtain hold | ⟨-, hovf⟩ := hb
    · exact within_iff.mp h.pmovs i hi hold
    · refine bit_bitmapMask_of_lt (hd i fun hzero => ?_)
      rw [hzero, overflows_zero] at hovf
      cases hovf
  case counters =>
    have hsum := evcntr_addToCounters d s hn
    rw [State.evcntr] at hsum
    rw [hsum]
    exact within_ite (h.pmevcntr n hn) (within_and_mask _ _)

theorem PmuWf.tick (h : PmuWf s.cfg s.pmu) (c : Context) (o : Occurrences) (k : Nat) :
    PmuWf s.cfg (tick c o k s).pmu := by
  have hadd : PmuWf s.cfg (Machine.addToCounters (s.v c o) s).pmu :=
    h.addToCounters fun n hv => (lt_numSelfHosted_of_v_ne_zero hv).trans_le (numSelfHosted_le s)
  have hicntr : ∀ b, (s.icCounts c && b) = true → bit s.cfg.bitmapMask 32 = true := fun b hinc => by
    rw [bit_bitmapMask_32]
    exact (icCounts_iff.mp (Bool.and_eq_true_iff.mp hinc).1).1
  rw [tick_pmu]
  exact h.withCounting h.pmcr
    (within_or (within_or hadd.pmovs (within_bitIf fun _ => bit_bitmapMask_31 _)) (within_bitIf (hicntr _)))
    hadd.pmevcntr

/-- The counters that PMSWINC_EL0 increments are accessible (R862). -/
theorem lt_numCounters_of_swincAmount {v : Word} {n : Nat} (h : s.swincAmount v n ≠ 0) : n < s.cfg.numCounters := by
  refine Nat.lt_of_not_le fun hle => h ?_
  have hout : s.swincWritable n = false := by
    simp [State.swincWritable, (numAccessible_le_numCounters s).trans hle]
  simp [State.swincAmount, hout]

theorem PmuWf.writePmsscr (h : PmuWf s.cfg s.pmu) (v : Word) : PmuWf s.cfg (writePmsscr v s).pmu := by
  have hnc : within (bitIf 32 true) (bitIf 32 true ||| bitIf 0 true) := within_or_mask_left (within_self _) _
  unfold Machine.writePmsscr
  split
  · split
    · exact { h with pmsscr := within_zero _ }
    · exact { h with pmsscr := hnc }
  · have hkept : within (bitIf 32 (bit v 32)) (bitIf 32 true) := within_bitIf fun _ => by decide
    exact { h with pmsscr := within_or (within_or_mask_left hkept _) (within_and_left h.pmsscr 1) }

theorem PmuWf.writeEvtyper (h : PmuWf s.cfg s.pmu) (n : Nat) (v : Word) : PmuWf s.cfg (writeEvtyper n v s).pmu :=
  { h with
    pmevtyper := fun m hm => by
      change s.cfg.evtyperStored m (arrayGet (arraySet s.pmu.pmevtyper n _) m 0) = arrayGet (arraySet _ n _) m 0
      by_cases hne : n = m
      · subst hne
        rw [arrayGet_arraySet_self _ n _ 0 hm, evtyperStored_idem]
      · rw [arrayGet_arraySet_ne _ n m _ 0 hne]
        exact h.pmevtyper m hm }

theorem PmuWf.writePmcr (h : PmuWf s.cfg s.pmu) (v : Word) : PmuWf s.cfg (writePmcr v s).pmu := by
  refine PmuWf.redrawEdges ?_ s
  rw [drawn_pmu, withPmu_pmu]
  exact h.withCounting (within_and_mask _ _) h.pmovs (h.zeroedCounters _)

theorem PmuWf.redrawEdges_mdcrEl2 (h : PmuWf s.cfg s.pmu) (v : Word) :
    PmuWf s.cfg (Machine.redrawEdges s { s with mdcrEl2 := v }).pmu := by
  have hsame : PmuWf s.cfg { s with mdcrEl2 := v }.pmu := h
  exact hsame.redrawEdges s

/-- A write of a PMU register keeps the bits that the implementation does not have at 0. -/
theorem PmuWf.writeReg (h : PmuWf s.cfg s.pmu) (r : Reg) (v : Word) : PmuWf s.cfg (writeReg r v s).pmu := by
  cases r with
  | pmccfiltr => exact { h with pmccfiltr := within_and_mask _ _ }
  | pmccntr | pmiar | pmicntr => exact { h with }
  | pmcntenclr => exact { h with pmcnten := within_and_left h.pmcnten _ }
  | pmcntenset =>
    refine PmuWf.redrawEdges ?_ s
    rw [withPmu_pmu]
    exact { h with pmcnten := within_set h.pmcnten (within_writeMask_countAccess s) _ }
  | pmcr => exact h.writePmcr v
  | pmecr => exact { h with pmecr := within_and_mask _ _ }
  | pmevcntr n =>
    refine { h with pmevcntr := fun m hm => ?_ }
    change within (arrayGet (arraySet s.pmu.pmevcntr n _) m 0) s.cfg.counterMask
    by_cases hne : n = m
    · subst hne
      rw [arrayGet_arraySet_self _ n _ 0 hm]
      exact within_and_mask _ _
    · rw [arrayGet_arraySet_ne _ n m _ 0 hne]
      exact h.pmevcntr m hm
  | pmevtyper n => exact h.writeEvtyper n v
  | pmicfiltr =>
    exact { h with
      pmicfiltr := within_or (within_or_mask_left (within_and_mask _ _) 8) (within_or_mask_right (within_self 8) _) }
  | pmintenclr => exact { h with pminten := within_and_left h.pminten _ }
  | pmintenset => exact { h with pminten := within_set h.pminten (within_writeMask_intAccess s) _ }
  | pmovsclr => exact { h with pmovs := within_and_left h.pmovs _ }
  | pmovsset => exact { h with pmovs := within_set h.pmovs (within_writeMask_countAccess s) _ }
  | pmselr => exact { h with pmselr := within_and_mask _ _ }
  | pmsscr => exact h.writePmsscr v
  | pmswinc => exact h.addToCounters fun n => lt_numCounters_of_swincAmount
  | pmuacr => exact { h with pmuacr := within_mergeBits h.pmuacr (within_writeMask_uacrAccess s) v }
  | pmuserenr => exact { h with pmuserenr := within_and_mask _ _ }
  | pmzr =>
    rw [Machine.writeReg, zeroPmuCounters, withPmu_pmu]
    exact h.withCounting h.pmcr h.pmovs (h.zeroedCounters _)
  | mdcrEl2 =>
    rw [Machine.writeReg]
    exact h.redrawEdges_mdcrEl2 _
  | pmccntsvr | pmceid0 | pmceid1 | pmevcntsvr _ | pmicntsvr | pmmir => exact h
  | _ =>
    rw [writeReg_pmu _ v s (by simp)]
    exact h

/-! ### After a Cold or Warm reset (R1601 to R1605) -/

theorem within_commonReset (c : Config) (cold : Bool) (m : Word) : within (commonReset c cold m) m :=
  within_ite (within_self m) (within_zero m)

theorem within_implMask (c : Config) (n : Nat) (m : Word) : within (implMask c n m) m :=
  within_ite (within_self m) (within_zero m)

theorem within_redraw {old m m' : Word} (hold : within old m) (hm : within m' m) (k : Nat) :
    within (s.redraw k m' old) m := within_mergeBits hold hm _

theorem within_resetBitmap {old : Word} (h : within old s.cfg.bitmapMask) (cold : Bool) (k : Nat) :
    within (resetBitmap cold s k old) s.cfg.bitmapMask :=
  within_and_left (within_redraw h (within_commonReset _ _ _) k) _

theorem PmuWf.resetPmuRegs (h : PmuWf s.cfg s.pmu) (cold : Bool) : PmuWf s.cfg (resetPmuRegs cold s) where
  pmccfiltr := within_redraw h.pmccfiltr (within_commonReset _ _ _) 0
  pmcnten := within_resetBitmap h.pmcnten cold 3
  pminten := within_resetBitmap h.pminten cold 10
  pmovs := within_resetBitmap h.pmovs cold 11
  pmcr := within_and_left (within_and_mask _ _) _
  pmecr := within_and_mask _ _
  pmselr := within_and_mask _ _
  pmsscr := within_or_mask_left (within_self _) _
  pmuacr := within_and_mask _ _
  pmuserenr := within_and_mask _ _
  pmicfiltr := within_redraw h.pmicfiltr (within_or_mask_left (within_commonReset _ _ _) 8) 7
  pmevcntr n hn := by
    rw [show arrayGet (Machine.resetPmuRegs cold s).pmevcntr n 0 = _ from evcntr_resetPE (s := s) (cold := cold) hn]
    exact within_redraw (h.pmevcntr n hn) (within_trans (within_implMask _ n _) (within_commonReset _ _ _)) _
  pmevtyper n hn := by
    rw [show arrayGet (Machine.resetPmuRegs cold s).pmevtyper n 0 = _ from evtyper_resetPE (s := s) (cold := cold) hn]
    exact evtyperStored_idem _ n _

end

end Sys2Proof.Machine

namespace Sys2Proof.Machine

/-! ## The System PMUs (R130 to R135) -/

/-- The clauses of the invariant for the registers `u` of System PMU `n`, which is implemented with parameters `p`. -/
structure UnitWf (c : Config) (n : Nat) (p : SpmuConfig) (u : SpmUnit) : Prop where
  spmcnten : within u.spmcnten (c.spmuImplMask n)
  spminten : within u.spminten (c.spmuIntMask n)
  spmovs : within u.spmovs (c.spmuOvfMask n)
  spmcr : within u.spmcr (p.crMask .el3)
  spmrootcr : within u.spmrootcr p.rootcrMask
  spmscr : within u.spmscr p.scrMask
  spmevcntr : ∀ k < 64, within (arrayGet u.spmevcntr k 0) (onesWord (p.bits k))
  spmevtyper : ∀ k < 64, within (arrayGet u.spmevtyper k 0) (implDefMask p.typerMask k)
  spmevfiltr : ∀ k < 64, within (arrayGet u.spmevfiltr k 0) (implDefMask p.filtrMask k)
  spmevfilt2r : ∀ k < 64, within (arrayGet u.spmevfilt2r k 0) (implDefMask p.filt2rMask k)

theorem unitInv_iff {s : State} {n : Nat} {p : SpmuConfig} (hp : s.cfg.spmuConfig n = some p) :
    s.UnitInv n ↔ UnitWf s.cfg n p (s.unit n) := by
  constructor
  · rintro ⟨hcnten, hinten, hovs, hregs⟩
    obtain ⟨hcr, hrootcr, hscr, hcounters⟩ := hregs p hp
    exact ⟨hcnten, hinten, hovs, hcr, hrootcr, hscr, fun k hk => (hcounters ⟨k, hk⟩).1,
      fun k hk => (hcounters ⟨k, hk⟩).2.1, fun k hk => (hcounters ⟨k, hk⟩).2.2.1, fun k hk => (hcounters ⟨k, hk⟩).2.2.2⟩
  · intro h
    refine ⟨h.spmcnten, h.spminten, h.spmovs, fun q hq => ?_⟩
    obtain rfl : p = q := Option.some_inj.mp (hp.symm.trans hq)
    exact ⟨h.spmcr, h.spmrootcr, h.spmscr, fun k => ⟨h.spmevcntr k k.isLt, h.spmevtyper k k.isLt,
      h.spmevfiltr k k.isLt, h.spmevfilt2r k k.isLt⟩⟩

/-- The clauses for a System PMU speak of its own registers only. -/
theorem unitInv_congr {s s' : State} {n : Nat} (hcfg : s'.cfg = s.cfg) (hunit : s'.unit n = s.unit n)
    (h : s.UnitInv n) : s'.UnitInv n := by
  unfold State.UnitInv at h ⊢
  rwa [hcfg, hunit]

section
variable {c : Config} {n : Nat} {p : SpmuConfig} {u : SpmUnit}

/-- An entry of an array replaced by a value within its mask. -/
theorem within_arraySet {m : Nat} {a : Vector Word m} {mask : Nat → Word} (h : ∀ k < m, within (arrayGet a k 0) (mask k))
    {i : Nat} {v : Word} (hv : within v (mask i)) (k : Nat) (hk : k < m) :
    within (arrayGet (arraySet a i v) k 0) (mask k) := by
  by_cases hne : i = k
  · subst hne
    rwa [arrayGet_arraySet_self a i v 0 hk]
  · rw [arrayGet_arraySet_ne a i k v 0 hne]
    exact h k hk

theorem within_crMask (p : SpmuConfig) (el : EL) : within (p.crMask el) (p.crMask .el3) := by
  refine within_iff.mpr fun i _ hb => ?_
  cases el with
  | el0 =>
    simp [SpmuConfig.crMask, bit_bitIf] at hb ⊢
    tauto
  | el1 | el2 | el3 => exact hb

theorem UnitWf.withCounters (h : UnitWf c n p u) {counters : Vector Word 64}
    (hcounters : ∀ k < 64, within (arrayGet counters k 0) (onesWord (p.bits k))) :
    UnitWf c n p { u with spmevcntr := counters } := { h with spmevcntr := hcounters }

theorem UnitWf.zeroSpmCounters (h : UnitWf c n p u) (m : Word) : UnitWf c n p (zeroSpmCounters m u) := by
  refine h.withCounters fun k hk => ?_
  rw [arrayGet_ofFn _ k 0 hk]
  exact within_ite (within_zero _) (h.spmevcntr k hk)

theorem UnitWf.writeSpmcr (h : UnitWf c n p u) (el : EL) (m v : Word) : UnitWf c n p (writeSpmcr el m v p u) := by
  have hcr : UnitWf c n p { u with spmcr := mergeBits u.spmcr v (p.crMask el) } :=
    { h with spmcr := within_mergeBits h.spmcr (within_crMask p el) v }
  unfold Machine.writeSpmcr
  split
  · exact hcr.zeroSpmCounters m
  · exact hcr

theorem UnitWf.writeSpmrootcr (h : UnitWf c n p u) (v : Word) : UnitWf c n p (writeSpmrootcr v p u) := by
  unfold Machine.writeSpmrootcr
  split
  · exact { h with spmrootcr := within_and_mask _ _ }
  · exact h

theorem UnitWf.writeSpmscr (h : UnitWf c n p u) (v : Word) : UnitWf c n p (writeSpmscr v p u) := by
  unfold Machine.writeSpmscr
  split
  · exact { h with spmscr := within_and_mask _ _ }
  · exact h

theorem UnitWf.steppedUnit {s : State} (h : UnitWf s.cfg n p (s.unit n)) (k d : Nat) :
    UnitWf s.cfg n p (steppedUnit s n k d p) :=
  { h with
    spmevcntr := within_arraySet h.spmevcntr (within_and_mask _ _)
    spmovs := within_or h.spmovs (within_bitIf fun hovf => (Bool.and_eq_true_iff.mp hovf).2) }

/-! ### After a System PMU reset (R1604) -/

theorem within_resetImplDef (mask values : List Word) (k : Nat) (hk : k < 64) :
    within (arrayGet (resetImplDef c n mask values) k 0) (implDefMask mask k) := by
  rw [resetImplDef, arrayGet_ofFn _ k 0 hk]
  exact within_ite (within_and_mask _ _) (within_zero _)

theorem unitWf_resetUnit (s : State) (n : Nat) (p : SpmuConfig) : UnitWf s.cfg n p (resetUnit s n p) where
  spmcnten := within_and_mask _ _
  spminten := within_and_mask _ _
  spmovs := within_and_mask _ _
  spmcr := within_and_left (within_and_mask _ _) _
  spmrootcr := within_ite (within_or_mask_left (within_or (within_or_mask_left (within_placed_and _ _ 32) _)
    (within_or_mask_right (within_self _) _)) _) (within_zero _)
  spmscr := within_ite (within_or_mask_left (within_or_mask_left (within_placed_and _ _ 32) _) _) (within_zero _)
  spmevcntr k hk := by
    rw [resetUnit, arrayGet_ofFn _ k 0 hk]
    exact within_ite (within_and_mask _ _) (within_zero _)
  spmevtyper := within_resetImplDef _ _
  spmevfiltr := within_resetImplDef _ _
  spmevfilt2r := within_resetImplDef _ _

end

section
variable {s : State} {n : Nat}

theorem updateUnit_of_none (hp : s.cfg.spmuConfig n = none) (f : SpmuConfig → SpmUnit → SpmUnit) :
    updateUnit n f s = s := by
  simp [updateUnit, hp]

theorem unit_withUnit_self (hn : n < 32) (u : SpmUnit) :
    (s.withSpm { s.spm with units := arraySet s.spm.units n u }).unit n = u := arrayGet_arraySet_self _ n u _ hn

theorem unit_withUnit_ne {m : Nat} (hm : n ≠ m) (u : SpmUnit) :
    (s.withSpm { s.spm with units := arraySet s.spm.units n u }).unit m = s.unit m := arrayGet_arraySet_ne _ n m u _ hm

/-- What keeps the registers of one System PMU within their masks keeps all of them. -/
theorem spmInv_updateUnit {f : SpmuConfig → SpmUnit → SpmUnit} (h : s.SpmInv)
    (hf : ∀ p, UnitWf s.cfg n p (s.unit n) → UnitWf s.cfg n p (f p (s.unit n))) : (updateUnit n f s).SpmInv := by
  cases hp : s.cfg.spmuConfig n with
  | none => rwa [updateUnit_of_none hp]
  | some p =>
    obtain ⟨haccess1, haccess2, haccess3, hselr, hunits⟩ := h
    rw [updateUnit_of_some hp]
    refine ⟨haccess1, haccess2, haccess3, hselr, fun m => ?_⟩
    by_cases hm : n = m.val
    · subst hm
      refine (unitInv_iff (s := s.withSpm { s.spm with units := arraySet s.spm.units m.val (f p (s.unit m.val)) })
        hp).mpr ?_
      rw [unit_withUnit_self m.isLt]
      exact hf p ((unitInv_iff hp).mp (hunits m))
    · exact unitInv_congr (withSpm_cfg s _) (unit_withUnit_ne hm _) (hunits m)

theorem spmInv_updateCounter {k : Nat} {f : SpmuConfig → SpmUnit → SpmUnit} (h : s.SpmInv)
    (hf : ∀ p, UnitWf s.cfg n p (s.unit n) → UnitWf s.cfg n p (f p (s.unit n))) : (updateCounter n k f s).SpmInv := by
  unfold updateCounter
  split
  · exact spmInv_updateUnit h hf
  · exact h

theorem spmInv_congr {s' : State} (hcfg : s'.cfg = s.cfg) (hspm : s'.spm = s.spm) (h : s.SpmInv) : s'.SpmInv := by
  obtain ⟨haccess1, haccess2, haccess3, hselr, hunits⟩ := h
  have hunit : ∀ m, s'.unit m = s.unit m := fun m => by rw [State.unit, hspm, State.unit]
  rw [← hspm, ← hcfg] at haccess1 haccess2 haccess3
  rw [← hspm] at hselr
  exact ⟨haccess1, haccess2, haccess3, hselr, fun m => unitInv_congr hcfg (hunit m) (hunits m)⟩

/-- A write of a System PMU register keeps the bits that the implementation does not have at 0. -/
theorem spmInv_writeReg (h : s.SpmInv) (r : Reg) (v : Word) : (writeReg r v s).SpmInv := by
  have ⟨haccess1, haccess2, haccess3, hselr, hunits⟩ := h
  by_cases hr : r.unit = .spm
  case neg => exact spmInv_congr (writeReg_cfg r v s) (writeReg_spm r v s hr) h
  cases r with
  | spmaccessr1 => exact ⟨within_and_mask _ _, haccess2, haccess3, hselr, hunits⟩
  | spmaccessr2 => exact ⟨haccess1, within_and_mask _ _, haccess3, hselr, hunits⟩
  | spmaccessr3 => exact ⟨haccess1, haccess2, within_and_mask _ _, hselr, hunits⟩
  | spmselr => exact ⟨haccess1, haccess2, haccess3, within_and_mask _ _, hunits⟩
  | spmcntenclr n => exact spmInv_updateUnit h fun p hu => { hu with spmcnten := within_and_left hu.spmcnten _ }
  | spmcntenset n =>
    exact spmInv_updateUnit h fun p hu => { hu with spmcnten := within_set hu.spmcnten (within_self _) _ }
  | spmcr n => exact spmInv_updateUnit h fun p hu => hu.writeSpmcr _ _ v
  | spmevcntr n k =>
    exact spmInv_updateCounter h fun p hu =>
      { hu with spmevcntr := within_arraySet hu.spmevcntr (within_and_mask _ _) }
  | spmevtyper n k =>
    exact spmInv_updateCounter h fun p hu =>
      { hu with spmevtyper := within_arraySet hu.spmevtyper (within_and_mask _ _) }
  | spmevfiltr n k =>
    exact spmInv_updateCounter h fun p hu =>
      { hu with spmevfiltr := within_arraySet hu.spmevfiltr (within_and_mask _ _) }
  | spmevfilt2r n k =>
    exact spmInv_updateCounter h fun p hu =>
      { hu with spmevfilt2r := within_arraySet hu.spmevfilt2r (within_and_mask _ _) }
  | spmintenclr n => exact spmInv_updateUnit h fun p hu => { hu with spminten := within_and_left hu.spminten _ }
  | spmintenset n =>
    exact spmInv_updateUnit h fun p hu => { hu with spminten := within_set hu.spminten (within_self _) _ }
  | spmovsclr n => exact spmInv_updateUnit h fun p hu => { hu with spmovs := within_and_left hu.spmovs _ }
  | spmovsset n =>
    exact spmInv_updateUnit h fun p hu => { hu with spmovs := within_set hu.spmovs (within_self _) _ }
  | spmrootcr n => exact spmInv_updateUnit h fun p hu => hu.writeSpmrootcr v
  | spmscr n => exact spmInv_updateUnit h fun p hu => hu.writeSpmscr v
  | spmzr n => exact spmInv_updateUnit h fun p hu => hu.zeroSpmCounters _
  | spmcfgr _ | spmcgcr _ _ | spmdevaff _ | spmdevarch _ | spmiidr _ => exact h
  | _ => cases hr

end

/-! ## The memory (R151, R160) -/

section
variable {s : State}

theorem addressExists_congr {s' : State} (hcfg : s'.cfg = s.cfg) (a : Nat) : s'.addressExists a = s.addressExists a := by
  simp only [State.addressExists, State.nvmemAddr, hcfg]

theorem memInv_congr {s' : State} (hcfg : s'.cfg = s.cfg) (hmem : s'.mem = s.mem) (h : s.MemInv) : s'.MemInv := by
  unfold State.MemInv at h ⊢
  simpa only [hmem, addressExists_congr hcfg] using h

/-- A write lists no address but its own. -/
theorem mem_writeByte {m : List Host.Cell} {a : Nat} {b : Byte} {cell : Host.Cell} (h : cell ∈ writeByte m a b) :
    cell = (a, b) ∨ cell ∈ m := by
  induction m with
  | nil =>
    unfold writeByte at h
    split at h
    · exact .inr h
    · exact List.mem_cons.mp h
  | cons head rest ih =>
    unfold writeByte at h
    split at h
    · split at h
      · exact .inr h
      · exact List.mem_cons.mp h
    · split at h
      · split at h
        · exact .inr (List.mem_cons_of_mem _ h)
        · exact (List.mem_cons.mp h).imp_right (List.mem_cons_of_mem _)
      · obtain rfl | hrest := List.mem_cons.mp h
        · exact .inr List.mem_cons_self
        · exact (ih hrest).imp_right (List.mem_cons_of_mem _)

/-- Bytes of the cell stored one after another (R160). -/
theorem memInv_foldl_writeByte {m : List Host.Cell} {addr : Nat → Nat} {val : Nat → Byte} (l : List Nat)
    (haddr : ∀ i ∈ l, s.addressExists (addr i) = true) (h : ∀ cell ∈ m, s.addressExists cell.1 = true) :
    ∀ cell ∈ l.foldl (fun m i => writeByte m (addr i) (val i)) m, s.addressExists cell.1 = true := by
  induction l generalizing m with
  | nil => exact h
  | cons i rest ih =>
    refine ih (fun j hj => haddr j (List.mem_cons_of_mem _ hj)) fun cell hcell => ?_
    obtain rfl | hold := mem_writeByte hcell
    · exact haddr i List.mem_cons_self
    · exact h cell hold

theorem addressExists_nvmemAddr {i : Nat} (hi : i < 8) : s.addressExists (s.nvmemAddr i) = true :=
  List.any_eq_true.mpr ⟨i, List.mem_range.mpr hi, beq_self_eq_true _⟩

theorem memInv_nvmemWrite (h : s.MemInv) (v : Word) : (s.nvmemWrite v).MemInv :=
  ⟨memWf_nvmemWrite s v h.1, fun cell hcell => (addressExists_congr (nvmemWrite_cfg s v) cell.1).trans <|
    memInv_foldl_writeByte (val := fun i => v.extractLsb' (8 * s.nvmemLane i) 8) (List.range 8)
      (fun _ hi => addressExists_nvmemAddr (List.mem_range.mp hi)) h.2 cell hcell⟩

theorem memInv_writeByte (h : s.MemInv) {a : Nat} (ha : s.addressExists a = true) (b : Byte) :
    State.MemInv { s with mem := writeByte s.mem a b } :=
  ⟨memWf_writeByte a b h.1, memInv_foldl_writeByte (addr := fun _ => a) (val := fun _ => b) [0] (fun _ _ => ha) h.2⟩

/-! ## MDCR_EL2 and MDCR_EL3 -/

theorem mdcrInv_congr {s' : State} (hcfg : s'.cfg = s.cfg) (h2 : s'.mdcrEl2 = s.mdcrEl2) (h3 : s'.mdcrEl3 = s.mdcrEl3)
    (h : s.MdcrInv) : s'.MdcrInv := by
  unfold State.MdcrInv at h ⊢
  rwa [hcfg, h2, h3]

theorem mdcrInv_writeReg (h : s.MdcrInv) (r : Reg) (v : Word) : (writeReg r v s).MdcrInv := by
  by_cases h2 : r.unit = .mdcrEl2
  · cases r with
    | mdcrEl2 =>
      rw [writeReg]
      exact mdcrInv_congr (s := { s with mdcrEl2 := v &&& s.cfg.mdcrEl2Mask }) (redrawEdges_cfg _ _)
        (redrawEdges_mdcrEl2 _ _) (redrawEdges_mdcrEl3 _ _) ⟨within_and_mask _ _, h.2⟩
    | _ => cases h2
  · by_cases h3 : r.unit = .mdcrEl3
    · cases r with
      | mdcrEl3 => exact ⟨h.1, within_and_mask _ _⟩
      | _ => cases h3
    · exact mdcrInv_congr (writeReg_cfg r v s) (writeReg_mdcrEl2 r v s h2) (writeReg_mdcrEl3 r v s h3) h

end

/-! ## Every transition -/

/-- The parts of the invariant, as each operation keeps them. -/
structure StateWf (s : State) : Prop where
  mem : s.MemInv
  pmu : PmuWf s.cfg s.pmu
  spm : s.SpmInv
  mdcr : s.MdcrInv

theorem inv_iff {s : State} : s.Inv ↔ StateWf s :=
  ⟨fun ⟨hmem, hpmu, hspm, hmdcr⟩ => ⟨hmem, pmuInv_iff.mp hpmu, hspm, hmdcr⟩,
    fun ⟨hmem, hpmu, hspm, hmdcr⟩ => ⟨hmem, pmuInv_iff.mpr hpmu, hspm, hmdcr⟩⟩

section
variable {s s' : State}

/-- What changes none of the five parts that the invariant reads keeps it. -/
theorem StateWf.congr (h : StateWf s) (hcfg : s'.cfg = s.cfg) (hmem : s'.mem = s.mem) (hpmu : s'.pmu = s.pmu)
    (hspm : s'.spm = s.spm) (hmdcr2 : s'.mdcrEl2 = s.mdcrEl2) (hmdcr3 : s'.mdcrEl3 = s.mdcrEl3) : StateWf s' :=
  ⟨memInv_congr hcfg hmem h.mem, by rw [hcfg, hpmu]; exact h.pmu, spmInv_congr hcfg hspm h.spm,
    mdcrInv_congr hcfg hmdcr2 hmdcr3 h.mdcr⟩

/-- The same for a change of the PMU registers alone. -/
theorem StateWf.congr_pmu (h : StateWf s) (hcfg : s'.cfg = s.cfg) (hmem : s'.mem = s.mem) (hpmu : PmuWf s.cfg s'.pmu)
    (hspm : s'.spm = s.spm) (hmdcr2 : s'.mdcrEl2 = s.mdcrEl2) (hmdcr3 : s'.mdcrEl3 = s.mdcrEl3) : StateWf s' :=
  ⟨memInv_congr hcfg hmem h.mem, by rw [hcfg]; exact hpmu, spmInv_congr hcfg hspm h.spm,
    mdcrInv_congr hcfg hmdcr2 hmdcr3 h.mdcr⟩

theorem StateWf.writeReg (h : StateWf s) (r : Reg) (v : Word) : StateWf (writeReg r v s) :=
  ⟨memInv_congr (writeReg_cfg r v s) (writeReg_mem r v s) h.mem, by rw [writeReg_cfg]; exact h.pmu.writeReg r v,
    spmInv_writeReg h.spm r v, mdcrInv_writeReg h.mdcr r v⟩

theorem StateWf.nvmemWrite (h : StateWf s) (v : Word) : StateWf (s.nvmemWrite v) :=
  ⟨memInv_nvmemWrite h.mem v, h.pmu, h.spm, h.mdcr⟩

theorem StateWf.advance (h : StateWf s) : StateWf s.advance := ⟨h.mem, h.pmu, h.spm, h.mdcr⟩

theorem StateWf.drawn (h : StateWf s) (k : Nat) : StateWf (s.drawn k) := ⟨h.mem, h.pmu, h.spm, h.mdcr⟩

theorem StateWf.takeException (h : StateWf s) (e : Exception) : StateWf (takeException e s) :=
  ⟨h.mem, h.pmu, h.spm, h.mdcr⟩

theorem StateWf.redrawEdges (h : StateWf s) (old : State) : StateWf (redrawEdges old s) :=
  h.congr_pmu (by simp) (by simp) (h.pmu.redrawEdges old) (by simp) (by simp) (by simp)

theorem StateWf.tick (h : StateWf s) (c : Context) (o : Occurrences) (k : Nat) : StateWf (tick c o k s) :=
  h.congr_pmu (by simp) (by simp) (h.pmu.tick c o k) (by simp) (by simp) (by simp)

theorem StateWf.updateUnit {n : Nat} {f : SpmuConfig → SpmUnit → SpmUnit} (h : StateWf s)
    (hf : ∀ p, UnitWf s.cfg n p (s.unit n) → UnitWf s.cfg n p (f p (s.unit n))) : StateWf (updateUnit n f s) :=
  ⟨memInv_congr (by simp) (by simp) h.mem, by rw [updateUnit_cfg, updateUnit_pmu]; exact h.pmu,
    spmInv_updateUnit h.spm hf, mdcrInv_congr (by simp) (by simp) (by simp) h.mdcr⟩

theorem resetPE_cfg (cold : Bool) (s : State) : (resetPE cold s).cfg = s.cfg := by unfold resetPE; rfl
theorem resetPE_pmu (cold : Bool) (s : State) : (resetPE cold s).pmu = resetPmuRegs cold s := by unfold resetPE; rfl
theorem resetPE_mdcrEl2 (cold : Bool) (s : State) : (resetPE cold s).mdcrEl2 = resetMdcrEl2 cold s := by
  unfold resetPE; rfl
theorem resetPE_mdcrEl3 (cold : Bool) (s : State) : (resetPE cold s).mdcrEl3 = resetMdcrEl3 cold s := by
  unfold resetPE; rfl

theorem spmInv_resetPE (h : s.SpmInv) (cold : Bool) : (resetPE cold s).SpmInv := by
  have hunit : ∀ m, (resetPE cold s).unit m = s.unit m := fun m => by
    rw [State.unit, resetPE_units, State.unit]
  obtain ⟨-, -, -, -, hunits⟩ := h
  refine ⟨?_, ?_, ?_, ?_, fun m => unitInv_congr (resetPE_cfg cold s) (hunit m) (hunits m)⟩
  all_goals unfold resetPE; exact within_and_mask _ _

theorem mdcrInv_resetPE (cold : Bool) (s : State) : (resetPE cold s).MdcrInv := by
  rw [State.MdcrInv, resetPE_cfg, resetPE_mdcrEl2, resetPE_mdcrEl3]
  exact ⟨within_and_mask _ _, within_and_mask _ _⟩

theorem StateWf.resetPE (h : StateWf s) (cold : Bool) : StateWf (resetPE cold s) :=
  ⟨memInv_congr (resetPE_cfg cold s) (resetPE_mem cold s) h.mem,
    by rw [resetPE_cfg, resetPE_pmu]; exact h.pmu.resetPmuRegs cold, spmInv_resetPE h.spm cold, mdcrInv_resetPE cold s⟩

theorem StateWf.reset (h : StateWf s) (k : ResetKind) : StateWf (reset k s) := by
  cases k with
  | cold => exact h.resetPE true
  | warm => exact h.resetPE false
  | systemPMU n => exact (h.updateUnit fun p _ => unitWf_resetUnit s n p).drawn 72

/-- Another PE's write is one at its own Exception level. -/
theorem StateWf.sharedWrite (h : StateWf s) (r : Reg) (el : EL) (v : Word) : StateWf (sharedWrite r el v s) := by
  have hel : StateWf { s with inp := { s.inp with el := el } } := ⟨h.mem, h.pmu, h.spm, h.mdcr⟩
  have hwritten := hel.writeReg r v
  exact ⟨hwritten.mem, hwritten.pmu, hwritten.spm, hwritten.mdcr⟩

theorem StateWf.finishRead {a : Access} {t : Nat} (h : StateWf s) (hnext : finishRead a t s = .next s') :
    StateWf s' := by
  obtain ⟨hcfg, -, -, hpmu, hspm, hmdcr2, hmdcr3, hmem, -⟩ := finishRead_next hnext
  exact h.congr hcfg hmem hpmu hspm hmdcr2 hmdcr3

theorem StateWf.finishWrite {a : Access} {t : Nat} (h : StateWf s) (hnext : finishWrite a t s = .next s') :
    StateWf s' := by
  rcases finishWrite_eq a t s with ⟨r, _, e⟩ | ⟨_, e⟩ | ⟨_, e⟩ | ⟨_, e⟩ | ⟨el, _, e⟩ <;> rw [e] at hnext <;> cases hnext
  · exact (h.writeReg r _).advance
  · exact h.advance
  · exact (h.nvmemWrite _).advance
  · exact h.takeException _
  · exact h.takeException _

theorem StateWf.exec {i : Instr} (h : StateWf s) (hnext : exec i s = .next s') : StateWf s' := by
  obtain ⟨a, s₁, hs₁, hend⟩ := exec_shape i s
  have h₁ : StateWf s₁ := by
    obtain rfl | rfl := hs₁
    · exact h
    · exact h.drawn 1
  obtain hr | hw := hend
  · exact h₁.finishRead (hr ▸ hnext)
  · exact h₁.finishWrite (hw ▸ hnext)

theorem StateWf.executePE (h : StateWf s) (hnext : executePE s = .next s') : StateWf s' := by
  unfold Machine.executePE executeWord at hnext
  split at hnext
  · cases hnext
  · split at hnext
    · cases hnext
    · split at hnext
      · exact h.exec hnext
      · cases hnext
        exact h.takeException _
      · cases hnext

/-- Where a move of the environment that must be allowed makes a step, it is to the state it is allowed to reach. -/
theorem eq_of_ite_refused {allowed : Prop} [Decidable allowed] {t : State} {r : Refusal}
    (h : (if allowed then Host.Outcome.next t else .refused r : Outcome) = .next s') : t = s' := by
  split at h
  · exact Host.Outcome.next.inj h
  · cases h

/-- Each move of the environment, where it is allowed, is one of the operations above. -/
theorem StateWf.envStep {e : EnvEvent} (h : StateWf s) (hnext : envStep e s = .next s') : StateWf s' := by
  cases e with
  | tick el ss streaming occ others insts =>
    rw [Machine.envStep] at hnext
    obtain rfl := eq_of_ite_refused hnext
    exact h.tick _ _ _
  | spmuStep n k d source =>
    rw [Machine.envStep] at hnext
    obtain rfl := eq_of_ite_refused hnext
    exact h.updateUnit fun p hu => hu.steppedUnit k d
  | reset kind =>
    cases kind with
    | cold => cases hnext; exact h.reset .cold
    | warm => cases hnext; exact h.reset .warm
    | systemPMU n =>
      rw [Machine.envStep] at hnext
      obtain rfl := eq_of_ite_refused hnext
      exact h.reset (.systemPMU n)
  | setInputs i =>
    rw [Machine.envStep] at hnext
    obtain rfl := eq_of_ite_refused hnext
    exact StateWf.redrawEdges (s := { s with inp := i }) ⟨h.mem, h.pmu, h.spm, h.mdcr⟩ s
  | setChoices c =>
    rw [Machine.envStep] at hnext
    obtain rfl := eq_of_ite_refused hnext
    exact StateWf.redrawEdges (s := { s with choices := c }) ⟨h.mem, h.pmu, h.spm, h.mdcr⟩ s
  | nvmemWrite a b =>
    rw [Machine.envStep] at hnext
    split at hnext
    case isTrue ha =>
      cases hnext
      exact ⟨memInv_writeByte h.mem ha b, h.pmu, h.spm, h.mdcr⟩
    case isFalse => cases hnext
  | pmiarWrite v =>
    rw [Machine.envStep] at hnext
    obtain rfl := eq_of_ite_refused hnext
    exact ⟨h.mem, { h.pmu with }, h.spm, h.mdcr⟩
  | setX t v =>
    rw [Machine.envStep] at hnext
    obtain rfl := eq_of_ite_refused hnext
    exact ⟨h.mem, h.pmu, h.spm, h.mdcr⟩
  | redirect pc program =>
    cases hnext
    exact ⟨h.mem, h.pmu, h.spm, h.mdcr⟩
  | sharedSpmuWrite r el v =>
    rw [Machine.envStep] at hnext
    obtain rfl := eq_of_ite_refused hnext
    exact h.sharedWrite r el v

theorem StateWf.step (h : StateWf s) (hnext : step s = .next s') : StateWf s' := by
  have hscheduled : ∀ moves, StateWf { s with schedule := moves } := fun _ => ⟨h.mem, h.pmu, h.spm, h.mdcr⟩
  unfold Machine.step at hnext
  split at hnext
  · exact (hscheduled _).envStep hnext
  · exact (hscheduled _).executePE hnext
  · exact h.executePE hnext

end

/-- Settles O8: every transition keeps each part of the invariant. -/
theorem everyStepKeepsTheInvariant : Obligations.EveryStepKeepsTheInvariant :=
  fun _ _ h hnext => inv_iff.mpr ((inv_iff.mp h).step hnext)

/-- Settles O9, by evaluating the four parts of the invariant in the one reset state. -/
theorem resetSatisfiesTheInvariant : Obligations.ResetSatisfiesTheInvariant := by
  unfold Obligations.ResetSatisfiesTheInvariant
  have hmem : State.reset.MemInv := by decide
  have hpmu : State.reset.PmuInv := by decide +kernel
  have hspm : State.reset.SpmInv := by decide +kernel
  have hmdcr : State.reset.MdcrInv := by decide +kernel
  exact ⟨hmem, hpmu, hspm, hmdcr⟩

end Sys2Proof.Machine
